-- ==== Sys2Proof/Word.lean ====
section
/-! DEFINITION. The word types of the Goanax G1 model. -/

namespace Sys2Proof

/-- One byte. -/
abbrev Byte := BitVec 8
/-- A 16-bit word. -/
abbrev Half := BitVec 16
/-- A 32-bit word: a lane register, an FP32 value. -/
abbrev W32 := BitVec 32
/-- A 64-bit word: a control-core register, a register image, a global address. -/
abbrev W64 := BitVec 64
/-- A 10-bit master id (R41). -/
abbrev Mid := BitVec 10

end Sys2Proof
end

