-- ==== Sys2Proof/Syntax.lean ====
section
/-! DEFINITION. The commands of the device: one constructor per row of the table of operations and events. A command
names the unit it happens at and carries what comes from outside the block (data of remote memory, measured values, step
counts); everything else it does is determined by the state. -/

namespace Sys2Proof

/-- A write that reaches a register or an object: either the posted request numbered `rq`, whose fields then count, or a
write by master `mid` to `addr` of the low `len` bytes of `data`. DEDUCED: log entry 7. -/
structure Wr where
  rq   : Option Nat
  mid  : Mid
  addr : W64
  len  : Nat
  data : W64
  deriving DecidableEq, Repr

/-- The head of an Ethernet frame at the management port (R360): destination, source and EtherType. -/
structure Eth where
  dst  : BitVec 48
  src  : BitVec 48
  type : Half
  deriving DecidableEq, Repr

/-- The path of a dictionary access whose effect has a row of its own: the mirror (a posted request, or a write by a
master), or a Deale frame (its head, session, sequence number). -/
inductive OdVia where
  | mirror (rq : Option Nat) (mid : Mid)
  | deale (eth : Eth) (session : Half) (seq : Half)
  deriving DecidableEq, Repr

/-- The unit that issues a synchronisation operation: the control core of a physical tile, or a group by its hardware
group number. -/
inductive SUnit where
  | core (t : Fin 144)
  | group (t : Fin 144) (slot : Fin 64)
  deriving DecidableEq, Repr

/-- A memory whose poison sweep completes (R296): an HBM stack, the Bedrock slice, a tile's store. -/
inductive SweptMem where
  | hbm (s : Fin 8)
  | bedrock (s : Fin 8)
  | store (t : Fin 144)
  deriving DecidableEq, Repr

/-- Where a packet from another device waits (R340). -/
inductive Residence where
  | ingress
  | egress
  | router
  | home
  deriving DecidableEq, Repr

/-- One command. -/
inductive Instr where
  /-- REGISTER_WRITE (R7): A write to a register field that has no row of its own takes effect under the field's access code. -/
  | registerWrite (w : Wr)
  /-- ACT_ENTRY_BASE_LIMIT_WRITE (R49): A write to BASE or LIMIT of an access-table entry is applied, or is ignored and sets WHILE_VALID if the entry is valid. -/
  | actEntryBaseLimitWrite (w : Wr)
  /-- ACT_ENTRY_CTRL_WRITE (R50): A CTRL word write to an access-table entry is accepted whole, checked when it sets VALID, or ignored. -/
  | actEntryCtrlWrite (w : Wr)
  /-- ACT_SYNC_WRITE (R51): A write to ACT_SYNC opens a lookup fence at the target. -/
  | actSyncWrite (w : Wr)
  /-- ACT_SYNC_READ (R51): A read of ACT_SYNC is held until every lookup that began before the fence write has finished. -/
  | actSyncRead (target : Fin 20) (mid : Mid)
  /-- ACT_SYNC_RETURN (R51): The last lookup that was pending at the fence finishes and the held ACT_SYNC read returns 0. -/
  | actSyncReturn (target : Fin 20)
  /-- INSN_FETCH_RETURN (R119): Instruction bytes fetched for a control core arrive, are cached, and the core goes on. -/
  | insnFetchReturn (t : Fin 144)
  /-- ALU (R123): A control-core register-register ALU instruction executes the function that func selects. -/
  | alu (t : Fin 144)
  /-- ALUI (R123): A control-core ALU instruction with an immediate operand executes. -/
  | alui (t : Fin 144)
  /-- IMMW (R123): Sixteen bits of a control-core register are written from the immediate. -/
  | immw (t : Fin 144)
  /-- CORE_LOAD (R120): A control-core load is checked and sent to its global address, and the core blocks. -/
  | coreLoad (t : Fin 144)
  /-- CORE_LOAD_RETURN (R120): The data of a control-core load returns and the core resumes. -/
  | coreLoadReturn (t : Fin 144)
  /-- CORE_STORE (R120): A control-core store is checked and posted to its global address. -/
  | coreStore (t : Fin 144)
  /-- BR (R123): A conditional branch compares two registers and may change the PC. -/
  | br (t : Fin 144)
  /-- JAL (R123): Jump and link to a PC-relative target. -/
  | jal (t : Fin 144)
  /-- JALR (R123): Jump and link to a register target. -/
  | jalr (t : Fin 144)
  /-- PASS (R127): The ISSUE PASS instruction reads a pass descriptor from the tile store and offers it to the array queue. -/
  | pass (t : Fin 144)
  /-- PASSR (R127): The ISSUE PASSR instruction offers a pass descriptor held in eight registers. -/
  | passr (t : Fin 144)
  /-- DMA (R128): The ISSUE DMA instruction reads a DMA descriptor and offers it to a mover queue. -/
  | dma (t : Fin 144)
  /-- KLAUNCH (R130): The ISSUE KLAUNCH instruction reads a kernel launch descriptor and offers it to the kernel queue. -/
  | klaunch (t : Fin 144)
  /-- ISSUE_ACCEPT (R127): A stalled ISSUE is accepted once its checks pass and there is queue and scoreboard room, and its registrations are placed. -/
  | issueAccept (t : Fin 144)
  /-- TWAIT (R136): The core stalls until no earlier write registration on the tag remains. -/
  | twait (t : Fin 144)
  /-- TDRAIN (R136): The core stalls until no earlier registration of either kind on the tag remains. -/
  | tdrain (t : Fin 144)
  /-- TCLAIM (R136): The core registers a write claim on a tag and stalls until earlier reads release. -/
  | tclaim (t : Fin 144)
  /-- TREL (R136): The core releases its claim on a tag, or faults with SB_NO_CLAIM. -/
  | trel (t : Fin 144)
  /-- TSTATE (R136): The core reads the registration state of a tag without stalling. -/
  | tstate (t : Fin 144)
  /-- NOP (R123): A control-core no-operation. -/
  | nop (t : Fin 144)
  /-- MFC (R126): The core reads a register of its own control block. -/
  | mfc (t : Fin 144)
  /-- MTC (R126): The core writes a register of its own control block under that register's access code. -/
  | mtc (t : Fin 144)
  /-- END (R122): The control program ends and the core stops, or faults with SB_CLAIM_OPEN. -/
  | coreEnd (t : Fin 144)
  /-- BRK (R500): A breakpoint instruction starts a halt of the tile with the PC on the BRK. -/
  | brk (t : Fin 144)
  /-- FENCE (R121): The core waits until every earlier store has been performed at its home. -/
  | fence (t : Fin 144)
  /-- WEIGHT_LOAD_START (R73): The array starts the shadow load of a queued pass's weights at its load start. -/
  | weightLoadStart (t : Fin 144)
  /-- SHADOW_LOAD_COMPLETE (R73): The shadows of all 256 cell rows hold the next pass's weights and TAG_W is released. -/
  | shadowLoadComplete (t : Fin 144)
  /-- PASS_START (R70): Row 0 of the head pass enters the array once its tags are ready and its reload allows it. -/
  | passStart (t : Fin 144) (held : Nat)
  /-- ROW_ADMIT (R75): A streamed row enters the array after any accumulate interlock that held it. -/
  | rowAdmit (t : Fin 144) (held : Nat)
  /-- OUT_RESULT_WRITTEN (R71): A result completes at the array foot and is written to the tile store. -/
  | outResultWritten (t : Fin 144) (pass : Nat) (row : Nat)
  /-- PASS_DONE (R71): The last result of a pass is written and TAG_OUT is released. -/
  | passDone (t : Fin 144)
  /-- ARR_PARITY (R79): A cell finds a parity error in an active or shadow weight, poisons affected results and aborts the task. -/
  | arrParity (t : Fin 144) (shadow : Bool) (col : Fin 256) (row : Nat)
  /-- ARR_STUCK (R79): The array watchdog expires on a handshake that does not complete. -/
  | arrStuck (t : Fin 144)
  /-- RAMP_TOKEN_GRANT (R102): A waiting array receives a ramp token of its region and starts its ramp. -/
  | rampTokenGrant (t : Fin 144) (waited : Nat)
  /-- RAMP_STEP (R100): At each RAMP/8 step the array enables or disables its next row block, reaching ON or OFF at the end. -/
  | rampStep (t : Fin 144)
  /-- IDLE_HOLD_EXPIRY (R104): An idle array in ON completes its idle hold and begins ramp-off. -/
  | idleHoldExpiry (t : Fin 144)
  /-- RIDDLE_REQUEST_CHANGE (R107): A Riddle request source is asserted or deasserted for an array. -/
  | riddleRequestChange (t : Fin 144) (source : Fin 3)
  /-- DMA_COPY (R128): A mover starts a COPY descriptor once its tag conditions hold. -/
  | dmaCopy (t : Fin 144) (m : Fin 4)
  /-- DMA_FILL (R128): A mover starts a FILL descriptor once its tag conditions hold. -/
  | dmaFill (t : Fin 144) (m : Fin 4)
  /-- DMA_REDUCE (R256): A mover starts a REDUCE descriptor that issues add-to-line operations. -/
  | dmaReduce (t : Fin 144) (m : Fin 4)
  /-- DMA_ROWOP (R272): A mover starts a ROWOP descriptor, reads its row-op descriptors and hands each to its bank. -/
  | dmaRowop (t : Fin 144) (m : Fin 4)
  /-- DMA_SIGNAL (R133): A mover sends a release counter increment after every earlier descriptor of the mover has completed. -/
  | dmaSignal (t : Fin 144) (m : Fin 4)
  /-- DMA_REQUEST_ISSUE (R140): A mover issues its next request of up to 256 bytes. -/
  | dmaRequestIssue (t : Fin 144) (m : Fin 4) (write : Bool)
  /-- DMA_DONE (R132): A DMA descriptor completes and its tag registrations are released. -/
  | dmaDone (t : Fin 144) (m : Fin 4)
  /-- SB_TIMEOUT (R137): The scoreboard watchdog expires on a registration or stalled instruction, and the task aborts. -/
  | sbTimeout (t : Fin 144) (tag : Fin 64)
  /-- KERNEL_START (R131): The next kernel starts, and the L0 caches and tile L1 are invalidated. -/
  | kernelStart (t : Fin 144)
  /-- GROUP_START (R146): The next group of a kernel takes a free residency slot with its registers initialised. -/
  | groupStart (t : Fin 144)
  /-- KERNEL_END (R131): All groups have finished and the dirty L1 lines are written back, so the kernel ends. -/
  | kernelEnd (t : Fin 144)
  /-- GROUP_FETCH_RETURN (R149): Group instruction bytes arrive from the shared instruction cache's fetch. -/
  | groupFetchReturn (t : Fin 144) (slot : Fin 64)
  /-- VINT (R150): A group 32-bit integer vector instruction executes in active lanes. -/
  | vint (t : Fin 144) (slot : Fin 64)
  /-- VFP (R152): A group FP32 vector instruction executes in active lanes. -/
  | vfp (t : Fin 144) (slot : Fin 64)
  /-- VMEM_LOAD (R165): A group vector load is issued, cacheable or bypass. -/
  | vmemLoad (t : Fin 144) (slot : Fin 64)
  /-- GROUP_LOAD_RETURN (R166): The data of a group load returns to its registers. -/
  | groupLoadReturn (t : Fin 144) (slot : Fin 64) (op : Nat)
  /-- VMEM_STORE (R166): A group vector store is issued, written through to the tile L1 or bypassed. -/
  | vmemStore (t : Fin 144) (slot : Fin 64)
  /-- VATOM (R170): A returning group atomic is performed at its home slice with the line locked. -/
  | vatom (t : Fin 144) (slot : Fin 64)
  /-- VATOM_RED (R170): A group RED is posted as add-to-line or minmax-to-line at the home. -/
  | vatomRed (t : Fin 144) (slot : Fin 64)
  /-- FENCE_G (R168): A group waits for its earlier loads, stores and bypass accesses. -/
  | fenceG (t : Fin 144) (slot : Fin 64)
  /-- FENCE_T (R168): As FENCE.G, then the sequencer's L0 is invalidated. -/
  | fenceT (t : Fin 144) (slot : Fin 64)
  /-- FENCE_D (R168): The group waits for all dirty L1 bytes to be performed, then clean L1 lines and the L0 are invalidated. -/
  | fenceD (t : Fin 144) (slot : Fin 64)
  /-- IF (R157): A mask entry is pushed and the active mask narrows to the condition. -/
  | maskIf (t : Fin 144) (slot : Fin 64)
  /-- ELSE (R157): The else lanes become active. -/
  | maskElse (t : Fin 144) (slot : Fin 64)
  /-- ENDIF (R157): The saved mask is restored and the entry popped. -/
  | maskEndif (t : Fin 144) (slot : Fin 64)
  /-- LOOP (R157): A loop entry is pushed. -/
  | maskLoop (t : Fin 144) (slot : Fin 64)
  /-- BREAK (R157): Lanes leave the innermost loop. -/
  | maskBreak (t : Fin 144) (slot : Fin 64)
  /-- CONT (R157): The back edge is taken while any lane is active. -/
  | maskCont (t : Fin 144) (slot : Fin 64)
  /-- ENDLOOP (R157): The loop mask is restored and the entry popped. -/
  | maskEndloop (t : Fin 144) (slot : Fin 64)
  /-- EXIT (R158): Lanes become exited and leave every mask. -/
  | maskExit (t : Fin 144) (slot : Fin 64)
  /-- GROUP_END (R158): A group END exits every active lane, or faults on a non-empty stack. -/
  | groupEnd (t : Fin 144) (slot : Fin 64)
  /-- JMP (R160): A uniform unconditional branch. -/
  | jmp (t : Fin 144) (slot : Fin 64)
  /-- BRA_ANY (R160): A uniform branch when the condition holds in any active lane. -/
  | braAny (t : Fin 144) (slot : Fin 64)
  /-- BRA_ALL (R160): A uniform branch when the condition holds in every active lane. -/
  | braAll (t : Fin 144) (slot : Fin 64)
  /-- CALL (R160): A uniform call that saves the return address in a u register. -/
  | call (t : Fin 144) (slot : Fin 64)
  /-- RET (R160): A uniform return to the address in a u register. -/
  | ret (t : Fin 144) (slot : Fin 64)
  /-- UNI (R150): A uniform 64-bit integer instruction on u registers executes. -/
  | uni (t : Fin 144) (slot : Fin 64)
  /-- PRED (R150): A predicate-register instruction, BALLOT included, executes. -/
  | pred (t : Fin 144) (slot : Fin 64)
  /-- MMA_BF16 (R163): A BF16 group matrix multiply-accumulate starts on the group matrix unit. -/
  | mmaBf16 (t : Fin 144) (slot : Fin 64)
  /-- MMA_FP8 (R163): An FP8 group matrix multiply-accumulate starts. -/
  | mmaFp8 (t : Fin 144) (slot : Fin 64)
  /-- MMA_INT8 (R163): An INT8 group matrix multiply-accumulate starts. -/
  | mmaInt8 (t : Fin 144) (slot : Fin 64)
  /-- GMX_RESULT_READY (R164): The D fragment of a GMX instruction becomes ready 4 steps after the unit's occupancy ends. -/
  | gmxResultReady (t : Fin 144) (seqr : Fin 8)
  /-- SHFL (R150): Lanes read a register of another lane. -/
  | shfl (t : Fin 144) (slot : Fin 64)
  /-- BCAST (R150): A u register is broadcast to every lane. -/
  | bcast (t : Fin 144) (slot : Fin 64)
  /-- RDLANE (R150): The lowest active lane's value is read into a u register. -/
  | rdlane (t : Fin 144) (slot : Fin 64)
  /-- CTR_RD (R203): A counter's value is read at its home. -/
  | ctrRd (u : SUnit)
  /-- CTR_INC (R211): A counter increment is checked for epoch, pair bound and overflow at the home, then applied, held or refused, waking reached waiters. -/
  | ctrInc (u : SUnit)
  /-- CTR_WAIT (R208): A wait on counter value reaching a target returns or is held at the home. -/
  | ctrWait (u : SUnit)
  /-- LOCK_ACQ (R217): A lock is acquired or the acquirer queues. -/
  | lockAcq (u : SUnit) (late : Bool)
  /-- LOCK_TRY (R203): A lock is tried without waiting. -/
  | lockTry (u : SUnit)
  /-- LOCK_REL (R217): The owner releases the lock to the oldest waiter or frees it. -/
  | lockRel (u : SUnit)
  /-- EVT_SET (R220): An event is set and its waiters woken according to AUTO. -/
  | evtSet (u : SUnit)
  /-- EVT_CLR (R220): An event is cleared. -/
  | evtClr (u : SUnit)
  /-- EVT_WAIT (R220): A wait on an event returns or is held. -/
  | evtWait (u : SUnit)
  /-- BAR_JOIN (R221): The tile joins a barrier channel's member mask. -/
  | barJoin (t : Fin 144)
  /-- BAR_LEAVE (R221): The tile leaves a barrier channel and its arrivals are withdrawn. -/
  | barLeave (t : Fin 144)
  /-- BAR_ARRIVE (R222): An arrival counts, stalls, or releases the round. -/
  | barArrive (u : SUnit)
  /-- BAR_WAIT (R222): A wait for the release of the unit's last round returns or is held. -/
  | barWait (u : SUnit)
  /-- BAR_SYNC (R208): An arrival and then a wait under one timeout. -/
  | barSync (u : SUnit)
  /-- SYN_TIMEOUT (R209): A wait, held increment or stalled arrival expires and is recorded. -/
  | synTimeout (wait : Nat)
  /-- INCREMENT_ALIAS_WRITE (R212): An 8-byte write to a counter's increment alias is an increment that is never held. -/
  | incrementAliasWrite (w : Wr)
  /-- SYN_CTR_WRITE (R213): A plain write sets a counter's value, or is refused. -/
  | synCtrWrite (w : Wr)
  /-- SYN_ATTR_WRITE (R200): An attribute word write replaces the word and clears the object, pairing counters, or is refused. -/
  | synAttrWrite (w : Wr)
  /-- SYN_PLAIN_WRITE (R217): A plain write to a lock or event state word is refused and recorded. -/
  | synPlainWrite (w : Wr)
  /-- SYN_BAR_CFG_WRITE (R224): A barrier channel configuration write is accepted while MEMBERS is 0, or refused. -/
  | synBarCfgWrite (w : Wr)
  /-- SYN_TIMEOUT_WRITE (R208): A write to a tile's SYN_TIMEOUT is taken, or refused for an out-of-range value. -/
  | synTimeoutWrite (w : Wr)
  /-- HANDSET_CTR_SET (R227): A debugger sets a counter's value by hand. -/
  | handsetCtrSet (w : Wr)
  /-- HANDSET_LOCK_FREE (R227): A debugger removes a lock's owner. -/
  | handsetLockFree (w : Wr)
  /-- HANDSET_EVT_SET (R227): A debugger sets an event by hand. -/
  | handsetEvtSet (w : Wr)
  /-- HANDSET_EVT_CLR (R227): A debugger clears an event by hand. -/
  | handsetEvtClr (w : Wr)
  /-- HANDSET_BAR_RELEASE (R227): A debugger releases a barrier round whatever the arrivals. -/
  | handsetBarRelease (w : Wr)
  /-- HANDSET_WAKE (R227): Every wait and held increment on an object ends with FORCED. -/
  | handsetWake (w : Wr)
  /-- HANDSET_CLEAR (R227): A debugger clears an object. -/
  | handsetClear (w : Wr)
  /-- TASK_FETCH (R177): The device scheduler starts reading task n when the submit counter exceeds n and the window has room. -/
  | taskFetch (p : Fin 8)
  /-- TASK_DESCRIPTOR_READ (R181): A fetched descriptor arrives, is checked, and enters the window or is REFUSED. -/
  | taskDescriptorRead (p : Fin 8)
  /-- TASK_PLACE (R183): An eligible task is placed on all its tiles at once, and its control cores start. -/
  | taskPlace (p : Fin 8)
  /-- TD_WAIT_TIMEOUT (R185): A task's wait expires before placement and the task ends ABORTED. -/
  | tdWaitTimeout (p : Fin 8) (seq : Nat)
  /-- SUBMIT_REARM (R179): The scheduler's wait on a submit counter expires without error and is armed again. -/
  | submitRearm (p : Fin 8)
  /-- TILE_COMPLETE (R122): A tile's share of a task completes, and the task becomes DONE when it is the last. -/
  | tileComplete (t : Fin 144)
  /-- TD_INC_APPLY (R186): After TD_STATUS is performed, the completion increments are applied and the release counter may advance. -/
  | tdIncApply (p : Fin 8) (seq : Nat)
  /-- TILE_ABORT (R138): A tile receives its task's abort and stops its units. -/
  | tileAbort (t : Fin 144)
  /-- TILE_QUIET (R186): An aborting tile becomes quiet, and the task becomes ABORTED when it is the last. -/
  | tileQuiet (t : Fin 144)
  /-- PAUSE (R193): The partition goes from RUN to PAUSED. -/
  | pause (via : OdVia) (p : Fin 8)
  /-- RESUME (R193): The partition returns to RUN. -/
  | resume (via : OdVia) (p : Fin 8)
  /-- PREEMPT (R193): The partition pauses and every placed task not yet complete aborts with PREEMPTED. -/
  | preempt (via : OdVia) (p : Fin 8)
  /-- SECTOR_PARTITION_MAP_WRITE (R194): A write of the sector partition map is accepted only when every partition it changes is STOPPED. -/
  | sectorPartitionMapWrite (via : OdVia) (value : W64)
  /-- TASK_LIST_WRITE (R202): A task-list object write starts a new list and re-pairs and clears its counters. -/
  | taskListWrite (via : OdVia) (p : Fin 8) (sub : Fin 4) (value : W64)
  /-- LLC_ACCESS (R235): An access to a local HBM line is performed by its home slice: hit, miss with a fill, join, park or write. -/
  | llcAccess (req : Nat)
  /-- SCRATCH_ACCESS (R232): A scratch access is served by the slice port in its bank. -/
  | scratchAccess (req : Nat)
  /-- TILE_STORE_WINDOW_ACCESS (R36): An access through a tile store window reaches the tile store. -/
  | tileStoreWindowAccess (req : Nat)
  /-- LLC_FILL_RETURN (R246): A fill returns from HBM, is allocated and delivered to every joined requester, and the miss register frees. -/
  | llcFillReturn (slice : Fin 8) (line : Nat)
  /-- ADD_TO_LINE (R254): An add-to-line or minmax-to-line is performed at the home with the target line locked. -/
  | addToLine (req : Nat)
  /-- BDR_PIN_BASE_LIMIT_WRITE (R242): A write to BASE or LIMIT of a pin-hint range is applied, or ignored while VALID. -/
  | bdrPinBaseLimitWrite (w : Wr)
  /-- BDR_PIN_CTRL_WRITE (R242): A VALID write is checked, or clearing VALID starts an unpin walk. -/
  | bdrPinCtrlWrite (w : Wr)
  /-- UNPIN_WALK_DONE (R242): An unpin walk finishes and WALK reads 0. -/
  | unpinWalkDone (n : Fin 16)
  /-- THRASH_WINDOW_END (R243): A thrash window ends and the slice enters or leaves thrash. -/
  | thrashWindowEnd (slice : Fin 8)
  /-- HOIST_PREFETCH (R259): The Hoist issues its next stream-class prefetch. -/
  | hoistPrefetch (slice : Fin 8) (key : Nat)
  /-- DETECTED_STREAM_IDLE (R262): A detected stream's idle timeout expires and the stream ends. -/
  | detectedStreamIdle (slice : Fin 8) (key : Nat)
  /-- BDR_IMM_FENCE_WRITE (R264): A write to BDR_IMM_FENCE starts an immutable fence. -/
  | bdrImmFenceWrite (w : Wr)
  /-- IMM_FENCE_DONE (R264): The immutable fence has visited every set and remote fills allocate again. -/
  | immFenceDone
  /-- ROP_SUBMIT (R272): A write to ROP_SUBMIT queues a descriptor address, or is dropped when the queue is full. -/
  | ropSubmit (w : Wr)
  /-- ROP_DESCRIPTOR_READ (R272): The row-op engine receives a submitted descriptor and hands it to its bank. -/
  | ropDescriptorRead (slice : Fin 8)
  /-- ROP_COPY (R268): A COPY row operation starts in its bank. -/
  | ropCopy (bank : Fin 512)
  /-- ROP_INIT (R268): An INIT row operation starts on its next row. -/
  | ropInit (bank : Fin 512)
  /-- ROP_NOT (R268): A NOT row operation starts. -/
  | ropNot (bank : Fin 512)
  /-- ROP_AND (R268): An AND row operation starts. -/
  | ropAnd (bank : Fin 512)
  /-- ROP_OR (R268): An OR row operation starts. -/
  | ropOr (bank : Fin 512)
  /-- ROP_XOR (R268): An XOR row operation starts. -/
  | ropXor (bank : Fin 512)
  /-- ROP_MAJ3 (R268): A MAJ3 row operation starts. -/
  | ropMaj3 (bank : Fin 512)
  /-- ROW_OP_COMPLETE (R280): A row operation completes, retries on a correctable source or poisons words, and writes its status. -/
  | rowOpComplete (bank : Fin 512)
  /-- BANK_READY (R276): After tROPX the bank's ready signal rises and waiting ordinary accesses are served first. -/
  | bankReady (bank : Fin 512)
  /-- ROP_STUCK (R284): The row-op watchdog expires and the bank leaves row-op service. -/
  | ropStuck (bank : Fin 512)
  /-- HBM_FILL_CMD (R300): A write of START starts a fill of the stack with the pattern. -/
  | hbmFillCmd (w : Wr)
  /-- STACK_FILL_DONE (R300): A stack fill completes. -/
  | stackFillDone (stack : Fin 8) (lines : Nat)
  /-- POISON_SWEEP_DONE (R296): A poison sweep of a memory completes. -/
  | poisonSweepDone (mem : SweptMem)
  /-- SCRUB_READ (R301): A scrubber reads its next word in an idle cycle and corrects or poisons it. -/
  | scrubRead (bedrock : Bool) (n : Fin 8)
  /-- BUCKET_LEAK (R302): A bucket's leak period expires and its level falls by one. -/
  | bucketLeak (kind : Fin 3) (n : Fin 8)
  /-- REGULATOR_WINDOW_START (R309): A port's regulator window starts, refilling budgets and quotas. -/
  | regulatorWindowStart (port : Fin 90)
  /-- REQUEST_ADMIT (R308): A request is admitted to an arbiter input and charged, or its master is masked. -/
  | requestAdmit (port : Fin 90) (req : Nat)
  /-- ARBITER_GRANT (R312): The arbiter grants the head of the highest eligible input. -/
  | arbiterGrant (port : Fin 90)
  /-- TRANSFER_END (R315): A granted transfer ends and the port may grant again. -/
  | transferEnd (port : Fin 90)
  /-- TARGET_RESOURCE_FREE (R314): A target signals that a lacked resource is free and the returned request becomes eligible. -/
  | targetResourceFree (port : Fin 90) (input : Fin 16)
  /-- ARB_STUCK (R315): The port watchdog expires on a transfer, which is discarded. -/
  | arbStuck (port : Fin 90)
  /-- FRAME_RECEIVE (R322): A link frame is received, checked, and accepted or discarded with a NAK. -/
  | frameReceive (link : Fin 65) (seq : BitVec 12) (corrected : Fin 16) (uncorrectable : Bool) (slots : List Byte) (crc : BitVec 20)
  /-- REPLAY_TIMEOUT (R322): No acknowledgement arrives for 4 µs and the sender resends from its oldest unacknowledged frame. -/
  | replayTimeout (link : Fin 65)
  /-- PACKET_SEND (R323): A queued packet starts on its link once credits cover its slots. -/
  | packetSend (link : Fin 65) (vc : Fin 12) (idle : Fin 2561) (control : Bool)
  /-- LINK_TRAINING_DONE (R325): A link finishes training and starts NEGOTIATING. -/
  | linkTrainingDone (link : Fin 65) (outcome : Fin 4) (polarity : Fin 16) (reversed : Bool)
  /-- ID_EXCHANGE (R327): The partner's ID_EXCHANGE arrives and the link comes UP or is HELD. -/
  | idExchange (link : Fin 65) (payload : List Byte)
  /-- LINK_DOWN (R341): A link loses lock, sees its partner go idle or exceeds the retry limit, and goes DOWN. -/
  | linkDown (link : Fin 64) (cause : Fin 3)
  /-- RETRAIN_HOLDOFF (R341): A DOWN link's retrain holdoff expires and it retrains fully. -/
  | retrainHoldoff (link : Fin 65)
  /-- RETRAIN (R325): A write of RETRAIN takes a link DOWN and retrains it fully. -/
  | retrain (w : Wr)
  /-- LINK_ENABLE_WRITE (R325): A write of ENABLE enables a link or disables it. -/
  | linkEnableWrite (w : Wr)
  /-- YF_READ (R330): A fabric READ arrives, is forwarded or checked and performed at the home. -/
  | yfRead (link : Fin 64) (vc : Fin 6)
  /-- YF_WRITE (R330): A fabric WRITE arrives and is forwarded or performed. -/
  | yfWrite (link : Fin 64) (vc : Fin 6)
  /-- YF_WRITE_MASKED (R330): A fabric WRITE_MASKED arrives and is forwarded or performed. -/
  | yfWriteMasked (link : Fin 64) (vc : Fin 6)
  /-- YF_ADD_TO_LINE (R330): A fabric ADD_TO_LINE arrives and is forwarded or passed to the home. -/
  | yfAddToLine (link : Fin 64) (vc : Fin 6)
  /-- YF_MINMAX_TO_LINE (R330): A fabric MINMAX_TO_LINE arrives and is forwarded or passed to the home. -/
  | yfMinmaxToLine (link : Fin 64) (vc : Fin 6)
  /-- YF_CTR_INC (R330): A fabric CTR_INC arrives and is forwarded or applied. -/
  | yfCtrInc (link : Fin 64) (vc : Fin 6)
  /-- BARRIER_ARRIVE (R343): A child's barrier arrival reaches the channel. -/
  | barrierArrive (link : Fin 64) (vc : Fin 6)
  /-- BARRIER_RELEASE (R343): A parent's release releases the local round and is sent on to the children. -/
  | barrierRelease (link : Fin 64) (vc : Fin 6)
  /-- YF_READ_DATA (R335): A READ_DATA response reaches its source and completes or refuses the read. -/
  | yfReadData (link : Fin 64) (vc : Fin 6)
  /-- YF_STATUS (R334): A STATUS packet reaches its source, is recorded, and increments the context status counter. -/
  | yfStatus (link : Fin 64) (vc : Fin 6)
  /-- YF_READ_TIMEOUT (R336): A remote read times out and its tag is freed. -/
  | yfReadTimeout (tag : Fin 8192)
  /-- YF_RESIDENCE (R340): A packet exceeds the hop residence limit and is discarded. -/
  | yfResidence (place : Residence) (link : Fin 64) (pos : Nat)
  /-- YF_ROUTE_WRITE (R342): A route table entry is written, which is a route change. -/
  | yfRouteWrite (w : Wr)
  /-- ROUTE_SETTLE (R342): The route settle interval ends and held requests flow on their new links. -/
  | routeSettle (dev : Fin 4096)
  /-- YF_BAR_WRITE (R343): A write to a barrier group register is applied, or ignored while the group is valid. -/
  | yfBarWrite (w : Wr)
  /-- HLD_READ (R349): A companion READ is checked and performed. -/
  | hldRead
  /-- HLD_WRITE (R350): A companion WRITE is checked and performed in order. -/
  | hldWrite
  /-- HLD_WRITE_MASKED (R350): A companion WRITE_MASKED is checked and performed. -/
  | hldWriteMasked
  /-- READ_SHARED (R351): The companion caches a shared-window line in S. -/
  | readShared
  /-- READ_EXCL (R351): The companion takes a shared-window line in E. -/
  | readExcl
  /-- WRITEBACK (R353): The companion releases an E line, with or without data. -/
  | writeback
  /-- SNOOP_RESP (R352): The companion answers a snoop and the waiting access proceeds. -/
  | snoopResp
  /-- WRITE_ACK (R355): The companion acknowledges a device write to its memory. -/
  | writeAck
  /-- HLD_READ_DATA (R355): The companion returns data for a device read of the Hild window. -/
  | hldReadData
  /-- SNOOP_TIMEOUT (R354): A snoop is not answered in time and the Hild link goes DOWN. -/
  | snoopTimeout (line : Nat)
  /-- HLD_LINK_DOWN (R354): The Hild link leaves UP: the directory is freed, E lines poisoned, and outstanding accesses failed. -/
  | hldLinkDown (cause : Fin 3)
  /-- HLD_READ_TIMEOUT (R355): A device read of the Hild window times out. -/
  | hldReadTimeout (req : Nat)
  /-- HLD_WRITE_TIMEOUT (R356): A device write to the Hild window gets no WRITE_ACK in time. -/
  | hldWriteTimeout (req : Nat)
  /-- INTERRUPT_HOLDOFF (R358): The interrupt holdoff ends and one word for the latest qualifying record is written. -/
  | interruptHoldoff
  /-- DEALE_OPEN (R362): A Deale OPEN opens a session in the granted role. -/
  | dealeOpen (eth : Eth) (frame : List Byte)
  /-- DEALE_CLOSE (R362): A Deale CLOSE closes the session. -/
  | dealeClose (eth : Eth) (frame : List Byte)
  /-- DEALE_READ (R363): A Deale READ of a whole entry is executed or answered from the kept response. -/
  | dealeRead (eth : Eth) (frame : List Byte)
  /-- DEALE_WRITE (R363): A Deale WRITE of a whole entry is executed. -/
  | dealeWrite (eth : Eth) (frame : List Byte)
  /-- DEALE_READ_BLOCK (R361): A Deale READ_BLOCK reads bytes of a DOMAIN or VSTRING. -/
  | dealeReadBlock (eth : Eth) (frame : List Byte)
  /-- DEALE_WRITE_BLOCK (R361): A Deale WRITE_BLOCK writes bytes of a DOMAIN or VSTRING. -/
  | dealeWriteBlock (eth : Eth) (frame : List Byte)
  /-- SESSION_TIMEOUT (R362): A Deale session without requests times out and ends. -/
  | sessionTimeout (session : Half)
  /-- OD_MIRROR_READ (R379): A read of a mirror value or descriptor word is checked and returns the value or zero, and the status is set. -/
  | odMirrorRead (mid : Mid) (idx : Half) (sub : Byte) (desc : Bool)
  /-- OD_MIRROR_WRITE (R380): A write to a mirror value word of an entry with no row of its own is checked and performed. -/
  | odMirrorWrite (w : Wr)
  /-- BLOCK_PORT_READ (R381): A block port window read reads bytes of the selected entry. -/
  | blockPortRead (port : Fin 16) (mid : Mid) (off : Nat) (len : Nat)
  /-- BLOCK_PORT_WRITE (R381): A block port window write writes bytes of the selected entry. -/
  | blockPortWrite (port : Fin 16) (mid : Mid) (off : Nat) (data : List Byte)
  /-- SAVE (R376): The store command "save" writes every stored entry to the older copy. -/
  | save (via : OdVia)
  /-- DFLT (R376): The store command "dflt" writes a copy that holds only the flash-default entries. -/
  | dflt (via : OdVia)
  /-- STORE_COMPLETE (R376): A store command finishes and the store state reports its outcome. -/
  | storeComplete (ok : Bool)
  /-- MARK (R389): Every 65,536 Bedrock counts a mark is sent up every bundle, and the Face counts latch. -/
  | mark
  /-- RATE_SAMPLE (R399): Firmware samples a tile's handshake-rate monitor, updates trend and floors, and may retire the tile. -/
  | rateSample (t : Fin 144) (rate : W64)
  /-- BURST_CHECK_FAIL (R392): A bundle burst fails its check and is resent, or on the fourth failure a lane walk starts. -/
  | burstCheckFail (t : Fin 144) (attempt : Fin 4)
  /-- LANE_WALK_COMPLETE (R393): A lane walk ends with spares assigned, half width, or the bundle lost, and the held bursts are resent. -/
  | laneWalkComplete (t : Fin 144) (half0 half1 : Fin 2049)
  /-- CONTROL_LANE_TIMEOUT (R394): A dual-rail control signal fails to complete within 500 counts and the bundle is lost. -/
  | controlLaneTimeout (t : Fin 144)
  /-- INPUT_SUPERVISION (R405): The power manager samples the 48 V input every 10 µs. -/
  | inputSupervision (main : Bool) (mv auxMv : Fin 4294967296)
  /-- PWR_INPUT_UV (R405): The main input stays low for 100 µs, and the device throttles or switches the converter off. -/
  | pwrInputUv
  /-- PWR_INPUT_OV (R405): The main input stays above 59.5 V for 100 µs and the converter switches off. -/
  | pwrInputOv
  /-- UNDERVOLTAGE_RECOVERY (R405): The input has been at or above 41.0 V for 1 ms and the throttle is released. -/
  | undervoltageRecovery
  /-- AUX_INPUT_LOSS (R405): Loss of the 12 V input stops the management island and the converter. -/
  | auxInputLoss
  /-- AVS_POLL (R408): The management island reads current and status of every rail, and records a fault on no response. -/
  | avsPoll (rail : Fin 13) (response : Option (Nat × Nat × Nat))
  /-- PWR_PHASE_LOST (R409): A lost phase is covered by the spare, degrades the rail, or switches it off. -/
  | pwrPhaseLost (rail : Fin 13)
  /-- POWER_MEASURE (R411): Input power is measured and a 1 ms excursion asserts the urgent throttle. -/
  | powerMeasure (ms1 ms100 : Fin 65536) (clamped : List (Fin 26))
  /-- VOLTAGE_STEP (R411): Each millisecond the targets move by 10 mV under the power limit or thermal throttle. -/
  | voltageStep
  /-- POWER_PROFILE_WRITE (R412): A write of the power profile switches Face regions off and moves regulation between stages. -/
  | powerProfileWrite (via : OdVia) (value : W64)
  /-- PROFILE_CHANGE_COMPLETE (R412): A profile change completes. -/
  | profileChangeComplete
  /-- NEIGHBOUR_CHECK (R416): Every 10 µs a deferred switch-on checks its neighbours' currents. -/
  | neighbourCheck (region : Fin 26) (same other : Nat)
  /-- PWR_DEFER_TIMEOUT (R416): The defer limit expires and the headroom test starts soft-start or fails the request. -/
  | pwrDeferTimeout (region : Fin 26)
  /-- REGION_ON (R416): A soft-started region has held its target for 50 µs and is on. -/
  | regionOn (region : Fin 26)
  /-- REGION_HOLD_RELEASE (R416): 100 µs after a region is on, its region hold is released. -/
  | regionHoldRelease (region : Fin 26)
  /-- PLACEMENT_RETRY (R416): After a failed switch-on the scheduler retries placement at 1 ms or at a counter increment. -/
  | placementRetry (p : Fin 8)
  /-- REGION_GATE_OFF (R415): After the gate delay, an idle sector's Face regions switch off. -/
  | regionGateOff (sector : Fin 8)
  /-- POWER_STATE_REQUEST (R418): A write of the power state request enters STANDBY or returns to ACTIVE. -/
  | powerStateRequest (via : OdVia) (value : W64)
  /-- SELF_REFRESH_ENTRY (R418): In STANDBY a stack without access for 1 ms enters self-refresh. -/
  | selfRefreshEntry (stack : Fin 8)
  /-- THERMAL_SAMPLE (R420): Every 20 µs the monitor reads sensors and updates inference, rates, levels and throttles. -/
  | thermalSample (group : Fin 32) (temps : List Int) (plf : Fin 65536) (refs : Int × Int)
  /-- THERM_SENSOR_FAULT (R421): A sensor deviating from its group's median for 1 ms is excluded. -/
  | thermSensorFault (group : Fin 32) (sensor : Nat)
  /-- THERM_SENSOR_SUSPECT (R425): The inferred temperature has exceeded the measured one for the suspect time, and the group becomes suspect. -/
  | thermSensorSuspect (group : Fin 32)
  /-- LEVEL_FALL (R426): A group below its level's threshold for 1 ms falls back one level. -/
  | levelFall (group : Fin 32)
  /-- THERM_SHUTDOWN (R432): Two consecutive samples at the shutdown threshold trip the hardware shutdown. -/
  | thermShutdown (group : Fin 32)
  /-- SHUTDOWN_LATCH_CLEAR (R433): Both inputs have been absent for 1 s and the shutdown latch clears. -/
  | shutdownLatchClear
  /-- COLD_RESET (R472): Power-on or COLD_RST_N low holds the module in cold reset. -/
  | coldReset (power : Bool)
  /-- COLD_RESET_RELEASE (R516): COLD_RST_N goes high: straps are sampled and stage 0 begins. -/
  | coldResetRelease (straps : Byte)
  /-- BRINGUP_STAGE_COMPLETE (R440): A bring-up stage ends and the next stage, or the readiness decision, begins. -/
  | bringupStageComplete (found : List Nat) (lanes : List (Fin 144 × Fin 2049 × Fin 2049))
  /-- BRINGUP_STAGE_TIMEOUT (R440): A stage exceeds its limit and bring-up stops, moves on, or enters ROM recovery. -/
  | bringupStageTimeout
  /-- HBM_TRAINING_DONE (R443): A stack finishes saved or full training and repair, and starts its poison sweep. -/
  | hbmTrainingDone (stack : Fin 8) (outcome : Fin 4) (failed noRes : W64)
  /-- RECV (R455): The recovery command "recv" enters RECOVERY. -/
  | recv (via : OdVia)
  /-- ERAS (R455): The recovery command "eras" erases the image area. -/
  | eras (via : OdVia)
  /-- ERASE_COMPLETE (R457): The erase finishes and the flash window becomes writable. -/
  | eraseComplete (ok : Bool)
  /-- FLASH_WINDOW_WRITE (R457): Bytes are written to the mapped image page, or refused. -/
  | flashWindowWrite (port : Fin 16) (mid : Mid) (off : Nat) (data : List Byte)
  /-- COMT (R455): The recovery command "comt" starts verification of the image in flash. -/
  | comt (via : OdVia)
  /-- COMT_VERIFY_DONE (R455): Verification ends with a cold reset or with VERIFY_FAILED. -/
  | comtVerifyDone
  /-- XSPI_TIMEOUT (R518): An xSPI transaction not complete in 10 ms is abandoned as a flash error. -/
  | xspiTimeout
  /-- WARM_RST_N (R466): WARM_RST_N held low starts a warm reset. -/
  | warmRstN
  /-- WARM_RESET_COMMAND (R466): A write of "warm" starts a warm reset. -/
  | warmResetCommand (via : OdVia)
  /-- WARM_RESET_QUIESCE_BOUND (R466): Units not quiet 1 ms after the aborts are cut off. -/
  | warmResetQuiesceBound
  /-- LLC_WRITEBACK_DONE (R466): The warm-reset write-back of dirty LLC sectors completes and the Bedrock units are reset. -/
  | llcWritebackDone
  /-- PARTITION_RESET (R460): A partition reset runs if all its tiles are idle, or is refused. -/
  | partitionReset (via : OdVia) (value : W64)
  /-- TILE_RESET (R460): A tile reset runs if the tile is idle, or is refused. -/
  | tileReset (via : OdVia) (value : W64)
  /-- LINK_RESET (R461): A link reset takes the link DOWN and trains it fully. -/
  | linkReset (via : OdVia) (link : Fin 64)
  /-- RECORD_DELIVER (R480): Firmware takes the next record from the queue, applies its severity, writes the event log, interrupts and NOTIFY. -/
  | recordDeliver
  /-- SEVERITY_LINE (R480): A block signals a discarded severe record and firmware applies its action. -/
  | severityLine
  /-- HEARTBEAT (R486): The active management core sends its heartbeat to the standby every 20 µs. -/
  | heartbeat
  /-- MGT_FAILOVER (R486): Missed heartbeats or an error report make the standby core take over. -/
  | mgtFailover
  /-- MGT_NO_CORE (R487): The remaining management core fails, and ALERT_N goes low. -/
  | mgtNoCore
  /-- NO_CORE_CONVERTER_OFF (R487): 10 ms after MGT_NO_CORE the module converter switches off. -/
  | noCoreConverterOff
  /-- SVNB (R492): The command "svnb" burns the SVN fuse up to the running image's SVN. -/
  | svnb (via : OdVia)
  /-- FW_SVN_RAISED (R492): The SVN burn completes. -/
  | fwSvnRaised
  /-- DBGU (R496): The command "dbgu" unlocks debug and is measured, or is refused. -/
  | dbgu (via : OdVia)
  /-- ATPT (R495): The command "atpt" starts signing an attestation report. -/
  | atpt (via : OdVia)
  /-- REPORT_SIGNED (R495): Signing of the report ends with ready or failed. -/
  | reportSigned (ok : Bool)
  /-- ENDORSEMENT_READY (R494): The identity key's endorsement is produced after readiness. -/
  | endorsementReady
  /-- HALT (R500): A write of HALT starts a halt of the tile. -/
  | halt (w : Wr)
  /-- HALT_COMPLETE (R501): A draining tile's last work completes and it reads halted. -/
  | haltComplete (t : Fin 144)
  /-- DBG_DRAIN_LATE (R501): A drain outlasts the halt drain limit and is recorded. -/
  | dbgDrainLate (t : Fin 144)
  /-- DBG_RESUME (R503): A write of RESUME releases a halted or draining tile. -/
  | dbgResume (w : Wr)
  /-- STEP_CORE (R504): The control core of a halted tile executes one instruction. -/
  | stepCore (w : Wr)
  /-- STEP_GROUP (R504): One group of a halted tile executes one instruction. -/
  | stepGroup (w : Wr)
  /-- DBG_RDATA_READ (R506): A read of DBG_RDATA returns the selected register of a halted tile. -/
  | dbgRdataRead (t : Fin 144) (mid : Mid)
  /-- DBG_RDATA_WRITE (R506): A write of DBG_RDATA writes the selected register of a halted tile. -/
  | dbgRdataWrite (w : Wr)
  /-- TRACE_OUTPUT (R508): A trace record leaves the output buffer to the port or the HBM ring. -/
  | traceOutput
  /-- DUMP_READ_START (R509): The dump read begins after the dumped pass releases its TAG_OUT write. -/
  | dumpReadStart
  /-- DUMP_COMPLETE (R509): The dump finishes, or is truncated or refused, and its read registration is released. -/
  | dumpComplete
  /-- CAGE_PRESENCE (R513): A cable plug is seated or removed at a cage. -/
  | cagePresence (cage : Fin 16) (seated : Bool)
  /-- REFERENCE_CLOCK_FAIL (R521): A reference oscillator fails and the cleaner switches, or both fail and the converter goes off. -/
  | referenceClockFail (ref : Fin 2)
  /-- RC_REGISTER_READ (R7): A read of a register field with access code RC returns the value and then clears it. -/
  | rcRegisterRead (mid : Mid) (addr : W64)
  /-- HLD_FIELD (R348): A Hild packet whose TYPE is not in the Hild TYPE table is answered with STATUS HLD_FIELD and recorded. -/
  | hldField
  /-- DEALE_COMMAND (R361): A Deale frame with an undefined COMMAND is answered with DEALE_COMMAND and recorded in class 0x11. -/
  | dealeCommand (eth : Eth) (frame : List Byte)
  /-- JTAG_INSTRUCTION (R520): The TAP, driven by TCK, TMS and TRST_N, executes an IEEE 1149.1 or 1149.6 instruction, or acts as BYPASS under the debug lock or while the device is ready. -/
  | jtagInstruction (code : Nat)
  /-- SIDEBAND_INPUT_CHANGE (R517): A sideband pin level that stays stable for 1 µs becomes the filtered level reported in OD 0x2212.01. -/
  | sidebandInputChange (pin : Fin 16) (level : Bool)
  /-- TAKEOVER_COMPLETE (R486): The standby management core completes its takeover, and the urgent throttle that hardware asserted at detection is released. -/
  | takeoverComplete
  deriving DecidableEq, Repr

end Sys2Proof
end

