-- ==== Sys2Proof/Machine/Bits.lean ====
section
/-! DEFINITION. Bit fields, sign extension, byte order (R6: little-endian) and small list helpers. -/

namespace Sys2Proof

/-- Bits lo+n-1 … lo of a number. -/
def natFld (x lo n : Nat) : Nat := (x >>> lo) % 2 ^ n

/-- Bits lo+n-1 … lo of a word, as a number. -/
def fld {w : Nat} (x : BitVec w) (lo n : Nat) : Nat := natFld x.toNat lo n

/-- Bit i of a word. -/
def bitOf {w : Nat} (x : BitVec w) (i : Nat) : Bool := x.getLsbD i

/-- A field value placed at bit lo; a value that does not fit its n bits loses its high bits. -/
def place (v lo n : Nat) : W64 := BitVec.ofNat 64 ((v % 2 ^ n) <<< lo)

/-- A flag placed at bit lo. -/
def placeB (b : Bool) (lo : Nat) : W64 := if b then BitVec.ofNat 64 (1 <<< lo) else 0

/-- The low n bits of a number as a two's complement integer. -/
def sgn (n : Nat) (x : Nat) : Int := let y := x % 2 ^ n; if 2 ^ (n - 1) ≤ y then (y : Int) - 2 ^ n else y

/-- A two's complement integer as n bits. -/
def ofInt (n : Nat) (x : Int) : BitVec n := BitVec.ofInt n x

/-- The low n bits of a word, sign-extended to the word (n at least 1). -/
def sext64 (n : Nat) (x : W64) : W64 := BitVec.ofInt 64 (sgn n x.toNat)

/-- The bytes of a number, least significant first. -/
def leBytes : Nat → Nat → List Byte
  | 0, _ => []
  | k + 1, x => BitVec.ofNat 8 x :: leBytes k (x / 256)

/-- The number whose bytes, least significant first, these are. -/
def leNat : List Byte → Nat
  | [] => 0
  | b :: bs => b.toNat + 256 * leNat bs

/-- k bytes of a list from position i; past the end, zero bytes. -/
def takeAt (bs : List Byte) (i k : Nat) : List Byte :=
  let r := (bs.drop i).take k
  r ++ List.replicate (k - r.length) 0

/-- The 64-bit word at byte position i of a list of bytes. -/
def word64At (bs : List Byte) (i : Nat) : W64 := BitVec.ofNat 64 (leNat (takeAt bs i 8))

/-- The 32-bit word at byte position i of a list of bytes. -/
def word32At (bs : List Byte) (i : Nat) : W32 := BitVec.ofNat 32 (leNat (takeAt bs i 4))

/-- The list with its element i replaced; unchanged where it has none. -/
def setAt {α : Type} : List α → Nat → α → List α
  | [], _, _ => []
  | _ :: xs, 0, v => v :: xs
  | x :: xs, i + 1, v => x :: setAt xs i v

/-- The list with the bytes from position i on replaced by the given ones, as far as it reaches. -/
def overlay (bs : List Byte) (i : Nat) (ds : List Byte) : List Byte :=
  bs.take i ++ (ds.take (bs.length - i)) ++ bs.drop (i + ds.length)

/-- A number added to a counter of n bits, which wraps. -/
def wrapAdd (n a b : Nat) : Nat := (a + b) % 2 ^ n

/-- A number added to a field of n bits, which saturates. -/
def satAdd (n a b : Nat) : Nat := min (a + b) (2 ^ n - 1)

/-- The number of one bits of the low n bits. -/
def popCount : Nat → Nat → Nat
  | 0, _ => 0
  | n + 1, x => x % 2 + popCount n (x / 2)

/-- The positions of the one bits of the low n bits, ascending from base. -/
def onesFrom : Nat → Nat → Nat → List Nat
  | 0, _, _ => []
  | n + 1, base, x => if x % 2 = 1 then base :: onesFrom n (base + 1) (x / 2) else onesFrom n (base + 1) (x / 2)

/-- Bit i of a number replaced. -/
def natSetBit (x i : Nat) (b : Bool) : Nat :=
  if b then x ||| (1 <<< i) else if x.testBit i then x - (1 <<< i) else x

/-- Apply an action to each element of a list in order. -/
def foldl' {α σ : Type} (xs : List α) (s : σ) (f : σ → α → σ) : σ := xs.foldl f s

/-- The elements of a list removed that equal the given one. -/
def without {α : Type} [DecidableEq α] (xs : List α) (x : α) : List α := xs.filter (fun y => decide (y ≠ x))

/-- An element appended where the list has it not yet. -/
def insertNew {α : Type} [DecidableEq α] (xs : List α) (x : α) : List α := if x ∈ xs then xs else xs ++ [x]

/-- The last n elements of a list (all of a shorter one). -/
def lastOf {α : Type} (n : Nat) (xs : List α) : List α := (xs.reverse.take n).reverse

end Sys2Proof
end

