-- ==== Sys2Proof/Machine/Float.lean ====
section
/-! DEFINITION. Floating-point values: exact values, the element formats of R57 and R59, and rounding to nearest, ties
to even. A finite value is held exactly as an integer times a power of two; nothing here rounds but `roundTo`. -/

namespace Sys2Proof

/-- An exact number m × 2^e. -/
structure Dy where
  m : Int
  e : Int
  deriving DecidableEq, Repr

/-- The integer m × 2^k (k not negative). -/
def shlInt (m : Int) (k : Int) : Int := m * (2 ^ k.toNat : Nat)

def Dy.add (a b : Dy) : Dy :=
  let e := min a.e b.e
  { m := shlInt a.m (a.e - e) + shlInt b.m (b.e - e), e := e }

def Dy.neg (a : Dy) : Dy := { a with m := -a.m }
def Dy.sub (a b : Dy) : Dy := Dy.add a b.neg
def Dy.mul (a b : Dy) : Dy := { m := a.m * b.m, e := a.e + b.e }
def Dy.abs (a : Dy) : Dy := { a with m := (a.m.natAbs : Int) }
def Dy.ofInt (x : Int) : Dy := { m := x, e := 0 }
/-- The number multiplied by 2^k. -/
def Dy.scale (a : Dy) (k : Int) : Dy := { a with e := a.e + k }
def Dy.isZero (a : Dy) : Bool := decide (a.m = 0)
/-- Whether a is less than b. -/
def Dy.lt (a b : Dy) : Bool := decide ((Dy.sub a b).m < 0)
/-- Whether a equals b as a number. -/
def Dy.eqv (a b : Dy) : Bool := decide ((Dy.sub a b).m = 0)

/-- A floating-point value: NaN, an infinity, or an exact finite number with the sign that a zero carries. -/
inductive FVal where
  | nan
  | inf (neg : Bool)
  | fin (neg : Bool) (v : Dy)
  deriving DecidableEq, Repr

/-- A finite value; an exact zero is +0. -/
def FVal.ofDy (v : Dy) : FVal := .fin (decide (v.m < 0)) v

def FVal.isNan : FVal → Bool | .nan => true | _ => false
def FVal.isInf : FVal → Bool | .inf _ => true | _ => false
def FVal.isZero : FVal → Bool | .fin _ v => v.isZero | _ => false
def FVal.isNeg : FVal → Bool | .nan => false | .inf n => n | .fin n _ => n

/-- How an encoding treats its largest exponents: IEEE infinities and NaNs, the single NaN of FP8 E4M3, or none
(FP4 E2M1) (R59). -/
inductive FSpecial where
  | ieee | e4m3 | none
  deriving DecidableEq, Repr

/-- A binary floating-point format: exponent bits, mantissa bits, bias, treatment of the largest exponents. -/
structure FFmt where
  eb : Nat
  mb : Nat
  bias : Int
  sp : FSpecial
  deriving DecidableEq, Repr

def fmtFP32 : FFmt := { eb := 8, mb := 23, bias := 127, sp := .ieee }
def fmtBF16 : FFmt := { eb := 8, mb := 7, bias := 127, sp := .ieee }
def fmtFP16 : FFmt := { eb := 5, mb := 10, bias := 15, sp := .ieee }
def fmtE4M3 : FFmt := { eb := 4, mb := 3, bias := 7, sp := .e4m3 }
def fmtE5M2 : FFmt := { eb := 5, mb := 2, bias := 15, sp := .ieee }
def fmtE2M1 : FFmt := { eb := 2, mb := 1, bias := 1, sp := .none }

/-- The value of a code of a format (R59; IEEE 754-2019); subnormal codes have their exact value. -/
def FFmt.decode (f : FFmt) (code : Nat) : FVal :=
  let man := natFld code 0 f.mb
  let ex := natFld code f.mb f.eb
  let neg := code.testBit (f.eb + f.mb)
  let top := 2 ^ f.eb - 1
  let mag : Int := if ex = 0 then man else man + 2 ^ f.mb
  let e : Int := (if ex = 0 then 1 else (ex : Int)) - f.bias - f.mb
  let v : Dy := { m := if neg then -mag else mag, e := e }
  match f.sp with
  | .ieee => if ex = top then (if man = 0 then .inf neg else .nan) else .fin neg v
  | .e4m3 => if ex = top ∧ man = 2 ^ f.mb - 1 then .nan else .fin neg v
  | .none => .fin neg v

/-- The code of infinity without its sign, in an IEEE format. -/
def FFmt.infCode (f : FFmt) : Nat := (2 ^ f.eb - 1) * 2 ^ f.mb

/-- The sign bit of a format. -/
def FFmt.signBit (f : FFmt) (neg : Bool) : Nat := if neg then 2 ^ (f.eb + f.mb) else 0

/-- The canonical quiet NaN of R63. -/
def FFmt.nanCode (f : FFmt) : Nat := f.infCode + 2 ^ (f.mb - 1)

/-- Integer division rounded to nearest, ties to even. -/
def divRne (a d : Nat) : Nat :=
  let q := a / d
  let r := a % d
  if 2 * r < d then q else if d < 2 * r then q + 1 else if q % 2 = 0 then q else q + 1

/-- The code of a finite magnitude rounded to nearest, ties to even, overflowing to infinity (IEEE formats). -/
def FFmt.roundMag (f : FFmt) (mag : Nat) (e : Int) : Nat :=
  if mag = 0 then 0
  else
    let q : Int := (Nat.log2 mag : Int) + e
    let emin : Int := 1 - f.bias
    let top := max q emin
    let lsb := top - f.mb
    let mant := if lsb ≤ e then mag * 2 ^ (e - lsb).toNat else divRne mag (2 ^ (lsb - e).toNat)
    let code := (top - emin).toNat * 2 ^ f.mb + mant
    if f.infCode ≤ code then f.infCode else code

/-- The code of a value rounded to nearest, ties to even; every NaN is the canonical one (R63). -/
def FFmt.encode (f : FFmt) : FVal → Nat
  | .nan => f.nanCode
  | .inf n => f.signBit n + f.infCode
  | .fin n v => f.signBit n + f.roundMag v.m.natAbs v.e

/-- The FP32 code of a value (R61). -/
def encFP32 (v : FVal) : W32 := BitVec.ofNat 32 (fmtFP32.encode v)

/-- The value of an FP32 code. -/
def decFP32 (w : W32) : FVal := fmtFP32.decode w.toNat

/-- The exact sum of two values; the IEEE 754-2019 rules for infinities and for the sign of a zero (round to nearest). -/
def FVal.add : FVal → FVal → FVal
  | .nan, _ => .nan
  | _, .nan => .nan
  | .inf a, .inf b => if a = b then .inf a else .nan
  | .inf a, .fin _ _ => .inf a
  | .fin _ _, .inf b => .inf b
  | .fin a x, .fin b y =>
    let r := Dy.add x y
    if r.isZero then .fin (if x.isZero ∧ y.isZero then a && b else false) r else .fin (decide (r.m < 0)) r

def FVal.neg : FVal → FVal
  | .nan => .nan
  | .inf a => .inf (!a)
  | .fin a x => .fin (!a) x.neg

/-- The exact product of two values (IEEE 754-2019: an infinity times zero is NaN). -/
def FVal.mul : FVal → FVal → FVal
  | .nan, _ => .nan
  | _, .nan => .nan
  | .inf a, y => if y.isZero then .nan else .inf (a != y.isNeg)
  | x, .inf b => if x.isZero then .nan else .inf (x.isNeg != b)
  | .fin a x, .fin b y => .fin (a != b) (Dy.mul x y)

/-- A value rounded to FP32. -/
def roundFP32 (v : FVal) : FVal := decFP32 (encFP32 v)

/-- A value rounded to BF16. -/
def roundBF16 (v : FVal) : FVal := fmtBF16.decode (fmtBF16.encode v)

/-- Whether x is less than y as real numbers (infinities included, −0 equals +0); false where either is NaN. -/
def FVal.lt : FVal → FVal → Bool
  | .nan, _ => false
  | _, .nan => false
  | .inf a, .inf b => a && !b
  | .inf a, .fin _ _ => a
  | .fin _ _, .inf b => !b
  | .fin _ x, .fin _ y => Dy.lt x y

/-- Whether x equals y as real numbers (−0 equals +0); false where either is NaN. -/
def FVal.eqv : FVal → FVal → Bool
  | .inf a, .inf b => a == b
  | .fin _ x, .fin _ y => Dy.eqv x y
  | _, _ => false

end Sys2Proof
end

