-- ==== Sys2Proof/Config.lean ====
section
/-! DEFINITION. What an implementation fixes and the free values: constants without a body, of which nothing can be
proved. -/

namespace Sys2Proof

/-- The n-th free value where the specification states no value for a word (log entries name the uses).
DESIGN CHOICE: log entry 5. -/
opaque Config.free64 : Nat → BitVec 64

/-- The victim chosen among candidates where the specification gives no replacement rule: a number taken modulo the
number of candidates. DESIGN CHOICE: log entry 5. -/
opaque Config.freeChoice : Nat → Nat

/-- The row within a pseudo-channel that a line lies in; its placement is internal to the HBM controller (R288).
DESIGN CHOICE: log entry 60. -/
opaque Config.hbmRow : Nat → Nat

/-- SHAKE256 of a byte string (FIPS 202): the output of the security chapter's measurements, 64 bytes, and of its key
derivation, 96 bytes; longer and shorter outputs are cut to the length asked for. DESIGN CHOICE: log entry 111. -/
opaque Config.shake256 : List (BitVec 8) → Nat → List (BitVec 8)

/-- Whether the checks of R439 pass for the image area of flash (bytes by offset; an unlisted byte is 0xFF) under the fused
hash of the firmware key. DESIGN CHOICE: log entry 110. -/
opaque Config.imageVerifies : List (BitVec 8) → List (Nat × BitVec 8) → Bool

/-- The version, the security version number and the length of the image in flash (R439, R491). DESIGN CHOICE: log entry 110. -/
opaque Config.imageVersion : List (Nat × BitVec 8) → BitVec 32
/-- DESIGN CHOICE: log entry 110. -/
opaque Config.imageSvn : List (Nat × BitVec 8) → Nat
/-- DESIGN CHOICE: log entry 110. -/
opaque Config.imageLength : List (Nat × BitVec 8) → Nat

/-- The public key of an SLH-DSA key pair (FIPS 205) by its three seeds, 96 bytes; `fast` selects SLH-DSA-SHAKE-256f, else
256s. DESIGN CHOICE: log entry 111. -/
opaque Config.slhPublic (fast : Bool) : List (BitVec 8) → List (BitVec 8)

/-- A signature under the private key of the three seeds. DESIGN CHOICE: log entry 111. -/
opaque Config.slhSign (fast : Bool) : List (BitVec 8) → List (BitVec 8) → List (BitVec 8)

/-- The bytes of a stored-values copy in flash (R375), by its sequence number, scalar entries and other entries.
DESIGN CHOICE: log entry 93. -/
opaque Config.copyBytes : Nat → List (Nat × BitVec 64) → List (Nat × List (BitVec 8)) → List (BitVec 8)

end Sys2Proof
end

