-- ==== Sys2Proof/Machine/OdTable.lean ====
section
/-! DEFINITION. The object dictionary's entries (R366): index, subindices, type (R367), access right and stopped block
(R368), persistence, default (R374), numeric range, size. Defaults given by fuses, flash or the device are listed as 0
here; the accessors that supply them are in Machine/Dict.lean. -/

namespace Sys2Proof.Machine

/-- One row of an object table: index, first and last subindex, TYPE, ACCESS, STOP, PERSIST, default, range, SIZE. -/
structure OdEntry where
  idx    : Nat
  lo     : Nat
  hi     : Nat
  type   : Nat
  access : Nat
  stop   : Nat
  stored : Bool
  dflt   : Nat
  min    : Int
  max    : Int
  size   : Nat
  deriving DecidableEq, Repr

/-- A row of the tables below. -/
def od (idx lo hi type access stop : Nat) (stored : Bool) (dflt : Nat) (min : Int) (max : Int) (size : Nat) : OdEntry :=
  { idx := idx, lo := lo, hi := hi, type := type, access := access, stop := stop, stored := stored, dflt := dflt,
    min := min, max := max, size := size }

/-- Object rows, part 1. -/
def odRows1 : List OdEntry := [
  od 0x2700 0x01 0x01 2 3 0x02 true 0 (0) 4095 2,
  od 0x2700 0x02 0x02 0 3 0x02 true 1 (0) 1 1,
  od 0x2700 0x03 0x03 4 0 0x00 false 0 (0) 18446744073709551615 8,
  od 0x2701 0x00 0x13 11 0 0x00 false 0 (0) 0 8192,
  od 0x2A00 0x01 0x01 0 3 0x01 true 1 (0) 1 1,
  od 0x2A00 0x02 0x02 4 0 0x00 false 0 (0) 18446744073709551615 8,
  od 0x2A00 0x03 0x03 4 0 0x00 false 0 (0) 18446744073709551615 8,
  od 0x2A00 0x04 0x04 4 0 0x00 false 0 (0) 18446744073709551615 8,
  od 0x2A00 0x05 0x05 4 0 0x00 false 0 (0) 18446744073709551615 8,
  od 0x2A00 0x0B 0x0B 3 1 0x00 true 100 (10) 100000 4,
  od 0x2A00 0x06 0x06 1 3 0x01 true 32 (16) 64 1,
  od 0x2A00 0x07 0x07 2 3 0x01 true 2048 (0) 65535 2,
  od 0x2A00 0x08 0x08 1 3 0x01 true 4 (1) 16 1,
  od 0x2A00 0x09 0x09 1 1 0x00 false 0 (0) 255 1,
  od 0x2A00 0x0A 0x0A 4 0 0x00 false 0 (0) 18446744073709551615 8,
  od 0x2B80 0x01 0x01 3 3 0x01 true 100000 (1) 60000000 4,
  od 0x2B80 0x02 0x02 4 0 0x00 false 0 (0) 18446744073709551615 8,
  od 0x2B80 0x03 0x03 4 0 0x00 false 0 (0) 18446744073709551615 8,
  od 0x2B80 0x04 0x04 4 0 0x00 false 0 (0) 18446744073709551615 8,
  od 0x6010 0x00 0x8F 4 0 0x00 false 0 (0) 18446744073709551615 8,
  od 0x6011 0x00 0x8F 4 0 0x00 false 0 (0) 18446744073709551615 8,
  od 0x2B81 0x01 0x01 0 1 0x00 false 0 (0) 1 1,
  od 0x2B81 0x02 0x02 4 0 0x00 false 0 (0) 18446744073709551615 8,
  od 0x2B81 0x03 0x03 4 0 0x00 false 0 (0) 18446744073709551615 8,
  od 0x2B81 0x04 0x04 4 0 0x00 false 0 (0) 18446744073709551615 8,
  od 0x6012 0x00 0x8F 4 0 0x00 false 0 (0) 18446744073709551615 8,
  od 0x2B00 0x01 0x01 4 3 0x10 true 0 (0) 18446744073709551615 8,
  od 0x2B01 0x01 0x01 4 3 0x11 true 0 (0) 18446744073709551615 8,
  od 0x2B02 0x01 0x01 4 3 0x12 true 0 (0) 18446744073709551615 8,
  od 0x2B03 0x01 0x01 4 3 0x13 true 0 (0) 18446744073709551615 8,
  od 0x2B04 0x01 0x01 4 3 0x14 true 0 (0) 18446744073709551615 8,
  od 0x2B05 0x01 0x01 4 3 0x15 true 0 (0) 18446744073709551615 8,
  od 0x2B06 0x01 0x01 4 3 0x16 true 0 (0) 18446744073709551615 8,
  od 0x2B07 0x01 0x01 4 3 0x17 true 0 (0) 18446744073709551615 8,
  od 0x2B00 0x02 0x02 3 3 0x10 true 256 (16) 65536 4,
  od 0x2B01 0x02 0x02 3 3 0x11 true 256 (16) 65536 4,
  od 0x2B02 0x02 0x02 3 3 0x12 true 256 (16) 65536 4,
  od 0x2B03 0x02 0x02 3 3 0x13 true 256 (16) 65536 4,
  od 0x2B04 0x02 0x02 3 3 0x14 true 256 (16) 65536 4,
  od 0x2B05 0x02 0x02 3 3 0x15 true 256 (16) 65536 4,
  od 0x2B06 0x02 0x02 3 3 0x16 true 256 (16) 65536 4,
  od 0x2B07 0x02 0x02 3 3 0x17 true 256 (16) 65536 4,
  od 0x2B00 0x03 0x03 2 3 0x10 true 0 (0) 65535 2,
  od 0x2B01 0x03 0x03 2 3 0x11 true 2 (0) 65535 2,
  od 0x2B02 0x03 0x03 2 3 0x12 true 4 (0) 65535 2,
  od 0x2B03 0x03 0x03 2 3 0x13 true 6 (0) 65535 2,
  od 0x2B04 0x03 0x03 2 3 0x14 true 8 (0) 65535 2,
  od 0x2B05 0x03 0x03 2 3 0x15 true 10 (0) 65535 2 ]

/-- Object rows, part 2. -/
def odRows2 : List OdEntry := [
  od 0x2B06 0x03 0x03 2 3 0x16 true 12 (0) 65535 2,
  od 0x2B07 0x03 0x03 2 3 0x17 true 14 (0) 65535 2,
  od 0x2B00 0x04 0x04 2 3 0x10 true 1 (0) 65535 2,
  od 0x2B01 0x04 0x04 2 3 0x11 true 3 (0) 65535 2,
  od 0x2B02 0x04 0x04 2 3 0x12 true 5 (0) 65535 2,
  od 0x2B03 0x04 0x04 2 3 0x13 true 7 (0) 65535 2,
  od 0x2B04 0x04 0x04 2 3 0x14 true 9 (0) 65535 2,
  od 0x2B05 0x04 0x04 2 3 0x15 true 11 (0) 65535 2,
  od 0x2B06 0x04 0x04 2 3 0x16 true 13 (0) 65535 2,
  od 0x2B07 0x04 0x04 2 3 0x17 true 15 (0) 65535 2,
  od 0x2B00 0x05 0x05 2 3 0x10 true 1 (0) 65535 2,
  od 0x2B01 0x05 0x05 2 3 0x11 true 1 (0) 65535 2,
  od 0x2B02 0x05 0x05 2 3 0x12 true 1 (0) 65535 2,
  od 0x2B03 0x05 0x05 2 3 0x13 true 1 (0) 65535 2,
  od 0x2B04 0x05 0x05 2 3 0x14 true 1 (0) 65535 2,
  od 0x2B05 0x05 0x05 2 3 0x15 true 1 (0) 65535 2,
  od 0x2B06 0x05 0x05 2 3 0x16 true 1 (0) 65535 2,
  od 0x2B07 0x05 0x05 2 3 0x17 true 1 (0) 65535 2,
  od 0x2B00 0x06 0x06 1 0 0x00 false 0 (0) 2 1,
  od 0x2B01 0x06 0x06 1 0 0x00 false 0 (0) 2 1,
  od 0x2B02 0x06 0x06 1 0 0x00 false 0 (0) 2 1,
  od 0x2B03 0x06 0x06 1 0 0x00 false 0 (0) 2 1,
  od 0x2B04 0x06 0x06 1 0 0x00 false 0 (0) 2 1,
  od 0x2B05 0x06 0x06 1 0 0x00 false 0 (0) 2 1,
  od 0x2B06 0x06 0x06 1 0 0x00 false 0 (0) 2 1,
  od 0x2B07 0x06 0x06 1 0 0x00 false 0 (0) 2 1,
  od 0x2B00 0x07 0x07 1 2 0x00 false 0 (1) 3 1,
  od 0x2B01 0x07 0x07 1 2 0x00 false 0 (1) 3 1,
  od 0x2B02 0x07 0x07 1 2 0x00 false 0 (1) 3 1,
  od 0x2B03 0x07 0x07 1 2 0x00 false 0 (1) 3 1,
  od 0x2B04 0x07 0x07 1 2 0x00 false 0 (1) 3 1,
  od 0x2B05 0x07 0x07 1 2 0x00 false 0 (1) 3 1,
  od 0x2B06 0x07 0x07 1 2 0x00 false 0 (1) 3 1,
  od 0x2B07 0x07 0x07 1 2 0x00 false 0 (1) 3 1,
  od 0x2B00 0x08 0x08 4 0 0x00 false 0 (0) 18446744073709551615 8,
  od 0x2B01 0x08 0x08 4 0 0x00 false 0 (0) 18446744073709551615 8,
  od 0x2B02 0x08 0x08 4 0 0x00 false 0 (0) 18446744073709551615 8,
  od 0x2B03 0x08 0x08 4 0 0x00 false 0 (0) 18446744073709551615 8,
  od 0x2B04 0x08 0x08 4 0 0x00 false 0 (0) 18446744073709551615 8,
  od 0x2B05 0x08 0x08 4 0 0x00 false 0 (0) 18446744073709551615 8,
  od 0x2B06 0x08 0x08 4 0 0x00 false 0 (0) 18446744073709551615 8,
  od 0x2B07 0x08 0x08 4 0 0x00 false 0 (0) 18446744073709551615 8,
  od 0x2B00 0x09 0x09 4 0 0x00 false 0 (0) 18446744073709551615 8,
  od 0x2B01 0x09 0x09 4 0 0x00 false 0 (0) 18446744073709551615 8,
  od 0x2B02 0x09 0x09 4 0 0x00 false 0 (0) 18446744073709551615 8,
  od 0x2B03 0x09 0x09 4 0 0x00 false 0 (0) 18446744073709551615 8,
  od 0x2B04 0x09 0x09 4 0 0x00 false 0 (0) 18446744073709551615 8,
  od 0x2B05 0x09 0x09 4 0 0x00 false 0 (0) 18446744073709551615 8 ]

/-- Object rows, part 3. -/
def odRows3 : List OdEntry := [
  od 0x2B06 0x09 0x09 4 0 0x00 false 0 (0) 18446744073709551615 8,
  od 0x2B07 0x09 0x09 4 0 0x00 false 0 (0) 18446744073709551615 8,
  od 0x2B00 0x0A 0x0A 1 0 0x00 false 0 (0) 15 1,
  od 0x2B01 0x0A 0x0A 1 0 0x00 false 0 (0) 15 1,
  od 0x2B02 0x0A 0x0A 1 0 0x00 false 0 (0) 15 1,
  od 0x2B03 0x0A 0x0A 1 0 0x00 false 0 (0) 15 1,
  od 0x2B04 0x0A 0x0A 1 0 0x00 false 0 (0) 15 1,
  od 0x2B05 0x0A 0x0A 1 0 0x00 false 0 (0) 15 1,
  od 0x2B06 0x0A 0x0A 1 0 0x00 false 0 (0) 15 1,
  od 0x2B07 0x0A 0x0A 1 0 0x00 false 0 (0) 15 1,
  od 0x2B20 0x01 0x01 3 3 0x20 false 0 (0) 4294967295 4,
  od 0x2B20 0x02 0x02 3 1 0x00 true 100000 (1) 60000000 4,
  od 0x2B20 0x03 0x03 0 3 0x01 true 1 (0) 1 1,
  od 0x2C00 0x01 0x01 3 1 0x00 true 100000 (1) 60000000 4,
  od 0x2C00 0x02 0x02 4 0 0x00 false 0 (0) 18446744073709551615 8,
  od 0x2C00 0x03 0x03 4 0 0x00 false 0 (0) 18446744073709551615 8,
  od 0x2C00 0x04 0x04 4 0 0x00 false 0 (0) 18446744073709551615 8,
  od 0x2C00 0x05 0x05 4 0 0x00 false 0 (0) 18446744073709551615 8,
  od 0x2C00 0x06 0x06 4 0 0x00 false 0 (0) 18446744073709551615 8,
  od 0x2C01 0x00 0x07 2 0 0x00 false 0 (0) 4096 2,
  od 0x2400 0x01 0x01 1 1 0x00 true 1 (0) 2 1,
  od 0x2400 0x02 0x02 1 1 0x00 true 12 (0) 14 1,
  od 0x2400 0x03 0x03 3 1 0x00 true 65536 (1024) 16777216 4,
  od 0x2400 0x04 0x04 1 1 0x00 true 128 (1) 255 1,
  od 0x2400 0x05 0x05 1 1 0x00 true 96 (0) 254 1,
  od 0x2400 0x06 0x06 1 1 0x00 true 1 (0) 1 1,
  od 0x2400 0x07 0x07 0 1 0x00 false 0 (0) 1 1,
  od 0x2400 0x08 0x08 2 1 0x00 true 64 (8) 1024 2,
  od 0x2400 0x09 0x09 0 1 0x00 true 1 (0) 1 1,
  od 0x2400 0x0A 0x0A 3 1 0x00 true 10 (1) 1000 4,
  od 0x2400 0x0B 0x0B 1 1 0x00 true 4 (0) 14 1,
  od 0x2400 0x10 0x13 5 1 0x00 true 0 (-64) 127 1,
  od 0x2400 0x14 0x14 4 0 0x00 false 0 (0) 18446744073709551615 8,
  od 0x2400 0x15 0x15 4 0 0x00 false 0 (0) 18446744073709551615 8,
  od 0x2400 0x16 0x16 4 0 0x00 false 0 (0) 18446744073709551615 8,
  od 0x2400 0x17 0x17 4 0 0x00 false 0 (0) 18446744073709551615 8,
  od 0x2401 0x00 0x07 4 0 0x00 false 0 (0) 18446744073709551615 8,
  od 0x2410 0x01 0x01 3 1 0x00 true 10 (1) 1000 4,
  od 0x2410 0x02 0x02 4 0 0x00 false 0 (0) 18446744073709551615 8,
  od 0x2410 0x03 0x03 4 0 0x00 false 0 (0) 18446744073709551615 8,
  od 0x2410 0x04 0x04 4 0 0x00 false 0 (0) 18446744073709551615 8,
  od 0x2410 0x05 0x05 4 0 0x00 false 0 (0) 18446744073709551615 8,
  od 0x2411 0x00 0x07 4 0 0x00 false 0 (0) 18446744073709551615 8,
  od 0x2500 0x01 0x01 1 0 0x00 false 0 (0) 255 1,
  od 0x2500 0x02 0x02 4 0 0x00 false 0 (0) 18446744073709551615 8,
  od 0x2500 0x03 0x03 3 1 0x00 true 2000 (0) 20000 4,
  od 0x2500 0x04 0x04 4 0 0x00 false 0 (0) 18446744073709551615 8,
  od 0x2500 0x05 0x05 2 1 0x00 true 16 (1) 65535 2 ]

/-- Object rows, part 4. -/
def odRows4 : List OdEntry := [
  od 0x2501 0x00 0x07 4 0 0x00 false 0 (0) 18446744073709551615 8,
  od 0x2502 0x00 0x07 3 0 0x00 false 0 (0) 4294967295 4,
  od 0x2503 0x00 0x07 11 0 0x00 true 0 (0) 0 2048,
  od 0x2504 0x00 0x07 4 0 0x00 true 0 (0) 18446744073709551615 8,
  od 0x2420 0x01 0x01 3 1 0x00 true 1000 (0) 20000 4,
  od 0x2421 0x00 0x07 3 0 0x00 false 0 (0) 4294967295 4,
  od 0x2D00 0x01 0x01 2 1 0x00 true 64 (2) 65535 2,
  od 0x2D00 0x02 0x02 3 1 0x00 true 1000000 (1) 60000000 4,
  od 0x2D00 0x03 0x03 4 0 0x00 false 0 (0) 18446744073709551615 8,
  od 0x2D01 0x00 0x07 2 0 0x00 false 0 (0) 65535 2,
  od 0x2D02 0x00 0x07 2 0 0x00 false 0 (0) 65535 2,
  od 0x2D03 0x00 0x07 2 0 0x00 false 0 (0) 65535 2,
  od 0x2600 0x01 0x01 3 1 0x00 true 4000 (500) 1000000 4,
  od 0x2600 0x02 0x02 3 1 0x00 true 50 (1) 10000 4,
  od 0x2600 0x03 0x03 4 0 0x00 false 0 (0) 18446744073709551615 8,
  od 0x2600 0x04 0x04 1 1 0x00 true 75 (1) 100 1,
  od 0x2600 0x05 0x05 1 1 0x00 true 25 (0) 99 1,
  od 0x2601 0x00 0x17 2 1 0x00 true 0 (0) 65535 2,
  od 0x2602 0x00 0x59 11 1 0x00 true 0 (0) 0 2016,
  od 0x2603 0x00 0x59 11 0 0x00 false 0 (0) 0 384,
  od 0x2800 0x01 0x01 4 1 0x00 true 18446744073709551615 (0) 18446744073709551615 8,
  od 0x2800 0x02 0x02 1 1 0x00 true 8 (1) 64 1,
  od 0x2800 0x03 0x03 3 1 0x00 true 20 (1) 1000 4,
  od 0x2800 0x04 0x04 3 1 0x00 true 150 (0) 100000 4,
  od 0x2800 0x05 0x05 3 1 0x00 true 1000 (10) 1000000 4,
  od 0x2800 0x06 0x06 1 3 0x02 true 32 (8) 128 1,
  od 0x2800 0x07 0x07 3 1 0x00 true 10000 (1000) 10000000 4,
  od 0x2800 0x08 0x08 4 0 0x00 false 0 (0) 18446744073709551615 8,
  od 0x2800 0x09 0x09 4 0 0x00 false 0 (0) 18446744073709551615 8,
  od 0x2800 0x0A 0x0A 1 4 0x00 false 17 (0) 255 1,
  od 0x2800 0x0B 0x0B 3 4 0x00 false 15 (0) 4294967295 4,
  od 0x2801 0x00 0x0F 2 1 0x00 true 65535 (0) 65535 2,
  od 0x2802 0x00 0x00 11 1 0x00 true 0 (0) 0 65536,
  od 0x2803 0x00 0x1F 11 1 0x00 true 0 (0) 0 64,
  od 0x7000 0x00 0x3F 1 0 0x00 false 0 (0) 5 1,
  od 0x7001 0x00 0x3F 3 0 0x00 false 0 (0) 4294967295 4,
  od 0x7002 0x00 0x3F 10 0 0x00 false 0 (0) 0 16,
  od 0x7003 0x00 0x3F 11 0 0x00 false 0 (0) 0 32,
  od 0x1100 0x01 0x01 4 4 0x00 false 0 (0) 281474976710655 8,
  od 0x1100 0x02 0x02 1 1 0x00 true 9 (2) 255 1,
  od 0x1100 0x03 0x03 3 1 0x00 true 10000 (100) 600000 4,
  od 0x1100 0x04 0x04 11 1 0x00 true 0 (0) 0 64,
  od 0x1100 0x05 0x05 1 1 0x00 true 2 (0) 5 1,
  od 0x1100 0x06 0x06 4 1 0x00 true 0 (0) 281474976710655 8,
  od 0x1100 0x07 0x07 4 0 0x00 false 0 (0) 18446744073709551615 8,
  od 0x2900 0x01 0x01 4 3 0x03 true 0 (0) 18446744073709551615 8,
  od 0x2900 0x02 0x02 1 3 0x03 true 0 (0) 64 1,
  od 0x2900 0x03 0x03 3 1 0x00 true 20 (1) 10000 4 ]

/-- Object rows, part 5. -/
def odRows5 : List OdEntry := [
  od 0x2900 0x04 0x04 3 1 0x00 true 1000 (10) 1000000 4,
  od 0x2900 0x05 0x05 3 1 0x00 true 10000 (1000) 10000000 4,
  od 0x2900 0x10 0x10 4 1 0x00 true 0 (0) 18446744073709551615 8,
  od 0x2900 0x11 0x11 3 1 0x00 true 4096 (64) 65536 4,
  od 0x2900 0x12 0x12 2 1 0x00 true 16 (0) 65535 2,
  od 0x2900 0x13 0x13 2 1 0x00 true 17 (0) 65535 2,
  od 0x2900 0x15 0x15 4 0 0x00 false 0 (0) 18446744073709551615 8,
  od 0x2900 0x16 0x16 1 1 0x00 true 1 (0) 5 1,
  od 0x2900 0x17 0x17 4 1 0x00 true 0 (0) 18446744073709551615 8,
  od 0x2900 0x18 0x18 3 1 0x00 true 50 (0) 100000 4,
  od 0x1000 0x01 0x01 3 4 0x00 false 65537 (0) 4294967295 4,
  od 0x1000 0x02 0x02 10 4 0x00 false 0 (0) 0 16,
  od 0x1000 0x03 0x03 10 4 0x00 false 0 (0) 0 4,
  od 0x1000 0x04 0x04 10 4 0x00 false 0 (0) 0 16,
  od 0x1000 0x05 0x05 1 4 0x00 false 1 (0) 255 1,
  od 0x1000 0x06 0x06 2 4 0x00 false 256 (0) 65535 2,
  od 0x1000 0x07 0x07 3 0 0x00 false 0 (0) 4294967295 4,
  od 0x1001 0x01 0x01 2 4 0x00 false 255 (0) 65535 2,
  od 0x1001 0x02 0x02 2 4 0x00 false 255 (0) 65535 2,
  od 0x1001 0x03 0x03 2 4 0x00 false 3903 (0) 65535 2,
  od 0x1200 0x01 0x01 1 4 0x00 false 1 (0) 255 1,
  od 0x1200 0x02 0x02 4 4 0x00 false 0 (0) 18446744073709551615 8,
  od 0x1200 0x03 0x03 4 3 0x01 true 0 (0) 18446744073709551615 8,
  od 0x1F00 0x01 0x01 3 2 0x00 false 0 (0) 4294967295 4,
  od 0x1F00 0x02 0x02 3 0 0x00 false 0 (0) 4294967295 4,
  od 0x1F00 0x03 0x03 1 0 0x00 false 0 (0) 3 1,
  od 0x1F00 0x04 0x04 1 0 0x00 false 0 (0) 2 1,
  od 0x1F00 0x05 0x05 2 0 0x00 false 0 (0) 65535 2,
  od 0x2310 0x01 0x01 2 1 0x00 true 1200 (1200) 1400 2,
  od 0x2310 0x02 0x02 1 1 0x00 true 50 (30) 100 1,
  od 0x2310 0x03 0x03 3 1 0x00 true 1000 (100) 60000 4,
  od 0x2310 0x04 0x04 1 1 0x00 true 6 (2) 12 1,
  od 0x2310 0x05 0x05 4 0 0x00 false 0 (0) 18446744073709551615 8,
  od 0x2310 0x06 0x06 1 0 0x00 false 0 (0) 144 1,
  od 0x2310 0x07 0x07 4 0 0x00 false 0 (0) 18446744073709551615 8,
  od 0x2310 0x08 0x08 3 4 0x00 false 100000000 (0) 4294967295 4,
  od 0x2310 0x09 0x09 3 4 0x00 false 65536 (0) 4294967295 4,
  od 0x6013 0x00 0x8F 4 0 0x00 false 0 (0) 18446744073709551615 8,
  od 0x6014 0x00 0x8F 4 0 0x00 false 0 (0) 18446744073709551615 8,
  od 0x6015 0x00 0x8F 2 0 0x00 true 0 (0) 65535 2,
  od 0x6016 0x00 0x8F 2 0 0x00 false 0 (0) 65535 2,
  od 0x6017 0x00 0x8F 2 0 0x00 true 0 (0) 65535 2,
  od 0x2000 0x01 0x01 1 3 0x01 true 0 (0) 1 1,
  od 0x2000 0x02 0x02 2 1 0x00 true 1500 (500) 65535 2,
  od 0x2000 0x03 0x03 1 1 0x00 false 0 (0) 1 1,
  od 0x2000 0x04 0x04 0 1 0x00 true 1 (0) 1 1,
  od 0x2000 0x05 0x05 3 1 0x00 true 1000 (10) 10000000 4,
  od 0x2000 0x06 0x06 3 1 0x00 true 2000 (100) 2000 4 ]

/-- Object rows, part 6. -/
def odRows6 : List OdEntry := [
  od 0x2000 0x07 0x07 1 1 0x00 true 80 (50) 95 1,
  od 0x2000 0x08 0x08 1 1 0x00 true 5 (1) 10 1,
  od 0x2000 0x09 0x09 2 0 0x00 false 0 (0) 65535 2,
  od 0x2000 0x0A 0x0A 3 0 0x00 false 0 (0) 4294967295 4,
  od 0x2000 0x0B 0x0B 3 0 0x00 false 0 (0) 4294967295 4,
  od 0x2000 0x0C 0x0C 4 0 0x00 false 0 (0) 18446744073709551615 8,
  od 0x2000 0x0D 0x0D 4 0 0x00 false 0 (0) 18446744073709551615 8,
  od 0x2000 0x0E 0x0E 4 0 0x00 false 0 (0) 18446744073709551615 8,
  od 0x2001 0x00 0x19 4 0 0x00 false 0 (0) 18446744073709551615 8,
  od 0x2100 0x01 0x01 1 1 0x00 true 95 (70) 95 1,
  od 0x2100 0x02 0x02 1 1 0x00 true 105 (80) 105 1,
  od 0x2100 0x03 0x03 1 4 0x00 false 115 (0) 255 1,
  od 0x2100 0x04 0x04 1 4 0x00 false 125 (0) 255 1,
  od 0x2100 0x05 0x05 3 4 0x00 false 6905685 (0) 4294967295 4,
  od 0x2100 0x0A 0x0A 9 1 0x00 true 1036831949 (0) 4294967295 4,
  od 0x2100 0x0B 0x0B 3 1 0x00 true 2000 (200) 20000 4,
  od 0x2100 0x0C 0x0C 1 1 0x00 true 8 (4) 20 1,
  od 0x2100 0x0D 0x0D 2 1 0x00 true 10 (1) 100 2,
  od 0x2100 0x10 0x10 11 0 0x00 false 0 (0) 0 64,
  od 0x2100 0x11 0x11 4 0 0x00 false 0 (0) 18446744073709551615 8,
  od 0x2101 0x00 0x1F 4 0 0x00 false 0 (0) 18446744073709551615 8,
  od 0x2102 0x00 0x07 2 0 0x00 false 0 (0) 65535 2,
  od 0x2200 0x01 0x01 1 0 0x00 false 0 (0) 5 1,
  od 0x2200 0x02 0x02 1 0 0x00 false 0 (0) 6 1,
  od 0x2200 0x03 0x03 0 1 0x00 true 0 (0) 1 1,
  od 0x2200 0x04 0x04 0 1 0x00 true 0 (0) 1 1,
  od 0x2200 0x05 0x05 3 0 0x00 false 0 (0) 4294967295 4,
  od 0x2200 0x06 0x06 3 2 0x00 false 0 (0) 4294967295 4,
  od 0x2200 0x07 0x07 2 1 0x00 false 0 (0) 255 2,
  od 0x2200 0x08 0x08 11 1 0x00 false 0 (0) 0 65536,
  od 0x2200 0x09 0x09 1 0 0x00 false 0 (0) 5 1,
  od 0x2201 0x00 0x05 3 0 0x00 false 0 (0) 4294967295 4,
  od 0x2202 0x00 0x48 1 0 0x00 false 0 (0) 5 1,
  od 0x2203 0x00 0x00 11 1 0x00 true 0 (0) 0 2080,
  od 0x2300 0x01 0x01 1 0 0x00 false 0 (0) 128 1,
  od 0x2300 0x02 0x02 1 0 0x00 false 0 (0) 144 1,
  od 0x2300 0x03 0x03 11 1 0x00 true 0 (0) 0 18,
  od 0x2301 0x00 0x7F 1 0 0x00 false 0 (0) 143 1,
  od 0x2302 0x00 0x8F 2 0 0x00 false 0 (0) 65535 2,
  od 0x2210 0x01 0x01 3 2 0x00 false 0 (0) 4294967295 4,
  od 0x2210 0x02 0x02 1 2 0x00 false 0 (0) 7 1,
  od 0x2210 0x03 0x03 1 2 0x00 false 0 (0) 143 1,
  od 0x2210 0x04 0x04 0 1 0x00 false 0 (0) 1 1,
  od 0x2210 0x05 0x05 3 0 0x00 false 0 (0) 4294967295 4,
  od 0x2210 0x06 0x06 4 0 0x00 false 0 (0) 18446744073709551615 8,
  od 0x2211 0x00 0x09 1 1 0x00 false 0 (0) 4 1,
  od 0x7004 0x00 0x3F 0 2 0x00 false 0 (0) 1 1,
  od 0x2D00 0x10 0x10 4 0 0x00 false 0 (0) 18446744073709551615 8 ]

/-- Object rows, part 7. -/
def odRows7 : List OdEntry := [
  od 0x2D00 0x20 0x20 1 0 0x00 false 0 (0) 255 1,
  od 0x2D20 0x01 0x01 4 0 0x00 false 0 (0) 18446744073709551615 8,
  od 0x2D21 0x00 0x03 11 0 0x00 false 0 (0) 0 65536,
  od 0x2D30 0x01 0x01 2 1 0x00 true 65535 (0) 65535 2,
  od 0x2D30 0x02 0x02 4 0 0x00 false 0 (0) 18446744073709551615 8,
  od 0x2D30 0x03 0x03 4 0 0x00 false 0 (0) 18446744073709551615 8,
  od 0x2F00 0x01 0x01 1 0 0x00 false 0 (0) 64 1,
  od 0x2F00 0x02 0x02 3 2 0x00 false 0 (0) 4294967295 4,
  od 0x2F00 0x03 0x03 3 2 0x00 false 0 (0) 4294967295 4,
  od 0x2F00 0x04 0x04 1 0 0x00 false 0 (0) 255 1,
  od 0x2F01 0x01 0x01 11 0 0x00 false 0 (0) 0 64,
  od 0x2F01 0x02 0x02 11 0 0x00 false 0 (0) 0 29792,
  od 0x2F01 0x03 0x03 0 0 0x00 false 0 (0) 1 1,
  od 0x2F02 0x01 0x01 11 0 0x00 false 0 (0) 0 64,
  od 0x2F02 0x02 0x02 11 0 0x00 false 0 (0) 0 576,
  od 0x2F10 0x01 0x01 11 1 0x00 false 0 (0) 0 32,
  od 0x2F10 0x02 0x02 3 2 0x00 false 0 (0) 4294967295 4,
  od 0x2F10 0x03 0x03 11 0 0x00 false 0 (0) 0 50656,
  od 0x2F10 0x04 0x04 1 0 0x00 false 0 (0) 3 1,
  od 0x2E00 0x01 0x01 3 1 0x00 true 1000 (1) 1000000 4,
  od 0x2E01 0x01 0x01 1 1 0x00 true 0 (0) 2 1,
  od 0x2E01 0x02 0x02 3 1 0x00 true 68354 (0) 4294967295 4,
  od 0x2E01 0x03 0x03 11 1 0x00 true 0 (0) 0 48,
  od 0x2E01 0x04 0x04 3 0 0x00 false 0 (0) 4294967295 4,
  od 0x2E01 0x05 0x05 4 1 0x00 true 0 (0) 18446744073709551615 8,
  od 0x2E01 0x06 0x06 3 1 0x00 true 0 (0) 4294967295 4,
  od 0x2E01 0x07 0x07 4 0 0x00 false 0 (0) 18446744073709551615 8,
  od 0x2E01 0x08 0x08 4 0 0x00 false 0 (0) 18446744073709551615 8,
  od 0x2E10 0x01 0x01 3 1 0x00 false 0 (0) 4294967295 4,
  od 0x2E10 0x02 0x02 3 1 0x00 false 0 (0) 4294967295 4,
  od 0x2E10 0x03 0x03 1 1 0x00 false 255 (0) 255 1,
  od 0x2E10 0x04 0x04 1 1 0x00 false 0 (0) 1 1,
  od 0x2E10 0x05 0x05 4 1 0x00 false 0 (0) 18446744073709551615 8,
  od 0x2E10 0x06 0x06 3 1 0x00 false 0 (0) 4294967295 4,
  od 0x2E10 0x07 0x07 1 0 0x00 false 0 (0) 5 1,
  od 0x6018 0x00 0x8F 4 0 0x00 false 0 (0) 18446744073709551615 8,
  od 0x6019 0x00 0x8F 4 0 0x00 false 0 (0) 18446744073709551615 8,
  od 0x601A 0x00 0x8F 4 0 0x00 false 0 (0) 18446744073709551615 8,
  od 0x601B 0x00 0x8F 4 0 0x00 false 0 (0) 18446744073709551615 8,
  od 0x2212 0x01 0x01 2 0 0x00 false 0 (0) 65535 2,
  od 0x2212 0x02 0x02 1 0 0x00 false 0 (0) 255 1,
  od 0x2212 0x03 0x03 2 0 0x00 false 0 (0) 65535 2,
  od 0x2212 0x04 0x04 3 0 0x00 false 0 (0) 4294967295 4 ]

/-- Every entry of the dictionary but the board-defined ones (R378). -/
def odTable : List OdEntry :=
  odRows1 ++ odRows2 ++ odRows3 ++ odRows4 ++ odRows5 ++ odRows6 ++ odRows7

end Sys2Proof.Machine
end

