-- ==== Sys2Proof/Machine/Ecc.lean ====
section
/-! DEFINITION. The SEC-DED codes of R289 and R290 and the classes of their syndromes (R291). -/

namespace Sys2Proof

/-- The columns of data bits (R289, R290): the values of w bits whose weight is odd and at least 3, ascending.
DESIGN CHOICE: log entry 65. -/
def eccColumns (w : Nat) : List Nat :=
  (List.range (2 ^ w)).filter (fun v => decide (popCount w v % 2 = 1 ∧ 3 ≤ popCount w v))

/-- The 64 columns of the (72,64) code. -/
def cols72 : List Nat := (eccColumns 8).take 64

/-- The 32 columns of the (39,32) code. -/
def cols39 : List Nat := (eccColumns 7).take 32

/-- The XOR of the columns of the one bits of x. -/
def eccFold : List Nat → Nat → Nat
  | [], _ => 0
  | c :: cs, x => if x % 2 = 1 then c ^^^ eccFold cs (x / 2) else eccFold cs (x / 2)

/-- The check byte of a 64-bit word (R289). DESIGN CHOICE: log entry 65. -/
def checkByte (x : W64) : Byte := BitVec.ofNat 8 (eccFold cols72 x.toNat)

/-- The check bits of a 32-bit word (R290). DESIGN CHOICE: log entry 65. -/
def check7 (x : W32) : BitVec 7 := BitVec.ofNat 7 (eccFold cols39 x.toNat)

/-- The class of a syndrome (R291). -/
inductive EccClass where
  | clean
  | dataBit (i : Nat)
  | checkBit (j : Nat)
  | poison
  | uncorrectable
  deriving DecidableEq, Repr

/-- The position of a value in a list, counting from i. -/
def findIdxFrom : List Nat → Nat → Nat → Option Nat
  | [], _, _ => none
  | c :: cs, v, i => if c = v then some i else findIdxFrom cs v (i + 1)

/-- The class of a syndrome of the (72,64) code (R291). -/
def classify72 (syn : Byte) : EccClass :=
  if syn = 0 then .clean
  else if syn = 0xFF then .poison
  else match findIdxFrom [1, 2, 4, 8, 16, 32, 64, 128] syn.toNat 0 with
    | some j => .checkBit j
    | none => match findIdxFrom cols72 syn.toNat 0 with
      | some i => .dataBit i
      | none => .uncorrectable

/-- The class of a syndrome of the (39,32) code (R290, R291). -/
def classify39 (syn : BitVec 7) : EccClass :=
  if syn = 0 then .clean
  else if syn = 0x7F then .poison
  else match findIdxFrom [1, 2, 4, 8, 16, 32, 64] syn.toNat 0 with
    | some j => .checkBit j
    | none => match findIdxFrom cols39 syn.toNat 0 with
      | some i => .dataBit i
      | none => .uncorrectable

/-- A 32-bit word of a register file or a register cache with its check bits (R290). -/
structure RWord where
  val : W32
  chk : BitVec 7
  deriving DecidableEq, Repr

/-- A word as a write leaves it: with fresh check bits. -/
def RWord.of (v : W32) : RWord := { val := v, chk := check7 v }
/-- A word marked poisoned. -/
def RWord.poison (v : W32) : RWord := { val := v, chk := check7 v ^^^ 0x7F }
/-- A word as the sweep of R296 leaves it. DEDUCED: log entry 63. -/
def RWord.swept : RWord := { val := 0, chk := 0x7F }
/-- The syndrome of a word. -/
def RWord.syn (w : RWord) : BitVec 7 := w.chk ^^^ check7 w.val

/-- Read a word (R291): the word after correction or poisoning in place, whether it is delivered poisoned, and the event: the
syndrome, and whether it was uncorrectable. -/
def RWord.read (w : RWord) : RWord × Bool × Option (Byte × Bool) :=
  match classify39 w.syn with
  | .clean => (w, false, none)
  | .poison => (w, true, none)
  | .dataBit i => (RWord.of (w.val ^^^ BitVec.ofNat 32 (1 <<< i)), false, some (w.syn.setWidth 8, false))
  | .checkBit _ => (RWord.of w.val, false, some (w.syn.setWidth 8, false))
  | .uncorrectable => (RWord.poison w.val, true, some (w.syn.setWidth 8, true))

/-- The syndrome of a stored word and check byte (R289). -/
def syndrome (x : W64) (c : Byte) : Byte := c ^^^ checkByte x

/-- The word with one data bit inverted. -/
def flipBit (x : W64) (i : Nat) : W64 := x ^^^ BitVec.ofNat 64 (1 <<< i)

end Sys2Proof
end

