-- ==== Sys2Proof/Machine/SMap.lean ====
section
/-! DEFINITION. Sparse tables: a list of (key, value) pairs with rising keys. One container serves every memory (whose
values are bytes, so that it is a list of `Host.Cell`) and every numbered unit of the device. -/

namespace Sys2Proof

/-- A sparse table from numbers to values; a key that is not listed has the default its reader names. -/
abbrev SMap (α : Type) := List (Nat × α)

/-- The value of key `k`, `d` where the table lists none. -/
def SMap.get {α : Type} (d : α) : SMap α → Nat → α
  | [], _ => d
  | (j, v) :: m, k => if k = j then v else if k < j then d else SMap.get d m k

/-- The value of key `k` where the table lists one. -/
def SMap.find {α : Type} : SMap α → Nat → Option α
  | [], _ => none
  | (j, v) :: m, k => if k = j then some v else if k < j then none else SMap.find m k

/-- The table with value `v` listed at key `k`. -/
def SMap.put {α : Type} : SMap α → Nat → α → SMap α
  | [], k, v => [(k, v)]
  | (j, w) :: m, k, v =>
    if k < j then (k, v) :: (j, w) :: m else if k = j then (k, v) :: m else (j, w) :: SMap.put m k v

/-- The table with no entry at key `k`. -/
def SMap.drop {α : Type} : SMap α → Nat → SMap α
  | [], _ => []
  | (j, w) :: m, k => if k < j then (j, w) :: m else if k = j then m else (j, w) :: SMap.drop m k

/-- The table whose value at `k` is `v`, in canonical form: a value equal to the default `d` is not listed. -/
def SMap.write {α : Type} [DecidableEq α] (d : α) (m : SMap α) (k : Nat) (v : α) : SMap α :=
  if v = d then SMap.drop m k else SMap.put m k v

/-- Keys rise strictly, starting above `lo` where one is given. -/
def SMap.rising {α : Type} : Option Nat → SMap α → Bool
  | _, [] => true
  | none, (j, _) :: m => SMap.rising (some j) m
  | some i, (j, _) :: m => decide (i < j) && SMap.rising (some j) m

/-- The canonical form: rising keys, and no entry that equals the default `d`. -/
def SMap.wf {α : Type} [DecidableEq α] (d : α) (m : SMap α) : Bool :=
  SMap.rising none m && m.all (fun p => decide (p.2 ≠ d))

/-- The table with the value at `k` replaced by `f` of it. -/
def SMap.upd {α : Type} (d : α) (m : SMap α) (k : Nat) (f : α → α) : SMap α :=
  SMap.put m k (f (SMap.get d m k))

/-- The table with every listed value replaced. -/
def SMap.mapVals {α β : Type} (f : α → β) (m : SMap α) : SMap β := m.map (fun e => (e.1, f e.2))

end Sys2Proof
end

