-- ==== Sys2Proof/Machine/Mem.lean ====
section
/-! DEFINITION. Memories with check bytes: 64-bit words, one check byte each (R289), read and written by bytes.
A memory lists only bytes that differ from what an unlisted byte reads as: data byte 0 and check byte 0xFF, the
contents that the poison sweep of R296 leaves, so that an unlisted word reads as poisoned. -/

namespace Sys2Proof

/-- A byte in transit: its value, and whether the 64-bit word it comes from was poisoned (R298). -/
abbrev PByte := Byte × Bool

/-- A memory: the data bytes by address and the check bytes by word number, each a canonical sparse table of
(address, byte) cells. DESIGN CHOICE: log entry 141. -/
structure EccMem where
  data  : List Host.Cell
  check : List Host.Cell
  deriving DecidableEq, Repr

/-- A memory as the poison sweep leaves it (R296): every word poisoned. DESIGN CHOICE: log entry 15. -/
def EccMem.swept : EccMem := { data := [], check := [] }

/-- Both tables are in canonical form. -/
def EccMem.wf (m : EccMem) : Bool := SMap.wf (0 : Byte) m.data && SMap.wf (0xFF : Byte) m.check

/-- What an ECC read found beside the data: the word number, the syndrome, and whether it was uncorrectable
(otherwise corrected). -/
structure EccEvent where
  word : Nat
  syn  : Byte
  ue   : Bool
  deriving DecidableEq, Repr

/-- The raw data byte at an address. -/
def EccMem.byteAt (m : EccMem) (a : Nat) : Byte := SMap.get 0 m.data a

/-- The raw check byte of a word. -/
def EccMem.checkAt (m : EccMem) (w : Nat) : Byte := SMap.get 0xFF m.check w

/-- The raw data of word w. -/
def EccMem.wordAt (m : EccMem) (w : Nat) : W64 :=
  BitVec.ofNat 64 (leNat ((List.range 8).map (fun i => m.byteAt (8 * w + i))))

/-- The syndrome of word w. -/
def EccMem.synAt (m : EccMem) (w : Nat) : Byte := syndrome (m.wordAt w) (m.checkAt w)

/-- Whether word w is a poisoned word (R291). -/
def EccMem.isPoison (m : EccMem) (w : Nat) : Bool := m.synAt w == 0xFF

/-- Store consecutive data bytes. -/
def EccMem.putBytes : EccMem → Nat → List Byte → EccMem
  | m, _, [] => m
  | m, a, b :: bs => EccMem.putBytes { m with data := SMap.write 0 m.data a b } (a + 1) bs

/-- Store word w with a given check byte. -/
def EccMem.putRaw (m : EccMem) (w : Nat) (x : W64) (c : Byte) : EccMem :=
  let m := m.putBytes (8 * w) (leBytes 8 x.toNat)
  { m with check := SMap.write 0xFF m.check w c }

/-- Store word w with a fresh check byte (R293), or as a poisoned word. -/
def EccMem.putWord (m : EccMem) (w : Nat) (x : W64) (poison : Bool) : EccMem :=
  m.putRaw w x (if poison then checkByte x ^^^ 0xFF else checkByte x)

/-- Read word w (R291, R294): its data, whether it is delivered poisoned, the memory after correction or poisoning in
place, and the event. -/
def EccMem.readWord (m : EccMem) (w : Nat) : W64 × Bool × EccMem × List EccEvent :=
  let x := m.wordAt w
  let syn := m.synAt w
  match classify72 syn with
  | .clean => (x, false, m, [])
  | .poison => (x, true, m, [])
  | .dataBit i => let y := flipBit x i; (y, false, m.putWord w y false, [{ word := w, syn := syn, ue := false }])
  | .checkBit _ => (x, false, m.putWord w x false, [{ word := w, syn := syn, ue := false }])
  | .uncorrectable => (x, true, m.putWord w x true, [{ word := w, syn := syn, ue := true }])

/-- Read n words from word w on. -/
def EccMem.readWords : EccMem → Nat → Nat → List PByte × EccMem × List EccEvent
  | m, _, 0 => ([], m, [])
  | m, w, n + 1 =>
    let (x, p, m, ev) := m.readWord w
    let (bs, m, evs) := EccMem.readWords m (w + 1) n
    ((leBytes 8 x.toNat).map (fun b => (b, p)) ++ bs, m, ev ++ evs)

/-- The number of 64-bit words that bytes a … a+len-1 touch. -/
def wordSpan (a len : Nat) : Nat := if len = 0 then 0 else (a + len - 1) / 8 - a / 8 + 1

/-- Read len bytes from address a (every word touched is checked). -/
def EccMem.read (m : EccMem) (a len : Nat) : List PByte × EccMem × List EccEvent :=
  let (bs, m, ev) := EccMem.readWords m (a / 8) (wordSpan a len)
  ((bs.drop (a % 8)).take len, m, ev)

/-- One word's bytes merged: a byte not written keeps its place. -/
def mergeBytes : List Byte → List (Option PByte) → List Byte
  | [], _ => []
  | b :: bs, [] => b :: mergeBytes bs []
  | b :: bs, none :: us => b :: mergeBytes bs us
  | _ :: bs, some u :: us => u.1 :: mergeBytes bs us

/-- Whether any byte written is marked poisoned. -/
def anyPoison (us : List (Option PByte)) : Bool := us.any (fun u => match u with | some p => p.2 | none => false)

/-- Write word w (R293): a write of all 8 bytes stores a fresh check byte; a write of fewer is a read-modify-write
whose read classifies the word. -/
def EccMem.writeWord (m : EccMem) (w : Nat) (us : List (Option PByte)) : EccMem × List EccEvent :=
  if us.all (fun u => u.isNone) then (m, [])
  else if us.length = 8 ∧ us.all (fun u => u.isSome) then
    (m.putWord w (BitVec.ofNat 64 (leNat (mergeBytes (List.replicate 8 0) us))) (anyPoison us), [])
  else
    let (x, p, m, ev) := m.readWord w
    (m.putWord w (BitVec.ofNat 64 (leNat (mergeBytes (leBytes 8 x.toNat) us))) (p || anyPoison us), ev)

/-- Write n words from word w on. -/
def EccMem.writeWords : EccMem → Nat → Nat → List (Option PByte) → EccMem × List EccEvent
  | m, _, 0, _ => (m, [])
  | m, w, n + 1, us =>
    let (m, ev) := m.writeWord w (us.take 8)
    let (m, evs) := EccMem.writeWords m (w + 1) n (us.drop 8)
    (m, ev ++ evs)

/-- Write the given bytes from address a on; a position that is none is not written (a byte mask). -/
def EccMem.writeMasked (m : EccMem) (a : Nat) (us : List (Option PByte)) : EccMem × List EccEvent :=
  EccMem.writeWords m (a / 8) (wordSpan a us.length) (List.replicate (a % 8) none ++ us)

/-- Write every byte of a list from address a on. -/
def EccMem.write (m : EccMem) (a : Nat) (bs : List PByte) : EccMem × List EccEvent :=
  m.writeMasked a (bs.map some)

/-- The words of a memory that `p` chooses by their address, swept as HBM is (R296): data 0 with check byte 0xFF. -/
def EccMem.sweepWhere (m : EccMem) (p : Nat → Bool) : EccMem :=
  { data := m.data.filter (fun c => !p c.1), check := m.check.filter (fun c => !p (8 * c.1)) }

/-- Word w with the poison syndrome and the data it holds. -/
def EccMem.poisonWord (m : EccMem) (w : Nat) : EccMem := m.putWord w (m.wordAt w) true

/-- The words that `p` chooses by their address, swept as Bedrock and tile stores are (R296): each keeps its data and gets the
inverted check byte. An unlisted word stands so already. -/
def EccMem.poisonWhere (m : EccMem) (p : Nat → Bool) : EccMem :=
  ((m.data.map (fun (c : Host.Cell) => c.1 / 8) ++ m.check.map (fun (c : Host.Cell) => c.1)).filter (fun w => p (8 * w))).foldl EccMem.poisonWord m

/-- The words of an address range swept so. -/
def EccMem.poisonRange (m : EccMem) (lo hi : Nat) : EccMem := m.poisonWhere (fun a => decide (lo ≤ a ∧ a < hi))

/-- The bytes of an address range with no poison mark, as stored. -/
def EccMem.peek (m : EccMem) (a len : Nat) : List Byte := (List.range len).map (fun i => m.byteAt (a + i))

/-- Bytes with no poison mark. -/
def clean (bs : List Byte) : List PByte := bs.map (fun b => (b, false))

/-- The values of bytes in transit. -/
def vals (bs : List PByte) : List Byte := bs.map (fun p => p.1)

/-- Whether any byte of a list is marked poisoned. -/
def poisoned (bs : List PByte) : Bool := bs.any (fun p => p.2)

/-- How a source word stands: its value after correction, and 0 clean, 1 correctable, 2 uncorrectable or poisoned. -/
def EccMem.look (m : EccMem) (w : Nat) : W64 × Nat :=
  match classify72 (m.synAt w) with
  | .clean => (m.wordAt w, 0)
  | .dataBit i => (flipBit (m.wordAt w) i, 1)
  | .checkBit _ => (m.wordAt w, 1)
  | .poison => (m.wordAt w, 2)
  | .uncorrectable => (m.wordAt w, 2)

/-- A line of a memory filled with a word. -/
def EccMem.fillLine (m : EccMem) (L : Nat) (x : W64) : EccMem := (List.range 32).foldl (fun m i => m.putWord (L * 32 + i) x false) m

end Sys2Proof
end

