-- ==== Sys2Proof/Machine/StateBase.lean ====
section
/-! DEFINITION. State shared by all blocks: who issues requests, requests in flight, error records, access tables,
memories. -/

namespace Sys2Proof.Machine

/-- A unit that issues requests or waits (R41, R199). Tiles are physical tiles; a group is named by its hardware group
number (R145). -/
inductive Who where
  | core (t : Nat)
  | mover (t m : Nat)
  | group (t slot : Nat)
  | array (t : Nat)
  | l1 (t : Nat)
  | devSched
  | fabric (link key : Nat)   -- ingress link; key = source device × 2^12 + source master id × 4 + class (R332)
  | hild
  | mgt (core : Nat)
  | rop (slice : Nat)
  | hbmScrub
  | bdrScrub
  | trace
  | debug
  | master (mid : Nat)
  deriving DecidableEq, Repr

/-- The master id of a unit (R41, R42). -/
def Who.mid : Who → Nat
  | .core t => t
  | .mover t _ => t
  | .group t _ => t
  | .array t => t
  | .l1 t => t
  | .devSched => 0x098
  | .fabric link _ => 0x0A0 + link
  | .hild => 0x0E0
  | .mgt c => 0x0E8 + c
  | .rop s => 0x0F0 + s
  | .hbmScrub => 0x0F8
  | .bdrScrub => 0x0F9
  | .trace => 0x0FA
  | .debug => 0x0FB
  | .master m => m

/-- The physical tile a unit belongs to. -/
def Who.tile : Who → Option Nat
  | .core t => some t
  | .mover t _ => some t
  | .group t _ => some t
  | .array t => some t
  | .l1 t => some t
  | _ => none

/-- The waiter word of R199 and R477: master id, group, lane, control-core bit. -/
def Who.waiter (w : Who) (lane : Nat) : W32 :=
  match w with
  | .core t => BitVec.ofNat 32 (t + 2 ^ 21)
  | .group t g => BitVec.ofNat 32 (t + g * 2 ^ 10 + lane * 2 ^ 16)
  | w => BitVec.ofNat 32 w.mid

/-- The value of a record field that is empty (R477). -/
def noUnit : W32 := 0xFFFFFFFF

/-- An error record (R477); SEQ is given at delivery (R478). DETAIL holds bytes 38–63, byte 38 in bits 7:0. -/
structure Rec where
  cls     : Nat
  code    : Nat
  sev     : Nat
  layer   : Nat
  source  : W32
  object  : W32
  waiter  : W32
  address : W64
  losc    : W32
  ctx     : Half
  detail  : BitVec 208
  deriving DecidableEq, Repr

/-- The kinds of requests to a home. -/
inductive RKind where
  | load            -- read of bytes
  | store           -- write of bytes, with a byte mask where one is given
  | red (fmt : Nat) -- add-to-line or minmax-to-line in a format of R253
  | ctrInc          -- CTR_INC to a remote counter: data holds amount, epoch and EPOCH_VALID
  | prefetch        -- Hoist prefetch of a line
  deriving DecidableEq, Repr

/-- Where a request stands. -/
inductive RSt where
  | sent            -- on its way to its home
  | parked          -- parked at its slice (R247)
  | waitFill        -- joined to a miss register
  | out             -- sent over the fabric or the Hild link, waiting for its response
  | done            -- performed; a load's data is held in `data`
  | failed (code : Nat)  -- refused at a remote home, or timed out
  deriving DecidableEq, Repr

/-- A request in flight. `aux` and `op` belong to the issuing unit: the destination address of a mover's read, the
acceptance number of the operation, the group's load; of a request that came over the fabric or the Hild link, `aux` is its
tag; `tag` is the tag of a read of this device that is out on the Hild link or the fabric. -/
structure Req where
  id   : Nat
  who  : Who
  ctx  : Nat
  kind : RKind
  addr : Nat
  data : List PByte      -- bytes to write, or bytes read
  mask : List Bool       -- bytes written, or read of registers; empty: all
  len  : Nat
  cls  : Nat             -- bandwidth class given by the checking target (R48)
  hint : Nat             -- LAST_USE hint: 0 none, 1 dead-clean, 2 dead-discard
  aux  : Nat
  op   : Nat
  st   : RSt
  tag  : Nat := 0
  seen : Bool := false   -- its lookup has been counted (R243, R251, R261)
  byp  : Bool := false   -- a bypass load of a group (R248)
  imm  : Bool := false   -- remote, of a range that the link-egress table marks IMM: it looks for a copy (R263)
  direct : Bool := false -- an instruction fetch or a descriptor read: its data waits for the unit that asked
  share : Nat := 0       -- a companion's READ_SHARED 1, READ_EXCL 2 (R351)
  adm  : Nat := 0        -- its port: 0 not admitted, 1 admitted, 2 granted (R308, R312)
  acc  : Nat := 0        -- the order in which its home accepted it, from 1; 0: not accepted (R235)
  elems : List Nat := [] -- targets of a reduction's elements, in order, as offsets from addr; empty: consecutive from addr
  deriving DecidableEq, Repr

/-- One access-table entry: the three words of R49. -/
structure ActEntry where
  base  : W64
  limit : W64
  ctrl  : W64
  deriving DecidableEq, Repr

/-- One access table with its control registers (R44, R51). `fence` holds the lookups an ACT_SYNC write found pending;
`syncHeld` counts reads of ACT_SYNC that are held. -/
structure ActTable where
  entries    : SMap ActEntry
  lock       : Bool
  badEntry   : Bool
  whileValid : Bool
  denyCount  : Nat
  fence      : List Nat
  syncHeld   : List Who
  deriving DecidableEq, Repr

/-- The memories with check bytes: HBM by local offset, Bedrock by bank, row and byte, tile stores by tile. -/
structure Mems where
  hbm    : EccMem
  bed    : EccMem
  stores : SMap EccMem
  deriving DecidableEq, Repr

/-- A board-defined entry (R378). -/
structure BoardEntry where
  type    : Nat
  access  : Nat
  size    : Nat
  default : W64
  stored  : Bool
  lo      : Nat
  hi      : Nat
  deriving DecidableEq, Repr

/-- One copy of the stored-values area of board flash (R375). -/
structure StoreCopy where
  valid  : Bool
  seq    : Nat
  vals   : SMap W64          -- scalar entries by index × 256 + subindex
  blobs  : SMap (List Byte)  -- DOMAIN and VSTRING entries
  version : Nat := 0x0100    -- its OD version
  types  : SMap Nat := []    -- the types that a copy of another version gives its entries
  deriving DecidableEq, Repr

/-- A copy that holds nothing valid. -/
def StoreCopy.empty : StoreCopy := { valid := false, seq := 0, vals := [], blobs := [] }

/-- The object dictionary and its access state: values that differ from their defaults, DOMAIN contents held by the
dictionary itself, MGT_OD_LAST by master, block-port selectors, the board-defined entries, and the stored values. -/
structure OdState where
  val     : SMap W64
  blob    : SMap (List Byte)
  last    : SMap W64          -- MGT_OD_LAST by master id
  sel     : SMap W64          -- MGT_ODB_SEL by port
  board   : SMap BoardEntry
  copies  : List StoreCopy    -- the two record copies
  busy    : Option StoreCopy  -- the copy that a store command in progress writes, as its entries stood at the command
  deriving DecidableEq, Repr

end Sys2Proof.Machine
end

