-- ==== Sys2Proof/Machine/StateTile.lean ====
section
/-! DEFINITION. State of one tile: control core, scoreboard, movers, array, ramp, thread-group engine, debug
(R115–R175, R498–R509). -/

namespace Sys2Proof.Machine

/-- A pass descriptor as its fields (R66). -/
structure Pd where
  words        : List W64
  gen          : Nat
  modeArg      : Nat
  reload       : Nat
  intScale     : Bool
  bscale       : Bool
  accumulate   : Bool
  outFmt       : Nat
  aFmt         : Nat
  wFmt         : Nat
  mode         : Nat
  tagOut       : Nat
  tagA         : Nat
  tagW         : Nat
  nCols        : Nat
  kBlocks      : Nat
  m            : Nat
  wScaleAddr   : Nat
  wAddr        : Nat
  aStride      : Nat
  aAddr        : Nat
  outStride    : Nat
  outAddr      : Nat
  aScaleStride : Nat
  aScaleAddr   : Nat
  streamBase   : W64
  lastUse      : Nat
  lineStride   : Nat
  streamLines  : Nat
  deriving DecidableEq, Repr

/-- Weights and scales as loaded into the array, with the poison marks of their words. -/
structure WSet where
  mode     : Nat
  wFmt     : Nat
  aFmt     : Nat
  bscale   : Bool
  intScale : Bool
  kBlocks  : Nat
  w        : List PByte
  s        : List PByte
  deriving DecidableEq, Repr

/-- How far a pass is (R70–R73). -/
inductive PassSt where
  | queued | loading | loaded | streaming | draining
  deriving DecidableEq, Repr

/-- An accepted pass: descriptor, acceptance number, progress, its weights, the rows admitted with their operand bytes,
the results written per row, the columns with a parity error from a row on (R79), and the previous values already read, by
row × 256 + column (R75). -/
structure Pass where
  pd      : Pd
  op      : Nat
  st      : PassSt
  wset    : Option WSet
  rows    : SMap (List PByte × List PByte)
  rowsIn  : Nat
  colsOut : SMap Nat
  parity  : List (Nat × Nat)
  prevs   : SMap (List PByte)
  cut     : Bool                -- stopped by an abort: only the admitted rows complete
  no      : Nat                 -- pass number within the task (R508)
  noStart : Bool                -- a shadow-weight parity error: admits no row
  deriving DecidableEq, Repr

/-- The array with its ramp controller (R70–R80, R98–R113). -/
structure Arr where
  passes     : List Pass        -- queue and draining passes, in order of acceptance
  stat       : Option WSet      -- stationary weights
  lastKeep   : Option Pd        -- the pass a KEEP would keep the weights of (R74); none after an array error
  error      : Bool             -- an array error since the weights were loaded (R72)
  poison     : Bool
  satInt     : Bool
  infOut     : Bool
  nanOut     : Bool
  stallCount : Nat
  waveCount  : Nat
  stallSteps : Nat
  stuck      : Bool
  ramp       : Nat              -- state of R98
  blocks     : Nat
  token      : Bool
  urgent     : Bool
  want       : Nat              -- 0 none, 1 waits for a token to ramp on, 2 to ramp off
  tokenWait  : Nat
  entries    : Nat
  ramps      : Nat
  deriving DecidableEq, Repr

/-- The events that release a scoreboard registration (R132). -/
inductive SbEvent where
  | lastRow | shadow | results | srcRead | dstDone | kernelEnd | claim | dumpRead
  deriving DecidableEq, Repr

/-- One scoreboard registration (R132): the tag, the halves by how they were named, and the events still to come. -/
structure SbReg where
  op     : Nat                  -- acceptance number of the operation
  unit   : Who
  isPass : Bool
  tag    : Nat
  rdIn   : Bool                 -- read named as TAG_A, TAG_W, TAG_SRC or RTAG
  rdOut  : Bool                 -- read of an accumulating pass's TAG_OUT
  wrIn   : Bool                 -- write of a mover, kernel or claim
  wrOut  : Bool                 -- write of a pass's TAG_OUT
  pend   : List SbEvent
  deriving DecidableEq, Repr

/-- A DMA descriptor as its fields (R128). -/
structure Dd where
  words     : List W64
  gen       : Nat
  tsrcEn    : Bool
  tdstEn    : Bool
  tagDst    : Nat
  tagSrc    : Nat
  lastUse   : Nat
  redFmt    : Nat
  rows      : Nat
  op        : Nat
  src       : W64
  dst       : W64
  dstStride : Nat
  srcStride : Nat
  rowBytes  : Nat
  deriving DecidableEq, Repr

/-- A descriptor in a mover: not started, issuing requests, or issued with requests outstanding. `row`, `off` give the next
bytes to read (COPY, REDUCE) or write (FILL), or the next row-op descriptor; `rops` the row operations outstanding. -/
structure DmaEnt where
  dd      : Dd
  op      : Nat
  started : Bool
  issued  : Bool
  row     : Nat
  off     : Nat
  rops    : Nat
  deriving DecidableEq, Repr

/-- A kernel launch descriptor as its fields (R130). -/
structure Kl where
  words      : List W64
  gen        : Nat
  maskedZero : Bool
  seqMask    : Nat
  groups     : Nat
  entry      : W64
  arg        : W64
  wtags      : List Nat
  rtags      : List Nat
  deriving DecidableEq, Repr

/-- What a stalled ISSUE instruction offers, with its descriptor once read (R127). -/
structure Issue where
  func  : Nat                   -- 0 PASS, 1 PASSR, 2 DMA, 3 KLAUNCH
  mover : Option Nat            -- the mover named; none: any
  addr  : Nat                   -- tile-store offset of the descriptor
  words : Option (List W64)     -- the descriptor, once read
  deriving DecidableEq, Repr

/-- What a waiting control core waits for (state 3). -/
inductive CoreWait where
  | load (rd size : Nat) (req : Nat)
  | tag (op tag : Nat) (both : Bool)
  | claim (op tag : Nat)
  | fence
  | sync (rd : Nat) (wide : Bool)
  | syncArm                     -- a SYNC operation waiting for earlier stores (R206)
  | ready (rd : Nat) (v : W64)  -- a wait that ended while the core was halted: its status, delivered at resume (R503)
  deriving DecidableEq, Repr

/-- The control core (R117–R126). DESIGN CHOICE: log entry 25. -/
structure Core where
  g        : SMap W64           -- g1–g31; an unlisted register is zero
  pc       : W64
  st       : Nat                -- 0 stopped, 1 running, 2 stalled on issue, 3 waiting, 4 halted by debug, 5 faulted
  icache   : SMap (List PByte)  -- 64-byte lines by address / 64
  icPerr   : List Nat           -- lines of it whose tag has a parity error (R292)
  issue    : Option Issue
  wait     : Option CoreWait
  ended    : Bool               -- END has executed
  nextOp   : Nat                -- acceptance number of the next operation
  fault    : W64                -- TILE_FAULT
  faultPc  : W64                -- TILE_FAULT_PC
  timeout  : Nat                -- SYN_TIMEOUT
  skipBp   : Bool               -- the instruction at PC executes once whatever its breakpoint (after RESUME or a step)
  back     : Nat                -- the state a debug halt interrupted
  deriving DecidableEq, Repr

/-- A mask-stack entry (R157): kind 0 IF, 1 ELSE, 2 LOOP. -/
structure MaskEnt where
  kind  : Nat
  saved : Nat
  els   : Nat
  deriving DecidableEq, Repr

/-- An outstanding group load: destination register, element size, per lane its address and value once known, and the
line requests it waits for. -/
structure GLoad where
  op     : Nat
  vd     : Nat
  size   : Nat
  bypass : Bool
  lanes  : List (Nat × Nat)       -- lane, address
  vals   : SMap Nat               -- lane to value
  reqs   : List Nat
  pc     : W64                    -- the load instruction, for a fault at its return
  word   : W64
  mask   : Nat
  deriving DecidableEq, Repr

/-- A synchronisation operation of a group in progress (R205): destination, the lanes still without a result, and the
results. -/
structure GSync where
  func  : Nat
  vd    : Nat
  wide  : Bool
  lanes : List Nat
  res   : SMap Nat
  deriving DecidableEq, Repr

/-- A resident group. DESIGN CHOICE: log entry 141. -/
structure Grp where
  num     : Nat                   -- group number within the kernel
  order   : Nat                   -- start order, for issue priority
  pc      : W64
  active  : Nat
  exited  : Nat
  stack   : List MaskEnt          -- innermost first
  u       : SMap RWord            -- words of u registers by register × 2 + half; an unlisted one holds zero
  p       : SMap W32
  live    : Nat                   -- live v registers: bit register × 32 + lane
  v       : SMap RWord            -- words of the main file by register × 32 + lane; an unlisted one stands as swept
  rc      : SMap RWord            -- words that the register cache holds
  loads   : List GLoad
  sync    : Option GSync
  busyV   : List (Nat × Nat)      -- registers waiting for a GMX result: base and count
  stopped : Bool                  -- faulted or stopped by an abort
  fence   : Nat                   -- fence in progress: 0 none, 1 G, 2 T, 3 D, 4 the release of a synchronisation operation
  deriving DecidableEq, Repr

/-- One line of the tile L1: valid sectors, data with check bytes (R289), dirty bytes, insertion order, and whether its tag
has a parity error (R292). DESIGN CHOICE: log entry 141. -/
structure L1Line where
  valid : Nat                     -- 4 sectors of 64 bytes
  mem   : EccMem                  -- 256 bytes
  dirty : Nat                     -- mask of 256 bytes
  age   : Nat
  perr  : Bool
  deriving DecidableEq, Repr

/-- One line of an L0: data with check bytes (R289), and whether its tag has a parity error (R292).
DESIGN CHOICE: log entry 141. -/
structure L0Line where
  mem  : EccMem                   -- 64 bytes
  perr : Bool
  deriving DecidableEq, Repr

/-- The running kernel. -/
structure KRun where
  kl     : Kl
  op     : Nat
  next   : Nat                    -- next group number to start
  strict : Bool                   -- strict dead-read, latched at kernel start (R175)
  flush  : Bool                   -- all groups finished: dirty lines are being written back
  deriving DecidableEq, Repr

/-- A GMX operation in a group matrix unit: slot, registers of D, and the results computed from the sources at issue. -/
structure GmxOp where
  slot : Nat
  vd   : Nat
  res  : SMap W32                 -- values by register × 32 + lane
  sat  : Bool
  nan  : Bool
  inf  : Bool
  deriving DecidableEq, Repr

/-- The thread-group engine (R145–R175). -/
structure Tge where
  kq        : List (Kl × Nat)     -- kernels accepted and not started, with acceptance numbers
  kern      : Option KRun
  slots     : SMap Grp            -- resident groups by hardware group number
  starts    : Nat                 -- groups started, for issue order
  gic       : SMap (List PByte)   -- shared instruction cache: 64-byte lines
  gicPerr   : List Nat            -- lines of it whose tag has a parity error (R292)
  l0        : SMap (SMap L0Line)  -- per sequencer: 64-byte lines
  l1        : SMap L1Line         -- 256-byte lines by address / 256
  l1age     : Nat
  rc        : SMap (List (Nat × Nat × Bool)) -- register caches by (sequencer × 2 + issue slot) × 32 + lane: (group slot, register, dirty), most recent first
  turn      : SMap Nat            -- per sequencer: the issue slot whose turn it is
  gmx       : SMap (List GmxOp)   -- per sequencer, oldest first
  deadRead  : Bool
  satInt    : Bool
  nanOut    : Bool
  infOut    : Bool
  fault     : W64
  faultPc   : W64
  issued    : Nat
  hits      : Nat
  portStalls : Nat
  deriving DecidableEq, Repr

/-- The debug registers of a tile (R498–R506). -/
structure Dbg where
  ctl       : W64                 -- TASK_HALT and GROUP
  state     : Nat                 -- 0 running, 1 draining, 2 halted, 3 stepping
  step      : Nat                 -- the step in progress: 0 none, 1 the control core, 2 a group
  cause     : Nat
  bpHit     : Nat
  halts     : Nat
  drainLate : Bool
  dead      : Bool
  notHalted : Bool
  bp        : SMap W64            -- DBG_BP0–3
  rsel      : W64
  busy      : Nat
  array     : Nat
  stall     : Nat
  corrected : Nat
  uncorrected : Nat
  deriving DecidableEq, Repr

/-- One physical tile. -/
structure Tile where
  role     : Nat                  -- 0 active, 1 spare, 2 retired
  causes   : Nat                  -- retirement cause bits of OD 0x2302
  logical  : Nat                  -- TILE_ID.LOGICAL; 0xFF when none
  epoch    : Nat
  task     : Option (Nat × Nat)   -- partition and sequence number of the task placed
  ctx      : Nat
  index    : Nat                  -- task tile index
  passNo   : Nat                  -- passes accepted for the present task (R508)
  aborting : Bool                 -- the tile has received its task's abort
  storing  : Bool                 -- a poison sweep of the store is in progress
  kept     : SMap Nat             -- counts of the array that resets have cleared, by subindex of OD 0x2A00 (R81, R114)
  core     : Core
  sb       : List SbReg
  movers   : SMap (List DmaEnt)
  arr      : Arr
  tge      : Tge
  dbg      : Dbg
  -- bundle and rate (R390–R401)
  rate     : W64                  -- TILE_RATE
  vbBad0   : Nat                  -- data lanes of half 0 found failed; TILE_VB_STATUS.FAILED counts both halves
  vbBad1   : Nat
  vbWidth  : Nat
  vbSpares : Nat
  vbPaused : Bool
  trend    : Nat
  baseline : Nat
  lifeMin  : Nat
  deriving DecidableEq, Repr

def Arr.init : Arr :=
  { passes := [], stat := none, lastKeep := none, error := false, poison := false, satInt := false, infOut := false,
    nanOut := false, stallCount := 0, waveCount := 0, stallSteps := 0, stuck := false, ramp := 0, blocks := 0,
    token := false, urgent := false, want := 0, tokenWait := 0, entries := 0, ramps := 0 }

/-- DEDUCED: log entry 16. -/
def Core.init : Core :=
  { g := [], pc := 0, st := 0, icache := [], icPerr := [], issue := none, wait := none, ended := false, nextOp := 0, fault := 0,
    faultPc := 0, timeout := 100000, skipBp := false, back := 0 }

def Tge.init : Tge :=
  { kq := [], kern := none, slots := [], starts := 0, gic := [], gicPerr := [], l0 := [], l1 := [], l1age := 0, rc := [],
    turn := [], gmx := [],
    deadRead := false, satInt := false, nanOut := false, infOut := false, fault := 0, faultPc := 0, issued := 0,
    hits := 0, portStalls := 0 }

def Dbg.init : Dbg :=
  { ctl := 0, state := 0, step := 0, cause := 0, bpHit := 0, halts := 0, drainLate := false, dead := false, notHalted := false,
    bp := [], rsel := 0, busy := 0, array := 0, stall := 0, corrected := 0, uncorrected := 0 }

/-- A tile as cold reset leaves it. DEDUCED: log entry 16. -/
def Tile.init : Tile :=
  { role := 1, causes := 0, logical := 0xFF, epoch := 0, task := none, ctx := 0, index := 0, passNo := 0, aborting := false,
    storing := false, kept := [], core := Core.init, sb := [], movers := [], arr := Arr.init, tge := Tge.init, dbg := Dbg.init,
    rate := 0, vbBad0 := 0, vbBad1 := 0, vbWidth := 0, vbSpares := 0, vbPaused := false, trend := 0, baseline := 0,
    lifeMin := 0 }

end Sys2Proof.Machine
end

