-- ==== Sys2Proof/Machine/StateSync.lean ====
section
/-! DEFINITION. State of the synchronisation fabric (R197–R229) and of the device and sector schedulers (R176–R196). -/

namespace Sys2Proof.Machine

/-- Kinds of synchronisation objects, numbered as in R199. -/
inductive ObjKind where
  | ctr | lock | evt | chan
  deriving DecidableEq, Repr

/-- What a pending synchronisation operation waits for. -/
inductive WaitFor where
  | value (target : W64)              -- CTR.WAIT
  | inc (amount : Nat)                -- a held increment (R214)
  | acquire                           -- LOCK.ACQ
  | event                             -- EVT.WAIT
  | round                             -- BAR.WAIT
  | arrive (thenWait : Bool)          -- a stalled arrival (R223)
  deriving DecidableEq, Repr

/-- A pending wait: its issuing unit and lane, whether it is held in the unit for want of a wait entry (R210), and the
operation number that the lanes of one group instruction share; the epoch that an increment carries. -/
structure SWait where
  kind : ObjKind
  num  : Nat
  who  : Who
  lane : Nat
  op   : Nat
  want : WaitFor
  held : Bool
  epoch : Option Nat
  deriving DecidableEq, Repr

/-- A lock (R216–R219): its owner and lane, the ABANDONED mark, and whether a LOCK_SELF_GROUP has been answered in this
tenure. -/
structure Lock where
  owner     : Option (Who × Nat)
  abandoned : Bool
  selfGroup : Bool
  deriving DecidableEq, Repr

/-- A barrier channel (R221–R224). `arrived` counts arrivals per member tile in the current round; `last` holds, per
unit, the round of its last arrival; `fab` the fabric part of the round (R343). -/
structure Chan where
  cfg     : W64
  round   : Nat
  sense   : Bool
  members : List Nat
  arrived : SMap Nat
  last    : List (Who × Nat)
  deriving DecidableEq, Repr

def Lock.init : Lock := { owner := none, abandoned := false, selfGroup := false }

/-- SYN_BAR_CFG after reset: LOCAL is 1 (R224). -/
def Chan.init : Chan := { cfg := 0x100, round := 0, sense := false, members := [], arrived := [], last := [] }

/-- The synchronisation fabric. -/
structure Sync where
  ctr    : SMap W64
  ctrAttr : SMap W64
  lock   : SMap Lock
  lockAttr : SMap W64
  evt    : List Nat                   -- events that are set
  evtAttr : SMap W64
  chan   : SMap Chan
  waits  : List SWait                 -- oldest first
  nextOp : Nat
  handObj : W64
  handVal : W64
  deriving DecidableEq, Repr

def Sync.init : Sync :=
  { ctr := [], ctrAttr := [], lock := [], lockAttr := [], evt := [], evtAttr := [], chan := [], waits := [],
    nextOp := 0, handObj := 0, handVal := 0 }

/-- How far a task is (R177–R186). -/
inductive TaskSt where
  | fetching | window | placed
  | done                              -- complete: TD_STATUS written, its completion increments still to come
  deriving DecidableEq, Repr

/-- A task in a fetch window or placed. -/
structure Task where
  part   : Nat
  seq    : Nat
  slot   : Nat                        -- local offset of its descriptor
  words  : List W64
  st     : TaskSt
  ctx    : Nat
  tiles  : List Nat                   -- physical tiles, ascending by logical id
  complete : List Nat                 -- tiles whose share is complete
  quiet  : List Nat                   -- aborted tiles that are quiet
  abort  : Option Nat                 -- TD_STATUS.CODE of the first cause of an abort
  deriving DecidableEq, Repr

/-- A partition (R192): state, fetch and release positions, final tasks that wait for their predecessors, the pre-empted
contexts to clear when it stops, and whether it is partition-fatal (R475). -/
structure Part where
  state   : Nat
  ctx     : Nat
  fetch   : Nat                       -- sequence number of the next task to fetch
  rel     : Nat                       -- sequence number the release counter has reached
  finals  : List Nat
  preCtx  : List Nat
  fatal   : Bool
  armed   : Bool                      -- the scheduler's wait on the submit counter is armed
  deriving DecidableEq, Repr

def Part.init : Part :=
  { state := 0, ctx := 0, fetch := 0, rel := 0, finals := [], preCtx := [], fatal := false, armed := true }

structure Sched where
  parts   : SMap Part
  tasks   : List Task
  running : Bool                      -- the device scheduler has been released (R453) and not stopped
  retry   : List Nat                  -- partitions waiting to retry placement (R416)
  deriving DecidableEq, Repr

end Sys2Proof.Machine
end

