-- ==== Sys2Proof/Machine/StateMem.lean ====
section
/-! DEFINITION. State of the memory complex: HBM stacks, Bedrock slices, banks and LLC (R230–R303), error records and
management cores (R475–R489). -/

namespace Sys2Proof.Machine

/-- One HBM stack with its registers and scrubber (R287–R303). DESIGN CHOICE: log entry 141. -/
structure Stack where
  good      : Bool
  fenced    : W64
  sweepDone : Bool
  sweeping  : Bool
  fillBusy  : Bool
  pattern   : W64
  bucket    : Nat
  corrected : Nat
  uncorrected : Nat
  die       : Nat
  lastCe    : W64
  scrubPos  : Nat
  lapStart  : Nat                 -- Bedrock count at which the lap began
  lap       : Nat                 -- lap time, ms
  rowCes    : SMap Nat            -- corrections per row since bring-up
  repair    : List W64
  overflow  : W64
  selfRefresh : Bool
  trained   : Bool
  dieCe     : List Nat := []      -- words of HBM whose every read the die corrects (R287)
  dieUe     : List Nat := []      -- words of HBM that the die reports uncorrectable (R287)
  caFaults  : Nat := 0            -- commands that the interface will fail by a parity error (R287)
  fill      : Option Nat := none  -- the next line of a stack fill (R300)
  deriving DecidableEq, Repr

/-- One error-record queue and the management-core pair (R475–R488). -/
structure Rel where
  queue     : List Rec            -- oldest first, at most 1,024
  seq       : Nat
  lines     : List Rec            -- discarded records of severity 2 or higher whose line is raised
  lost      : List Rec            -- discarded records whose RECORD_LOST is still to be written
  late      : List Rec            -- records of severity 3 or 4 whose action waits for the end of a warm reset (R489)
  spoil     : List (Nat × Rec)    -- Spoil log, at most 4,096, oldest first
  spoilSeq  : Nat
  fatal     : Bool                -- severity 4 in force
  degraded  : Bool                -- severity 2 since cold reset
  active    : Nat                 -- active management core, 0 A, 1 B
  standby   : Bool                -- a standby core is available
  dead      : Bool                -- no management core works
  takeover  : Bool                -- a takeover is in progress
  alert     : Bool                -- ALERT_N driven low
  deriving DecidableEq, Repr

def Stack.init : Stack :=
  { good := true, fenced := 0, sweepDone := false, sweeping := false, fillBusy := false, pattern := 0, bucket := 0,
    corrected := 0, uncorrected := 0, die := 0, lastCe := 0, scrubPos := 0, lapStart := 0, lap := 0, rowCes := [],
    repair := [], overflow := 0, selfRefresh := false, trained := false }

def Rel.init : Rel :=
  { queue := [], seq := 0, lines := [], lost := [], late := [], spoil := [], spoilSeq := 0, fatal := false, degraded := false,
    active := 0, standby := true, dead := false, takeover := false, alert := false }

/-- One LLC line (R236): L is its line address; `remote` marks a read-only copy of a remote line. Its data lies in
Bedrock at the place of R530. DESIGN CHOICE: log entry 141. -/
structure LlcLine where
  set    : Nat
  way    : Nat
  L      : Nat
  remote : Bool
  valid  : Nat                    -- 4 sectors
  dirty  : Nat
  pinned : Bool
  dead   : Bool
  age    : Nat
  perr   : Bool := false          -- the parity bit of its tag is wrong (R292)
  deriving DecidableEq, Repr

/-- One miss register (R245–R249): the line, the sectors asked for, the tiles and requests joined; whether a read opened it, and
where its HBM read stands at the controller front: 0 not admitted, 1 admitted, 2 issued. -/
structure Miss where
  L       : Nat
  remote  : Bool
  sectors : Nat
  stream  : Bool                  -- of stream class
  tiles   : List Nat
  reqs    : List Nat
  prefetch : Bool
  alloc   : Bool
  rd      : Bool
  adm     : Nat := 0
  deriving DecidableEq, Repr

/-- A Hoist stream (R258–R262). -/
structure HStream where
  key      : Nat
  tile     : Nat
  mid      : Nat
  ctx      : Nat
  base     : Nat
  stride   : Nat
  lines    : Nat
  pos      : Nat
  asked    : List Nat             -- lines from the position on that have been prefetched
  lastUse  : Nat
  remote   : Bool
  detected : Bool
  age      : Nat
  deriving DecidableEq, Repr

/-- A row-op descriptor in a bank queue (R269–R273): its words, its issuer, the mover entry it belongs to, whether it is
a retry (R280), whether its wait under tROPW has been counted, and the rows an INIT still has to start. -/
structure RopEnt where
  words   : List W64
  who     : Who
  ctx     : Nat
  mover   : Option (Nat × Nat × Nat)  -- tile, mover, acceptance number
  retry   : Bool
  corrected : Nat                     -- corrections of the first attempt
  waited  : Bool
  initAt  : Nat                       -- rows of an INIT already written
  order   : Nat                       -- order of entry, for R278
  deriving DecidableEq, Repr

/-- A row-op unit (R273–R284): queue with the operation in progress at its head, the ready signal, and the ordinary
accesses found waiting when the signal rose. -/
structure Bank where
  queue : List RopEnt
  busy  : Bool                        -- an operation is in progress; the ready signal is low
  ended : Bool                        -- completed, tROPX running
  serve : List Nat                    -- requests to serve before the next operation (R276)
  stuck : Bool
  deriving DecidableEq, Repr

def Bank.init : Bank := { queue := [], busy := false, ended := false, serve := [], stuck := false }

/-- One Bedrock slice (R230–R303). -/
structure Slice where
  lines      : List LlcLine
  misses     : List Miss
  missPeak   : Nat
  filter     : List Nat               -- discard filter, oldest first, at most 4,096
  thrash     : Bool
  winLook    : Nat
  winMiss    : Nat
  ended      : List (Nat × Nat)       -- thrash windows that are full and not yet judged, oldest first: lookups, misses
  hits       : Nat
  missCount  : Nat
  joins      : Nat
  pinDenied  : Nat
  hoistFills : Nat
  rereads    : Nat
  streams    : List HStream
  nextKey    : Nat
  members    : List (Nat × Nat × List Nat) -- stream key, physical tile, the stream lines that tile has read
  hist       : SMap (List Nat)        -- per tile, the last 16 missed line addresses, newest first
  age        : Nat
  submit     : List (Nat × Who × Nat) -- submit queue: descriptor address, writer, its context
  ropStuck   : Bool
  ropOverflow : Bool
  ops        : Nat
  ropCorrected : Nat
  ropPoison  : Nat
  windowWaits : Nat
  ropOrder   : Nat
  starts     : SMap (List (Nat × Nat)) -- per bank group: (Bedrock count, weight) of starts
  sweepDone  : Bool
  bucket     : Nat
  corrected  : Nat
  uncorrected : Nat
  lastCe     : W64
  scrubPos   : Nat
  lapStart   : Nat
  lap        : Nat
  deriving DecidableEq, Repr

def Slice.init : Slice :=
  { lines := [], misses := [], missPeak := 0, filter := [], thrash := false, winLook := 0, winMiss := 0, ended := [], hits := 0,
    missCount := 0, joins := 0, pinDenied := 0, hoistFills := 0, rereads := 0, streams := [], nextKey := 0,
    members := [], hist := [], age := 0, submit := [], ropStuck := false, ropOverflow := false, ops := 0,
    ropCorrected := 0, ropPoison := 0, windowWaits := 0, ropOrder := 0, starts := [], sweepDone := false, bucket := 0,
    corrected := 0, uncorrected := 0, lastCe := 0, scrubPos := 0, lapStart := 0, lap := 0 }

/-- A pin-hint range (R242). -/
structure Pin where
  base  : W64
  limit : W64
  valid : Bool
  walk  : Bool
  walkBase  : W64 := 0            -- the range that the unpin walk clears
  walkLimit : W64 := 0
  deriving DecidableEq, Repr

def Pin.init : Pin := { base := 0, limit := 0xFFF, valid := false, walk := false }

/-- Device-wide Bedrock state: scratch banks per slice in force (R230), pin-hint ranges, the immutable fence, sector
buckets of the Lower Face memories. -/
structure Bed where
  nb       : Nat
  pins     : SMap Pin
  pinBad   : Bool
  pinWhile : Bool
  fence    : Bool
  slices   : SMap Slice
  banks    : SMap Bank
  stackTab   : SMap Stack
  sectorBucket : SMap Nat
  sweeping : Bool                     -- the cold Bedrock sweep is in progress
  deriving DecidableEq, Repr

/-- A power region (R406, R415–R418): state 0 off, 1 deferring, 2 soft-starting, 3 on; the time of its switch-on. -/
structure Region where
  state    : Nat
  hold     : Bool
  urgent   : Bool
  degraded : Bool
  volt     : Nat
  current  : Nat
  holdWait : Bool                     -- on, with the hold still to be released
  deriving DecidableEq, Repr

/-- DEDUCED: log entry 101. -/
def Region.init : Region :=
  { state := 0, hold := true, urgent := false, degraded := false, volt := 0, current := 0, holdWait := false }

/-- A response that a fabric ingress or Hild request leaves behind: who asked, a STATUS code (0 OK), data.
DESIGN CHOICE: log entry 6. -/
structure Resp where
  who  : Who
  ctx  : Nat
  code : Nat
  addr : Nat
  data : List PByte
  deriving DecidableEq, Repr

end Sys2Proof.Machine
end

