-- ==== Sys2Proof/Machine/StateFab.lean ====
section
/-! DEFINITION. State of the ports (R304–R318), the Yonus fabric (R319–R345), the Hild link and the Deale sessions
(R346–R365). -/

namespace Sys2Proof.Machine

/-- A packet (R328). `data` holds the payload bytes; `poison` one bit per 64-bit word of it; `mask` the byte mask of a
WRITE_MASKED; `fits` tells whether the payload has the size that TYPE and LEN_M1 give, and `data` is the whole payload where not. -/
structure Pkt where
  type   : Nat
  hop    : Nat
  cls    : Nat
  dst    : Nat
  src    : Nat
  mid    : Nat
  tag    : Nat
  ctx    : Nat
  fmt    : Nat
  epochV : Bool
  epoch  : Nat
  status : Nat
  lenM1  : Nat
  addr   : Nat
  poison : Nat
  operand : Nat
  mask   : Nat
  data   : List Byte
  fits   : Bool := true
  deriving DecidableEq, Repr

/-- A frame sent and not yet acknowledged: its sequence number, its 20 slots and its CRC (R321, R322). -/
structure Frame where
  num   : Nat
  bytes : List Byte
  crc   : Nat
  deriving DecidableEq, Repr

/-- A packet waiting in the router or an egress queue: the link it arrived on (none: the device's own), the class and the number
under which its port knows it, and where it stands there: 0 not admitted, 1 admitted, 2 granted (R306, R308). -/
structure QPkt where
  pkt  : Pkt
  from_ : Option Nat
  cls  : Nat := 0
  id   : Nat := 0
  adm  : Nat := 0
  deriving DecidableEq, Repr

/-- One Yonus or Hild link (R319–R342). -/
structure Link where
  state    : Nat                  -- R325
  enable   : Bool
  partnerDev : Nat
  partnerLink : Nat
  polarity : Nat
  reversed : Bool
  urgent   : Bool
  version  : Nat
  heldCode : Nat
  serial   : List Byte
  known    : Option (Nat × List Byte) -- partner recorded at bring-up (R327)
  full     : Bool                 -- the next training uses no saved settings (R325, R461)
  retrainDue : Bool               -- DOWN and waiting for the retrain holdoff
  tx       : Nat
  rx       : Nat
  fec      : Nat
  bad      : Nat
  replays  : Nat
  downs    : Nat
  res      : Nat                  -- reserved credits per VC granted by the partner
  ownRes   : Nat                  -- reserved credits per VC advertised to it
  cred     : SMap Nat             -- reserved credits left, by VC; unlisted: `res`
  pool     : Nat                  -- shared credits left
  out      : List QPkt            -- egress queue, oldest first
  unacked  : List (Nat × Pkt)     -- sent packets with the frame that carried their last slot
  txOld    : Nat                  -- oldest unacknowledged frame
  txLast   : Nat                  -- number after the last frame sent
  resends  : SMap Nat             -- sendings of a frame again
  rxNext   : Nat                  -- frame expected
  nak      : Bool                 -- a NAK is due
  ackDue   : Bool
  partial_ : List (List Byte)     -- slots of the packet being received
  ingress  : List Pkt             -- packets received and not yet taken, oldest first
  freed    : SMap Nat             -- slots freed by VC since the last link control slot
  ctlSent  : List W64             -- the last link control slot sent
  txPart   : List (List Byte)     -- slots of the frame that is being filled
  frames   : List Frame           -- the frames kept until they are acknowledged, oldest first
  ctlGap   : Nat                  -- frames ended since the last link control slot, at most 4
  idSent   : List Byte            -- the ID_EXCHANGE payload that this end has sent (R326)
  deriving DecidableEq, Repr

def Link.init : Link :=
  { state := 0, enable := false, partnerDev := 0, partnerLink := 0, polarity := 0, reversed := false, urgent := false,
    version := 0, heldCode := 0, serial := [], known := none, full := false, retrainDue := false, tx := 0, rx := 0, fec := 0, bad := 0,
    replays := 0, downs := 0, res := 0, ownRes := 0, cred := [], pool := 0, out := [], unacked := [], txOld := 0,
    txLast := 0, resends := [], rxNext := 0, nak := false, ackDue := false, partial_ := [], ingress := [], freed := [],
    ctlSent := [], txPart := [], frames := [], ctlGap := 4, idSent := [] }

/-- A route entry (R337) with the choices in force before the changes of a running settle interval (R342): the entry and
the set of links that were UP. -/
structure Route where
  mask   : W64
  valid  : Bool
  settle : List (W64 × Bool × W64)
  deriving DecidableEq, Repr

def Route.init : Route := { mask := 0, valid := false, settle := [] }

/-- A barrier group (R343). -/
structure YBar where
  ctrl    : W64                   -- VALID, ROOT, NCHILD, PARENT
  arrived : Nat
  child   : SMap Nat
  sent    : Bool                  -- the arrival of the current round has been sent to the parent
  deriving DecidableEq, Repr

def YBar.init : YBar := { ctrl := 0, arrived := 0, child := [], sent := false }

/-- A read tag in use (R336): the request it belongs to, or the remote line of a fill by its slice. -/
structure RTag where
  tag  : Nat
  req  : Option Nat
  line : Option (Nat × Nat)       -- slice, line (global address / 256)
  addr : Nat
  len  : Nat
  mid  : Nat
  ctx  : Nat
  deriving DecidableEq, Repr

/-- The fabric. `held` are the requests held by a route change, `wait` the reads that wait for a free tag. -/
structure Fab where
  links  : SMap Link              -- Yonus links 0–63, the Hild link as 64
  routes : SMap Route
  bars   : SMap YBar
  tags   : List RTag
  held   : List QPkt
  wait   : List Nat
  deriving DecidableEq, Repr

def Fab.init : Fab := { links := [], routes := [], bars := [], tags := [], held := [], wait := [] }

/-- A request at an arbiter (R305–R316): its master, charged units, Bedrock count of admission, whether its wait has been
counted, whether the resource it lacked is free (in a return place), and the number of the request or packet it stands for. -/
structure PReq where
  mid   : Nat
  units : Nat
  at_   : Nat
  waited : Bool
  ready : Bool
  req   : Nat
  deriving DecidableEq, Repr

/-- One regulated port (R304). Budgets and quotas that are listed nowhere have their reset values. -/
structure Port where
  lock    : Bool
  stuck   : Bool
  windows : Nat
  budget  : SMap Nat              -- BUDGET registers by master; unlisted: unlimited
  inForce : SMap Nat              -- budgets of the running window
  remain  : SMap Int              -- REMAIN by master; unlisted: the budget in force
  masked  : List Nat
  quota   : W64                   -- ARB_QUOTA
  left    : SMap Nat              -- grants left in the window, inputs 12–15
  lastMid : Nat
  fired   : Nat
  queues  : SMap (List PReq)
  ret     : SMap PReq             -- return places
  grants  : SMap Nat
  waits   : SMap Nat
  longest : SMap Nat
  transfer : Option (Nat × PReq)  -- input and request of the open transfer
  deriving DecidableEq, Repr

def Port.init : Port :=
  { lock := false, stuck := false, windows := 0, budget := [], inForce := [], remain := [], masked := [], quota := 0,
    left := [], lastMid := 0, fired := 0, queues := [], ret := [], grants := [], waits := [], longest := [],
    transfer := none }

/-- A snoop directory entry (R351): state E or S, the read that made it. -/
structure DirEnt where
  excl : Bool
  age  : Nat
  deriving DecidableEq, Repr

/-- A snoop outstanding (R352, R353). -/
structure Snoop where
  line : Nat
  inv  : Bool
  deriving DecidableEq, Repr

/-- An event-log record waiting for its WRITE_ACK (R357): severity, class, code. -/
structure LogWrite where
  req  : Nat
  sev  : Nat
  cls  : Nat
  code : Nat
  deriving DecidableEq, Repr

/-- The Hild block: snoop directory by line, snoops, event log and interrupts. Its link is
link 64 of the fabric's list. -/
structure Hild where
  dir    : SMap DirEnt
  dirAge : Nat
  snoops : List Snoop
  log    : List LogWrite
  irqHold : Bool                  -- an interrupt holdoff is running
  irqNext : Option (Nat × Nat × Nat) -- the latest qualifying record of the holdoff: severity, class, code
  deriving DecidableEq, Repr

def Hild.init : Hild :=
  { dir := [], dirAge := 0, snoops := [], log := [], irqHold := false, irqNext := none }

/-- A Deale message (R361). -/
structure Deale where
  command : Nat
  response : Bool
  status  : Nat
  session : Nat
  seq     : Nat
  index   : Nat
  sub     : Nat
  role    : Nat
  offset  : Nat
  data    : List Byte
  mac     : Nat                   -- the other station
  deriving DecidableEq, Repr

/-- A session (R362, R363). -/
structure Session where
  id   : Nat
  mac  : Nat
  role : Nat
  seq  : Nat
  kept : Option Deale
  deriving DecidableEq, Repr

/-- The management port: sessions, messages sent, NOTIFY sequence numbers. -/
structure Mgp where
  sessions : List Session
  outbox   : List Deale
  notifySeq : Nat
  notifyAt : Option Nat           -- Bedrock count at the last NOTIFY
  deriving DecidableEq, Repr

def Mgp.init : Mgp := { sessions := [], outbox := [], notifySeq := 0, notifyAt := none }

end Sys2Proof.Machine
end

