-- ==== Sys2Proof/Machine/StateMgt.lean ====
section
/-! DEFINITION. State of the management island: power (R403–R419), thermal (R420–R435), bring-up (R436–R458), reset
(R459–R474), security (R490–R498), trace and dump (R507–R510), pins (R511–R529). -/

namespace Sys2Proof.Machine

/-- A rail of the vertical stage (R407–R409). -/
structure Rail where
  lost   : Nat                    -- phases lost
  fault  : Bool                   -- no valid AVSBus response
  off    : Bool
  current : Nat                   -- 0.1 A
  temp   : Nat                    -- °C, as read
  status : Nat                    -- as read
  deriving DecidableEq, Repr

def Rail.init : Rail := { lost := 0, fault := false, off := false, current := 0, temp := 0, status := 0 }

/-- A switch-on of a region that has been requested and has not reached its soft-start (R416): its deferral in checks of
10 µs. -/
structure SwitchOn where
  region : Nat
  defer  : Nat
  deriving DecidableEq, Repr

/-- The power manager. -/
structure Pwr where
  converter : Bool                -- the module converter is on
  aux       : Bool                -- 12 V present
  main      : Bool                -- 48 V present
  uvSamples : Nat                 -- 10 µs samples in a row below 40 V
  uvDeep    : Nat                 -- below 36 V
  ovSamples : Nat                 -- above 59.5 V
  upSamples : Nat                 -- at or above 41 V
  inputThrottle : Bool            -- urgent throttle for low input
  limitThrottle : Bool            -- urgent throttle for a 1 ms excursion (R411)
  limiting  : Bool                -- a voltage reduction episode under R411
  excess      : Bool                -- the 100 ms average exceeds the limit
  under95   : Bool                -- it is below 95 % of the limit
  changing  : Bool                -- a profile change is in progress
  standby   : Bool                -- STANDBY
  rails     : SMap Rail
  switches  : List SwitchOn
  high      : Nat                 -- measurements in a row with a 1 ms average above 2,600 W
  base      : SMap Nat            -- target voltage, mV, of region r (Profile L) or of rail 32 + r (Profile F)
  limit     : SMap Nat            -- the same as lowered by the power limit
  therm     : SMap Nat            -- the same as lowered by thermal throttling
  deriving DecidableEq, Repr

def Pwr.init : Pwr :=
  { converter := false, aux := true, main := true, uvSamples := 0, uvDeep := 0, ovSamples := 0, upSamples := 0,
    inputThrottle := false, limitThrottle := false, limiting := false, excess := false, under95 := false,
    changing := false, standby := false, rails := [], switches := [], high := 0, base := [], limit := [], therm := [] }

/-- A sensor group (R420–R431); temperatures in 0.1 °C. -/
structure ThGroup where
  eff     : Int
  meas    : Int
  inferred : Int
  rate    : Int
  hist    : List Int              -- newest first, at most 64
  excluded : List Nat             -- excluded sensors
  suspect : Bool
  rateThr : Bool
  rateWarn : Bool
  level   : Nat
  overShut : Nat                  -- consecutive samples at the shutdown threshold
  dev     : SMap Nat              -- consecutive samples for which a sensor has differed from the median, by sensor
  hot     : Nat                   -- consecutive samples of T_inf above the suspect margin
  cool    : Nat                   -- consecutive samples below the threshold of the level
  valid   : Bool                  -- the group has been sampled since it was switched on
  deriving DecidableEq, Repr

def ThGroup.init : ThGroup :=
  { eff := 0, meas := 0, inferred := 0, rate := 0, hist := [], excluded := [], suspect := false, rateThr := false,
    rateWarn := false, level := 0, overShut := 0, dev := [], hot := 0, cool := 0, valid := false }

structure Thm where
  groups   : SMap ThGroup
  throttled : List Nat            -- sectors throttled (R428)
  withdrawn : List Nat            -- sectors withdrawn (R429)
  latch    : Bool                 -- shutdown latch (R433)
  lastShut : List Byte            -- the record of R432
  refMis   : List Nat             -- layers whose reference sensors disagree
  refComp  : SMap Int             -- twice the temperature that a layer is compensated against, by layer (R422)
  power    : SMap Nat             -- P_LF by sector, W
  deriving DecidableEq, Repr

def Thm.init : Thm :=
  { groups := [], throttled := [], withdrawn := [], latch := false, lastShut := [], refMis := [], refComp := [], power := [] }

/-- A saved training entry (R442). -/
structure Saved where
  serial  : List Byte
  straps  : Nat
  partner : List Byte
  band    : Nat
  checkOk : Bool
  deriving DecidableEq, Repr

/-- Fuses (R437, R490). -/
structure Fuses where
  keyHash  : List Byte
  seed     : List Byte
  svnFloor : Nat
  debugLock : Nat
  serial   : List Byte
  mac      : W64
  badTiles : List Nat
  badLanes : SMap Nat             -- vertical lanes marked bad, by tile: count
  pins     : SMap Nat
  romDigest : List Byte
  stackIds : SMap (List Byte) := []   -- the stacks' own identifiers (R442): no fuses, but as fixed as they
  deriving DecidableEq, Repr

/-- DESIGN CHOICE: log entry 14. -/
def Fuses.init : Fuses :=
  { keyHash := [], seed := [], svnFloor := 0, debugLock := 0, serial := List.replicate 16 0, mac := 0, badTiles := [],
    badLanes := [], pins := [], romDigest := List.replicate 64 0 }

/-- The identifier of a stack. -/
def Fuses.stackId (f : Fuses) (n : Nat) : List Byte := SMap.get [] f.stackIds n

/-- Bring-up and recovery. Image pages are listed by page and byte; a byte written since the erase is marked. -/
structure Bup where
  state    : Nat                  -- device state (R452)
  stage    : Nat
  cause    : Nat
  held     : Bool                 -- cold reset is held
  rom      : Bool                 -- ROM recovery
  fw       : Bool                 -- the firmware image runs
  warmStep : Nat                  -- 0: no warm reset; else the step of R466 in progress
  fwVersion : W32
  svn      : Nat
  image    : SMap Byte            -- the image area of flash (unlisted: 0xFF)
  written  : SMap Bool            -- bytes written since the erase
  imageOk  : Bool                 -- the image in flash verifies (R439)
  erased   : Bool
  recovery : Nat                  -- recovery status
  flashMiss : Bool                -- a flash entry without a value
  topoBad  : Bool                 -- topology does not hold
  stagesOver : List Nat           -- stages that timed out
  bdrBad   : Bool
  trained  : SMap Nat             -- outcome by item (R445)
  bands    : SMap Nat := []       -- temperature bands at the start of stage 3, by sensor group (R442)
  unread   : List Nat             -- flash items whose read timed out: stored-value copies 0 and 1, saved entry of item i as 2 + i
  flashAct : SMap (SMap ActEntry) -- the firmware's access-table entries in flash, by target
  flashHild : Bool                -- flash enables the Hild link
  saved    : SMap Saved
  lastReset : W32
  coldSource : Nat
  deriving DecidableEq, Repr

/-- DESIGN CHOICE: log entry 14. -/
def Bup.init : Bup :=
  { state := 0, stage := 0, cause := 0, held := false, rom := false, fw := false, warmStep := 0, fwVersion := 0, svn := 0,
    image := [], written := [], imageOk := true, erased := false, recovery := 0, flashMiss := false, topoBad := false,
    stagesOver := [], bdrBad := false, trained := [], unread := [], flashAct := [], flashHild := true, saved := [],
    lastReset := 0, coldSource := 0 }

/-- Security (R490–R498). -/
structure Sec where
  chain    : List Byte            -- m
  log      : List (Nat × List Byte)
  unlocked : Bool
  burning  : Bool
  signing  : Bool
  report   : List Byte
  repState : Nat
  endorsed : Bool
  deriving DecidableEq, Repr

def Sec.init : Sec :=
  { chain := List.replicate 64 0, log := [], unlocked := false, burning := false, signing := false, report := [],
    repState := 0, endorsed := false }

/-- A trace record (R507) as its 32 bytes. -/
abbrev TraceRec := List Byte

/-- A tensor dump that has fired (R509): the tile, the acceptance number of the dump read, the pass and its number, the task. -/
structure DumpRun where
  tile  : Nat
  op    : Nat
  pd    : Pd
  pass  : Nat
  name  : Nat
  index : Nat
  seq   : Nat
  tiles : Nat
  ctx   : Nat
  sent  : Nat := 0                -- records of it that have entered the trace buffer
  deriving DecidableEq, Repr

/-- Trace and tensor dump (R507–R510). -/
structure Trc where
  buf     : List (Nat × TraceRec) -- output buffer, oldest first: source and record
  seq     : SMap Nat              -- records generated, by source
  drops   : SMap Nat              -- records dropped since the source's last one
  port    : List TraceRec         -- records sent on the trace port
  urgent  : Bool
  stopped : Bool                  -- the ring has stopped after a refusal
  ringPos : Nat
  line    : List Byte             -- bytes of the ring line being filled
  dump    : Option DumpRun        -- a dump that has fired
  reading : Bool                  -- its data is being read
  deriving DecidableEq, Repr

def Trc.init : Trc :=
  { buf := [], seq := [], drops := [], port := [], urgent := false, stopped := false, ringPos := 0, line := [],
    dump := none, reading := false }

/-- Module pins (R511–R529). DESIGN CHOICE: log entry 121. -/
structure Pins where
  levels  : Nat                   -- filtered sideband levels
  straps  : Nat                   -- sampled straps (OD 0x2212.02)
  cages   : Nat                   -- plugs seated
  tripN   : Bool                  -- THERM_TRIP_N driven low by the shutdown path
  refBad  : Nat                   -- reference oscillators failed: bits 0 and 1
  refSwitches : Nat
  jtag    : Nat                   -- the last instruction the TAP executed; 0 BYPASS
  deriving DecidableEq, Repr

/-- DESIGN CHOICE: log entry 14. -/
def Pins.init : Pins :=
  { levels := 0, straps := 8, cages := 0, tripN := false, refBad := 0, refSwitches := 0, jtag := 0 }

end Sys2Proof.Machine
end

