-- ==== Sys2Proof/Machine/State.lean ====
section
/-! DEFINITION. The whole state of the device, the reasons a step can stop, and the state after reset. -/

namespace Sys2Proof.Machine

/-- Why a step faults. DESIGN CHOICE: log entry 4. -/
inductive Fault where
  /-- Raised by `exec` for a command whose operands are not well-formed (data of another length than the command
  carries). No command of the device has such operands. Safe: the machine stops where the hardware has no behaviour. -/
  | illFormed
  deriving DecidableEq, Repr

/-- Why a step is refused. -/
inductive Refusal where
  /-- Answered by `exec` for a command that has no meaning yet. Safe: the machine stops. -/
  | notModelled (mnemonic : String)
  deriving DecidableEq, Repr

/-- The device. DESIGN CHOICE: log entries 5, 6. -/
structure State where
  pending : List Instr                -- commands waiting, first in, first out
  free    : Nat                       -- number of free values used so far (the model's own field)
  bedLosc : Nat                       -- the three layer-oscillator counters (R386–R389)
  lfLosc  : Nat
  ufLosc  : Nat
  tiles   : SMap Tile                 -- by physical tile
  act     : SMap ActTable             -- access tables by target (R44)
  mem     : Mems
  reqs    : List Req                  -- requests in flight, oldest first
  nextReq : Nat
  resp    : List Resp                 -- responses waiting to be sent, oldest first
  sync    : Sync
  sched   : Sched
  od      : OdState
  bed     : Bed
  rel     : Rel
  startupHold : Bool                  -- the start-up hold of R107
  regions : SMap Region
  marks   : Nat                       -- BDR_LOSC_MARK and the counts latched at it (R389)
  markLf  : Nat
  markUf  : Nat
  ports   : SMap Port
  fab     : Fab
  hild    : Hild
  mgp     : Mgp
  fuses   : Fuses
  pwr     : Pwr
  thm     : Thm
  bup     : Bup
  sec     : Sec
  trc     : Trc
  pins    : Pins
  deriving DecidableEq, Repr

/-- The boot entry's words (R52): masters 0x0E8–0x0E9, context 0, rights R, W, X and A, class C2. -/
def bootCtrl : W64 :=
  placeB true 63 ||| place 2 56 2 ||| place 0xF 48 5 ||| place 1 32 16 ||| place 0xE9 16 10 ||| place 0xE8 0 10

/-- The whole range that a target checks (R52, R44). -/
def targetRange (t : Nat) : Nat × Nat :=
  if t < 8 then (0x100_0000_0000, 0x101_47FF_FFFF)
  else if t < 16 then (0, 0x7F_FFFF_FFFF)
  else if t = 16 then (0, 0xFFFF_FFFF_FFFF_FFFF)
  else if t = 17 then (0x102_0000_0000, 0x102_FFFF_FFFF)
  else if t = 18 then (0x103_0000_0000, 0x103_FFFF_FFFF)
  else (0x200_0000_0000, 0x2FF_FFFF_FFFF)

/-- An access table at cold reset (R52). DESIGN CHOICE: log entry 11. -/
def ActTable.init (t : Nat) : ActTable :=
  { entries := [(0, { base := BitVec.ofNat 64 (targetRange t).1, limit := BitVec.ofNat 64 (targetRange t).2, ctrl := bootCtrl })],
    lock := false, badEntry := false, whileValid := false, denyCount := 0, fence := [], syncHeld := [] }

/-- DESIGN CHOICE: log entry 14. -/
def Sched.init : Sched := { parts := [], tasks := [], running := false, retry := [] }

def OdState.init : OdState :=
  { val := [], blob := [], last := [], sel := [], board := [], copies := [], busy := none }

def Bed.init : Bed :=
  { nb := 32, pins := [], pinBad := false, pinWhile := false, fence := false, slices := [], banks := [], stackTab := [],
    sectorBucket := [], sweeping := false }

/-- DESIGN CHOICE: log entry 15. -/
def Mems.init : Mems := { hbm := EccMem.swept, bed := EccMem.swept, stores := [] }

/-- The device right after cold reset. DESIGN CHOICE: log entries 1, 14. -/
def State.reset : State :=
  { pending := [], free := 0, bedLosc := 0, lfLosc := 0, ufLosc := 0, tiles := [], act := [], mem := Mems.init,
    reqs := [], nextReq := 1, resp := [], sync := Sync.init, sched := Sched.init, od := OdState.init, bed := Bed.init,
    rel := Rel.init, startupHold := true, regions := [], marks := 0, markLf := 0, markUf := 0,
    ports := [], fab := Fab.init, hild := Hild.init, mgp := Mgp.init, fuses := Fuses.init, pwr := Pwr.init,
    thm := Thm.init, bup := Bup.init, sec := Sec.init, trc := Trc.init, pins := Pins.init }

/-- What a step answers. -/
abbrev Out := Host.Outcome State Fault Refusal

end Sys2Proof.Machine
end

