-- ==== Sys2Proof/Machine/Ops.lean ====
section
/-! DEFINITION. Named operations over the state: units, dictionary values, free values, error records (R477–R482), task
aborts, requests, memories with their correction accounts (R291–R302). -/

namespace Sys2Proof.Machine

/-! Units by number. -/

def State.tile (s : State) (t : Nat) : Tile := SMap.get Tile.init s.tiles t
def State.setTile (s : State) (t : Nat) (x : Tile) : State := { s with tiles := SMap.put s.tiles t x }
def State.updTile (s : State) (t : Nat) (f : Tile → Tile) : State := s.setTile t (f (s.tile t))

def State.core (s : State) (t : Nat) : Core := (s.tile t).core
def State.updCore (s : State) (t : Nat) (f : Core → Core) : State := s.updTile t (fun x => { x with core := f x.core })
def State.arr (s : State) (t : Nat) : Arr := (s.tile t).arr
def State.updArr (s : State) (t : Nat) (f : Arr → Arr) : State := s.updTile t (fun x => { x with arr := f x.arr })
def State.tge (s : State) (t : Nat) : Tge := (s.tile t).tge
def State.updTge (s : State) (t : Nat) (f : Tge → Tge) : State := s.updTile t (fun x => { x with tge := f x.tge })
def State.dbg (s : State) (t : Nat) : Dbg := (s.tile t).dbg
def State.updDbg (s : State) (t : Nat) (f : Dbg → Dbg) : State := s.updTile t (fun x => { x with dbg := f x.dbg })

def State.slice (s : State) (n : Nat) : Slice := SMap.get Slice.init s.bed.slices n
def State.setSlice (s : State) (n : Nat) (x : Slice) : State :=
  { s with bed := { s.bed with slices := SMap.put s.bed.slices n x } }
def State.updSlice (s : State) (n : Nat) (f : Slice → Slice) : State := s.setSlice n (f (s.slice n))

def State.bank (s : State) (n : Nat) : Bank := SMap.get Bank.init s.bed.banks n
def State.setBank (s : State) (n : Nat) (x : Bank) : State :=
  { s with bed := { s.bed with banks := SMap.put s.bed.banks n x } }
def State.updBank (s : State) (n : Nat) (f : Bank → Bank) : State := s.setBank n (f (s.bank n))

def State.stack (s : State) (n : Nat) : Stack := SMap.get Stack.init s.bed.stackTab n
def State.setStack (s : State) (n : Nat) (x : Stack) : State :=
  { s with bed := { s.bed with stackTab := SMap.put s.bed.stackTab n x } }
def State.updStack (s : State) (n : Nat) (f : Stack → Stack) : State := s.setStack n (f (s.stack n))

def State.table (s : State) (n : Nat) : ActTable := SMap.get (ActTable.init n) s.act n
def State.setTable (s : State) (n : Nat) (x : ActTable) : State := { s with act := SMap.put s.act n x }
def State.updTable (s : State) (n : Nat) (f : ActTable → ActTable) : State := s.setTable n (f (s.table n))

def State.region (s : State) (n : Nat) : Region := SMap.get Region.init s.regions n
def State.setRegion (s : State) (n : Nat) (x : Region) : State := { s with regions := SMap.put s.regions n x }
def State.updRegion (s : State) (n : Nat) (f : Region → Region) : State := s.setRegion n (f (s.region n))

def State.part (s : State) (p : Nat) : Part := SMap.get Part.init s.sched.parts p
def State.setPart (s : State) (p : Nat) (x : Part) : State :=
  { s with sched := { s.sched with parts := SMap.put s.sched.parts p x } }
def State.updPart (s : State) (p : Nat) (f : Part → Part) : State := s.setPart p (f (s.part p))

/-- The sector and the slot of a physical tile (R14). -/
def sectorOf (t : Nat) : Nat := t / 18
def slotOf (t : Nat) : Nat := t % 18

/-- All physical tiles. -/
def allTiles : List Nat := List.range 144

/-! The object dictionary's scalar values. -/

def odKey (idx sub : Nat) : Nat := idx * 256 + sub

/-- The table row of an entry. -/
def odFind (idx sub : Nat) : Option OdEntry := odTable.find? (fun e => e.idx == idx && e.lo ≤ sub && sub ≤ e.hi)

/-- The default of an entry's value. -/
def odDefault (idx sub : Nat) : W64 :=
  match odFind idx sub with | some e => BitVec.ofNat 64 e.dflt | none => 0

/-- The value an entry holds. -/
def State.odGet (s : State) (idx sub : Nat) : W64 :=
  match SMap.find s.od.val (odKey idx sub) with | some v => v | none => odDefault idx sub

def State.odNat (s : State) (idx sub : Nat) : Nat := (s.odGet idx sub).toNat

def State.odSet (s : State) (idx sub : Nat) (v : W64) : State :=
  { s with od := { s.od with val := SMap.put s.od.val (odKey idx sub) v } }

/-- A counter object raised by one (it wraps at 2^64). -/
def State.odInc (s : State) (idx sub : Nat) : State := s.odSet idx sub (s.odGet idx sub + 1)

/-! Free values. -/

/-- The next free 64-bit value and the state with it used up. DESIGN CHOICE: log entry 5. -/
def State.fresh (s : State) : W64 × State := (Config.free64 s.free, { s with free := s.free + 1 })

/-- A free choice among n candidates (0 where there is none). DESIGN CHOICE: log entry 5. -/
def State.choose (s : State) (n : Nat) : Nat × State :=
  (if n = 0 then 0 else Config.freeChoice s.free % n, { s with free := s.free + 1 })

/-! Error records. -/

/-- Bits 31:0 of the oscillator counter of a record's layer (R388). -/
def State.loscOf (s : State) (layer : Nat) : W32 :=
  BitVec.ofNat 32 (if layer = 2 then s.ufLosc else if layer = 1 then s.lfLosc else s.bedLosc)

/-- The CONTEXT field of a record: a context, or bit 15 where none applies (R477). -/
def ctxField (c : Option Nat) : Half := match c with | some n => BitVec.ofNat 16 (n % 256) | none => 0x8000

/-- A record with the oscillator count of its layer. -/
def State.mkRec (s : State) (cls code sev layer : Nat) (source object waiter : W32) (address : W64) (ctx : Option Nat)
    (detail : BitVec 208) : Rec :=
  { cls := cls, code := code, sev := sev, layer := layer, source := source, object := object, waiter := waiter,
    address := address, losc := s.loscOf layer, ctx := ctxField ctx, detail := detail }

/-- Hand a record to the record queue (R479): of severity 0 or 1 it is discarded where 960 or more entries are taken,
of severity 2 or higher where all 1,024 are; a discarded one counts, and a severe one raises its severity line (R480).
DEDUCED: log entry 130. -/
def State.report (s : State) (r : Rec) : State :=
  let n := s.rel.queue.length
  let full := if 2 ≤ r.sev then 1024 ≤ n else 960 ≤ n
  if full then
    let s := s.odInc 0x2D00 0x10
    if 2 ≤ r.sev then { s with rel := { s.rel with lines := s.rel.lines ++ [r] } } else s
  else { s with rel := { s.rel with queue := s.rel.queue ++ [r] } }

/-- Write a Spoil-log record (R482): severity 0, a sequence number of its own, the last 4,096 kept. -/
def State.spoil (s : State) (r : Rec) : State :=
  let l := s.rel.spoil ++ [(s.rel.spoilSeq, { r with sev := 0 })]
  { s with rel := { s.rel with spoil := lastOf 4096 l, spoilSeq := s.rel.spoilSeq + 1 } }

/-- A byte of the record detail: byte number of the record (38–63) and value. -/
def detByte (i v : Nat) : BitVec 208 := BitVec.ofNat 208 ((v % 256) <<< (8 * (i - 38)))
/-- An n-byte field of the record detail from byte i on. -/
def detField (i n v : Nat) : BitVec 208 := BitVec.ofNat 208 ((v % 2 ^ (8 * n)) <<< (8 * (i - 38)))

/-! Tasks. -/

def State.taskOf (s : State) (p n : Nat) : Option Task := s.sched.tasks.find? (fun k => k.part == p && k.seq == n)

def State.updTask (s : State) (p n : Nat) (f : Task → Task) : State :=
  { s with sched := { s.sched with tasks := s.sched.tasks.map (fun k => if k.part == p && k.seq == n then f k else k) } }

def State.dropTask (s : State) (p n : Nat) : State :=
  { s with sched := { s.sched with tasks := s.sched.tasks.filter (fun k => !(k.part == p && k.seq == n)) } }

/-- Abort a task with a TD_STATUS.CODE; the first cause counts (R189). A task whose completion has begun finishes. -/
def State.abortTaskOf (s : State) (p n code : Nat) : State :=
  s.updTask p n (fun k => match k.st, k.abort with | .placed, none => { k with abort := some code } | _, _ => k)

/-- Abort the task placed on a tile. -/
def State.abortTask (s : State) (t code : Nat) : State :=
  match (s.tile t).task with | some (p, n) => s.abortTaskOf p n code | none => s

/-- Whether the tile runs a task that is not aborted yet. -/
def State.running (s : State) (t : Nat) : Bool :=
  match (s.tile t).task with
  | some (p, n) => match s.taskOf p n with | some k => decide (k.st = .placed) && k.abort.isNone | none => false
  | none => false

/-- TASK_FAULT of R188. -/
def codeTaskFault : Nat := 0x11

/-- The context of the task on a tile, for a record. -/
def State.tileCtx (s : State) (t : Nat) : Option Nat := if (s.tile t).task.isSome then some (s.tile t).ctx else none

/-- Firmware runs: its image has started, a core works and no takeover is in progress (R486, R489). DEDUCED: log entry 86. -/
def State.firmware (s : State) : Bool := s.bup.fw && !s.rel.dead && !s.rel.takeover

/-! Requests. -/

def State.addReq (s : State) (r : Req) : State :=
  { s with reqs := s.reqs ++ [{ r with id := s.nextReq }], nextReq := s.nextReq + 1 }

def State.findReq (s : State) (id : Nat) : Option Req := s.reqs.find? (fun r => r.id == id)

def State.updReq (s : State) (id : Nat) (f : Req → Req) : State :=
  { s with reqs := s.reqs.map (fun r => if r.id == id then f r else r) }

def State.dropReq (s : State) (id : Nat) : State := { s with reqs := s.reqs.filter (fun r => !(r.id == id)) }

/-- A new request of a unit. -/
def newReq (who : Who) (ctx : Nat) (kind : RKind) (addr len : Nat) (data : List PByte) (cls : Nat) : Req :=
  { id := 0, who := who, ctx := ctx, kind := kind, addr := addr, data := data, mask := [], len := len, cls := cls,
    hint := 0, aux := 0, op := 0, st := .sent }

/-! Memory places. A place is an address in one of the three memories. -/

/-- Which memory an address lies in. -/
inductive Place where
  | hbm (off : Nat)
  | bed (phys : Nat)                  -- bank × 8 MiB + row × 2 KiB + byte
  | store (t off : Nat)
  deriving DecidableEq, Repr

/-- The home slice, and stack, of a line address (R234, R288). -/
def sliceOf (L : Nat) : Nat :=
  natFld L 0 3 ^^^ natFld L 8 3 ^^^ natFld L 16 3 ^^^ natFld L 24 3 ^^^ natFld L 32 3 ^^^ natFld L 40 3

/-- The pseudo-channel of a local line (R288). -/
def pcOf (L : Nat) : Nat := (L / 8 % 64) ^^^ (L / 8 / 4096 % 64)

/-- The line within its pseudo-channel (R288). DESIGN CHOICE: log entry 60. -/
def wOf (L : Nat) : Nat := L / 8 / 64

/-- LLC sets per slice for nb scratch banks per slice (R230). -/
def llcSets (nb : Nat) : Nat := (64 - nb) * 2048

/-- The byte of Bedrock at which way w of set x of a slice begins (R530). -/
def llcPhys (nb slice x w : Nat) : Nat :=
  let nL := 64 - nb
  (slice * 64 + x % nL) * 8388608 + (2 * (x / nL) + w / 8) * 2048 + w % 8 * 256

/-- The place in Bedrock of a scratch window offset y (R232). -/
def scratchPhys (nb y : Nat) : Nat :=
  let w := y / 16384
  (y / 2048 % 8 * 64 + (64 - nb) + w % nb) * 8388608 + w / nb * 2048 + y % 2048

/-- The local offset of a byte of Bedrock: its scratch address (R232), or the address of the line whose data the LLC keeps
there (R530); 0 where no line does. DEDUCED: log entry 54. -/
def State.bedOff (s : State) (p : Nat) : Nat :=
  let nb := s.bed.nb
  let sl := physBank' p / 64
  let b := physBank' p % 64
  let row := p % 8388608 / 2048
  if 64 - nb ≤ b then 0x100_0000_0000 + (row * nb + (b - (64 - nb))) * 16384 + sl * 2048 + p % 2048
  else
    let x := row / 2 * (64 - nb) + b
    let w := row % 2 * 8 + p % 2048 / 256
    match ((SMap.get Slice.init s.bed.slices sl).lines).find? (fun l => l.set == x && l.way == w) with
    | some l => l.L * 256 + p % 256
    | none => 0
where physBank' (p : Nat) : Nat := p / 8388608

/-- The slice of a scratch window offset. -/
def scratchSlice (y : Nat) : Nat := y / 2048 % 8

/-- The bank and the row-in-bank of a byte of Bedrock. -/
def physBank (p : Nat) : Nat := p / 8388608
def physRow (p : Nat) : Nat := p % 8388608 / 2048

/-! Correction accounts. -/

/-- CAP and the level of a bucket after a correction (R302): the new level, and whether it overflowed. -/
def bucketAdd (cap level : Nat) : Nat × Bool := if cap ≤ level + 1 then (0, true) else (level + 1, false)

def State.ceOverflow (s : State) (layer : Nat) (source : Nat) : State :=
  (s.odInc 0x2D00 3).report
    (s.mkRec 0x01 0x04 0 layer (BitVec.ofNat 32 source) noUnit noUnit 0 none 0)

/-- Enter a failing row of a stack in its repair list, or in the overflow map where the list is full (R299). A row is
named by its pseudo-channel in bits 63:32 and its row number in bits 31:0. DEDUCED: log entry 61. -/
def State.listRow (s : State) (st pc row : Nat) : State :=
  let k := s.stack st
  let e : W64 := BitVec.ofNat 64 (pc * 2 ^ 32 + row)
  if e ∈ k.repair then s
  else if k.repair.length < 256 then s.setStack st { k with repair := k.repair ++ [e] }
  else
    (s.setStack st { k with overflow := k.overflow ||| BitVec.ofNat 64 (1 <<< pc) }).report
      (s.mkRec 0x01 0x07 0 3 (BitVec.ofNat 32 st) (BitVec.ofNat 32 pc) noUnit 0 none 0)

/-- One correction in HBM (R294, R299, R302): count, last address, bucket, and the row's corrections. -/
def State.hbmCe (s : State) (off : Nat) : State :=
  let L := off / 256
  let st := sliceOf L
  let row := pcOf L * 2 ^ 32 + Config.hbmRow (wOf L)
  let k := s.stack st
  let (lvl, excess) := bucketAdd (s.odNat 0x2D00 1) k.bucket
  let n := SMap.get 0 k.rowCes row + 1
  let s := s.setStack st { k with corrected := wrapAdd 32 k.corrected 1, lastCe := BitVec.ofNat 64 off, bucket := lvl,
                                  rowCes := SMap.put k.rowCes row n }
  let s := if s.odNat 0x2500 5 ≤ n then s.listRow st (pcOf L) (Config.hbmRow (wOf L)) else s
  if excess then s.ceOverflow 3 st else s

/-- One correction in Bedrock: the local offset recorded is `off`. -/
def State.bedCe (s : State) (phys off : Nat) : State :=
  let n := physBank phys / 64
  let k := s.slice n
  let (lvl, excess) := bucketAdd (s.odNat 0x2D00 1) k.bucket
  let s := s.setSlice n { k with corrected := wrapAdd 32 k.corrected 1, lastCe := BitVec.ofNat 64 off, bucket := lvl }
  if excess then s.ceOverflow 0 n else s

/-- One correction in a Lower Face memory of a tile. -/
def State.lfCe (s : State) (t : Nat) : State :=
  let n := sectorOf t
  let (lvl, excess) := bucketAdd (s.odNat 0x2D00 1) (SMap.get 0 s.bed.sectorBucket n)
  let s := { s with bed := { s.bed with sectorBucket := SMap.put s.bed.sectorBucket n lvl } }
  let s := s.updDbg t (fun d => { d with corrected := wrapAdd 32 d.corrected 1 })
  if excess then s.ceOverflow 1 n else s

/-- The global address, with DEVICE the own id, of a local offset. -/
def State.globalOf (s : State) (off : Nat) : W64 := BitVec.ofNat 64 (s.odNat 0x2700 1 * 2 ^ 44 + off)

/-- The base of a tile's store window (R36). -/
def storeBase (t : Nat) : Nat := 0x101_0000_0000 + t * 0x80_0000

/-- An ECC_UE record (R295). -/
def State.ueRec (s : State) (layer source object : Nat) (waiter : W32) (off : Nat) (syn : Byte) (kind : Nat) : State :=
  s.report (s.mkRec 0x01 0x01 1 layer (BitVec.ofNat 32 source) (BitVec.ofNat 32 object) waiter (s.globalOf off) none
    (detByte 38 syn.toNat ||| detByte 39 kind))

/-- An uncorrectable word of a tile's L1, L0 or register files: kind 3, 4 or 5, which have no bank.
DESIGN CHOICE: log entry 141. -/
def State.lfUe (s : State) (t : Nat) (waiter : W32) (addr : W64) (syn : Byte) (kind : Nat) : State :=
  (s.updDbg t (fun d => { d with uncorrected := wrapAdd 32 d.uncorrected 1 })).report
    (s.mkRec 0x01 0x01 1 1 (BitVec.ofNat 32 t) noUnit waiter addr none (detByte 38 syn.toNat ||| detByte 39 kind))

/-- A parity error of a cache tag (R292): severity 0 where the way held nothing that is lost. Such a record names no address.
DESIGN CHOICE: log entry 141. -/
def State.tagParity (s : State) (sev layer source : Nat) : State :=
  s.report (s.mkRec 0x01 0x03 sev layer (BitVec.ofNat 32 source) noUnit noUnit 0 none 0)

/-- The account of one ECC event of a memory; `off` is the local offset of the place's first byte as addressed. -/
def State.eccEvent (s : State) (pl : Place) (waiter : W32) (e : EccEvent) : State :=
  match pl with
  | .hbm _ =>
    let a := 8 * e.word
    if e.ue then
      let L := a / 256
      let st := sliceOf L
      let s := s.updStack st (fun k => { k with uncorrected := wrapAdd 32 k.uncorrected 1 })
      let s := s.ueRec 3 st (pcOf L) waiter a e.syn 0
      s.listRow st (pcOf L) (Config.hbmRow (wOf L))
    else s.hbmCe a
  | .bed _ =>
    let a := 8 * e.word
    if e.ue then
      let s := s.updSlice (physBank a / 64) (fun k => { k with uncorrected := wrapAdd 32 k.uncorrected 1 })
      s.ueRec 0 (physBank a) (physRow a) waiter (s.bedOff a) e.syn 1
    else s.bedCe a (s.bedOff a)
  | .store t _ =>
    let a := 8 * e.word
    if e.ue then
      let s := s.updDbg t (fun d => { d with uncorrected := wrapAdd 32 d.uncorrected 1 })
      s.ueRec 1 t (a / 64 % 48) waiter (storeBase t + a) e.syn 2
    else s.lfCe t

/-- The memory of a place, and the address within it. -/
def State.memAt (s : State) (pl : Place) : EccMem :=
  match pl with
  | .hbm _ => s.mem.hbm
  | .bed _ => s.mem.bed
  | .store t _ => SMap.get EccMem.swept s.mem.stores t

def Place.addr : Place → Nat
  | .hbm a => a
  | .bed a => a
  | .store _ a => a

/-- The state with the memory of a place replaced. -/
def State.setMem (s : State) (pl : Place) (m : EccMem) : State :=
  match pl with
  | .hbm _ => { s with mem := { s.mem with hbm := m } }
  | .bed _ => { s with mem := { s.mem with bed := m } }
  | .store t _ => { s with mem := { s.mem with stores := SMap.write EccMem.swept s.mem.stores t m } }

/-- A stack in self-refresh leaves it before an access (R418). -/
def State.wake (s : State) : Place → State
  | .hbm a => if (s.stack (sliceOf (a / 256))).selfRefresh then s.updStack (sliceOf (a / 256)) (fun k => { k with selfRefresh := false }) else s
  | _ => s

/-! Errors of a stack (R287). -/

/-- Whether a stack has an error of its dies or of its interface to show. -/
def Stack.faulty (k : Stack) : Bool := !k.dieCe.isEmpty || !k.dieUe.isEmpty || k.caFaults != 0

/-- A word of HBM is rewritten: the errors of its codeword are gone. -/
def Stack.rewritten (k : Stack) (p : Nat → Bool) : Stack :=
  { k with dieCe := k.dieCe.filter (fun w => !p w), dieUe := k.dieUe.filter (fun w => !p w) }

/-- Poison a word of HBM in place. -/
def State.poisonHbm (s : State) (w : Nat) : State :=
  ({ s with mem := { s.mem with hbm := s.mem.hbm.poisonWord w } } : State).updStack (sliceOf (w / 32)) (fun k => k.rewritten (· == w))

/-- A command to a stack for words w … w+n-1: one that fails twice by a parity error is recorded as HBM_PARITY, and its words are
treated as uncorrectable. The second component tells whether the command went through. DESIGN CHOICE: log entry 141. -/
def State.hbmCommand (s : State) (w n : Nat) (waiter : W32) : State × Bool :=
  let st := sliceOf (w / 32)
  let k := s.stack st
  if k.caFaults ≤ 1 then (if k.caFaults = 0 then s else s.setStack st { k with caFaults := 0 }, true)
  else
    let s := s.setStack st { k with caFaults := k.caFaults - 2 }
    let s := s.report (s.mkRec 0x01 0x05 1 3 (BitVec.ofNat 32 st) (BitVec.ofNat 32 (pcOf (w / 32))) waiter (s.globalOf (8 * w)) none 0)
    ((List.range n).foldl (fun s i => s.poisonHbm (w + i)) s, false)

/-- The die reads a word: a correction counts in HBM_DIE_COUNT; a word that it reports uncorrectable is handled as one that the
device-side code finds so. DESIGN CHOICE: log entry 141. -/
def State.dieRead (s : State) (w : Nat) (waiter : W32) : State :=
  let st := sliceOf (w / 32)
  let k := s.stack st
  if k.dieUe.contains w then
    (s.eccEvent (.hbm (8 * w)) waiter { word := w, syn := s.mem.hbm.synAt w, ue := true }).poisonHbm w
  else if k.dieCe.contains w then s.setStack st { k with die := wrapAdd 64 k.die 1 }
  else s

/-- What a stack does before it delivers the words of a read. -/
def State.beforeRead (s : State) (pl : Place) (len : Nat) (waiter : W32) : State :=
  match pl with
  | .hbm a =>
    if len = 0 ∨ (s.stack (sliceOf (a / 256))).faulty = false then s
    else
      let n := wordSpan a len
      let (s, ok) := s.hbmCommand (a / 8) n waiter
      if ok then (List.range n).foldl (fun s i => s.dieRead (a / 8 + i) waiter) s else s
  | _ => s

/-- What a stack does before it stores the words of a write: those written in part are read first. The second component tells
whether the write goes through. -/
def State.beforeWrite (s : State) (pl : Place) (us : List (Option PByte)) (waiter : W32) : State × Bool :=
  match pl with
  | .hbm a =>
    if us.isEmpty || !(s.stack (sliceOf (a / 256))).faulty then (s, true)
    else
      let n := wordSpan a us.length
      let vs := List.replicate (a % 8) none ++ us
      let touched := (List.range n).filter (fun i => ((vs.drop (8 * i)).take 8).any (fun u => u.isSome))
      let part := touched.filter (fun i => decide (((vs.drop (8 * i)).take 8).length < 8) || ((vs.drop (8 * i)).take 8).any (fun u => u.isNone))
      let (s, ok) := s.hbmCommand (a / 8) n waiter
      if !ok then (s, false)
      else
        let s := part.foldl (fun s i => s.dieRead (a / 8 + i) waiter) s
        (s.updStack (sliceOf (a / 256)) (fun k => k.rewritten (fun w => touched.any (fun i => a / 8 + i == w))), true)
  | _ => (s, true)

/-- Read bytes at a place: delivered bytes with their poison marks, correction and poisoning in place, accounts
(R287, R291–R295). -/
def State.memRead (s : State) (pl : Place) (len : Nat) (waiter : W32) : List PByte × State :=
  let s := (s.wake pl).beforeRead pl len waiter
  let (bs, m, evs) := (s.memAt pl).read pl.addr len
  (bs, evs.foldl (fun s e => s.eccEvent pl waiter e) (s.setMem pl m))

/-- Write bytes at a place, a position that is none keeping its byte (R287, R293). -/
def State.memWrite (s : State) (pl : Place) (us : List (Option PByte)) (waiter : W32) : State :=
  let (s, ok) := (s.wake pl).beforeWrite pl us waiter
  if !ok then s
  else
    let (m, evs) := (s.memAt pl).writeMasked pl.addr us
    evs.foldl (fun s e => s.eccEvent pl waiter e) (s.setMem pl m)

/-- The bytes of a write with its mask (an empty mask writes every byte). -/
def maskBytes (bs : List PByte) (mask : List Bool) : List (Option PByte) :=
  if mask.isEmpty then bs.map some
  else List.zipWith (fun b w => if w then some b else none) bs mask

end Sys2Proof.Machine
end

