-- ==== Sys2Proof/Machine/Access.lean ====
section
/-! DEFINITION. Addresses, the local map and the checks of every access (R26–R53). -/

namespace Sys2Proof.Machine

/-- Master ids below 0x0FC that R41 reserves. -/
def midReserved (m : Nat) : Bool :=
  decide ((0x99 ≤ m ∧ m < 0xA0) ∨ (0xE1 ≤ m ∧ m < 0xE8) ∨ (0xEA ≤ m ∧ m < 0xF0))

/-- Masters that a device has (R41). -/
def midIssued (m : Nat) : Bool := !midReserved m && decide (m < 0xFC)

/-- VERSION and DEVICE_EXT are zero (R27). -/
def addrFormatOk (a : Nat) : Bool := natFld a 56 8 == 0

def addrDevice (a : Nat) : Nat := natFld a 44 12
def addrOffset (a : Nat) : Nat := natFld a 0 44

/-- The own device id and the local alias (R28). -/
def State.ownId (s : State) : Nat := s.odNat 0x2700 1 % 4096
def State.alias (s : State) : Bool := s.odGet 0x2700 2 == 1

/-- Whether an address is local (R28). -/
def State.isLocal (s : State) (a : Nat) : Bool :=
  addrDevice a == s.ownId || (addrDevice a == 0xFFF && s.alias)

/-- The regions of the local map (R32). -/
inductive MapRegion where
  | hbm | scratch | store | sync | ctrl | hild
  deriving DecidableEq, Repr

/-- Whether an offset of the control space lies in a part that R115 does not reserve. DEDUCED: log entry 9. -/
def ctrlMapped (c : Nat) : Bool := !decide (c < 0x90_0000 ∧ 0x2000 ≤ c % 0x1_0000)

/-- The region of a local offset; none where the offset is reserved. DEDUCED: log entry 9. -/
def regionOf (off : Nat) : Option MapRegion :=
  if off ≤ 0x7F_FFFF_FFFF then some .hbm
  else if 0x100_0000_0000 ≤ off ∧ off ≤ 0x100_FFFF_FFFF then some .scratch
  else if 0x101_0000_0000 ≤ off ∧ off ≤ 0x101_47FF_FFFF then some .store
  else if 0x102_0000_0000 ≤ off ∧ off ≤ 0x102_FFFF_FFFF then some .sync
  else if 0x103_0000_0000 ≤ off ∧ off ≤ 0x103_FFFF_FFFF then
    (if ctrlMapped (off - 0x103_0000_0000) then some .ctrl else none)
  else if 0x200_0000_0000 ≤ off ∧ off ≤ 0x2FF_FFFF_FFFF then some .hild
  else none

/-- The statuses of class 0x0B (R481). -/
def ACT_DENY : Nat := 1
def ACT_SPLIT : Nat := 2
def ADDR_FORMAT : Nat := 3
def ADDR_RESERVED : Nat := 4
def ADDR_CROSS : Nat := 5
def ADDR_UNBACKED : Nat := 6
def ADDR_REMOTE_HILD : Nat := 7

/-- The bits of the rights of R45. -/
inductive Right where
  | R | W | X | A | O
  deriving DecidableEq, Repr

def Right.bit : Right → Nat | .R => 48 | .W => 49 | .X => 50 | .A => 51 | .O => 52

/-- The checking target of a local offset (R32, R44). -/
def targetOf (off : Nat) : MapRegion → Nat
  | .hbm => 8 + sliceOf (off / 256)
  | .scratch => scratchSlice (off - 0x100_0000_0000)
  | .store => sectorOf ((off - 0x101_0000_0000) / 0x80_0000)
  | .sync => 17
  | .ctrl => 18
  | .hild => 19

/-- BASE, LIMIT and the fields of CTRL of an entry (R49). -/
def ActEntry.lo (e : ActEntry) : Nat := e.base.toNat / 4096 * 4096
def ActEntry.hi (e : ActEntry) : Nat := e.limit.toNat / 4096 * 4096 + 4095
def ActEntry.valid (e : ActEntry) : Bool := bitOf e.ctrl 63
def ActEntry.imm (e : ActEntry) : Bool := bitOf e.ctrl 58
def ActEntry.cls (e : ActEntry) : Nat := fld e.ctrl 56 2
def ActEntry.midLo (e : ActEntry) : Nat := fld e.ctrl 0 10
def ActEntry.midHi (e : ActEntry) : Nat := fld e.ctrl 16 10

/-- Whether an entry matches an access (R46). -/
def ActEntry.matches (e : ActEntry) (mid ctx first : Nat) : Bool :=
  e.valid && decide (e.midLo ≤ mid ∧ mid ≤ e.midHi) && decide (ctx < 16) && bitOf e.ctrl (32 + ctx) &&
    decide (e.lo ≤ first ∧ first ≤ e.hi)

/-- The lookup of R46 over the entries in ascending number: the class and IMM bit of the winning entry, or the status.
Where the winning entry both lacks the right and does not hold every byte, the status is ACT_DENY. DEDUCED: log entry 10. -/
def actLookup (entries : SMap ActEntry) (mid ctx : Nat) (r : Right) (first len : Nat) : Except Nat (Nat × Bool) :=
  match entries.find? (fun e => e.2.matches mid ctx first) with
  | none => .error ACT_DENY
  | some (_, e) =>
    if !bitOf e.ctrl r.bit then .error ACT_DENY
    else if e.hi < first + len - 1 then .error ACT_SPLIT
    else .ok (e.cls, e.imm)

/-- Whether a byte of an access lies inside a valid IMM range of the link-egress table (R53). -/
def inImm (entries : SMap ActEntry) (first len : Nat) : Bool :=
  entries.any (fun e => e.2.valid && e.2.imm && decide (e.2.lo ≤ first + len - 1 ∧ first ≤ e.2.hi))

/-- Whether a local HBM line is backed (R300). -/
def State.hbmBacked (s : State) (L : Nat) : Bool :=
  let k := s.stack (sliceOf L)
  k.good && !bitOf k.fenced (pcOf L)

/-- Whether an offset of the synchronisation window is backed (R198). -/
def syncBacked (o : Nat) : Bool :=
  if o < 0x10_0000 then true
  else if 0x100_0000 ≤ o ∧ o < 0x110_0000 then decide (o % 16 < 8)
  else if 0x200_0000 ≤ o ∧ o < 0x202_0000 then true
  else if 0x300_0000 ≤ o ∧ o < 0x301_0000 then true
  else if 0x400_0000 ≤ o ∧ o < 0x400_0800 then true
  else decide (0x500_0000 ≤ o ∧ o < 0x500_0018)

def ObjKind.code : ObjKind → Nat | .ctr => 1 | .lock => 2 | .evt => 3 | .chan => 4
def ObjKind.count : ObjKind → Nat | .ctr => 65536 | .lock => 8192 | .evt => 4096 | .chan => 32
/-- The object-id of R199. -/
def objId (k : ObjKind) (n : Nat) : W32 := BitVec.ofNat 32 (k.code * 2 ^ 28 + n % 65536)

/-- The object whose first word stands at an offset of the synchronisation window. -/
def objAt (off : Nat) : Option (ObjKind × Nat) :=
  if off < 0x102_0000_0000 then none
  else
    let o := off - 0x102_0000_0000
    if o < 0x10_0000 then (if o % 16 = 0 then some (.ctr, o / 16) else none)
    else if 0x200_0000 ≤ o ∧ o < 0x202_0000 then (if o % 16 = 0 then some (.lock, (o - 0x200_0000) / 16) else none)
    else if 0x300_0000 ≤ o ∧ o < 0x301_0000 then (if o % 16 = 0 then some (.evt, (o - 0x300_0000) / 16) else none)
    else if 0x400_0000 ≤ o ∧ o < 0x400_0800 then (if o % 64 = 0 then some (.chan, (o - 0x400_0000) / 64) else none)
    else none

/-- The object that a record of a class names for an address (R199): for class 0x04 the object whose words hold the address.
DEDUCED: log entry 154. -/
def faultObj (cls addr : Nat) : W32 :=
  if cls ≠ 0x04 then noUnit
  else match objAt (addrOffset addr / 64 * 64), objAt (addrOffset addr / 16 * 16) with
    | some (.chan, n), _ => objId .chan n
    | _, some (k, n) => objId k n
    | _, none => noUnit

/-- Whether one byte of a region, and with it its 64-bit word, is backed (R34 check 4: R35, R36, R37, R198, R300). -/
def State.backed (s : State) (off : Nat) : MapRegion → Bool
  | .hbm => s.hbmBacked (off / 256)
  | .scratch => decide (off - 0x100_0000_0000 < s.bed.nb * 0x400_0000)
  | .store =>
    let o := off - 0x101_0000_0000
    decide (o % 0x80_0000 < 0x60_0000) && (s.tile (o / 0x80_0000)).role == 0
  | .sync => syncBacked (off - 0x102_0000_0000)
  | .ctrl => true
  | .hild => true

/-- A byte of every 64-bit word that an access touches. -/
def wordPoints (off len : Nat) : List Nat :=
  (List.range (len / 8 + 1)).map (fun i => off + min (8 * i) (len - 1)) ++ [off + (len - 1)]

/-- Whether every byte of an access is backed. -/
def State.allBacked (s : State) (off len : Nat) (g : MapRegion) : Bool := (wordPoints off len).all (fun p => s.backed p g)

/-- The region of all bytes of an access (R33): reserved where any byte is, else crossing where they differ. Regions begin and
end on 64-bit words. -/
def regionAll (off len : Nat) : Except Nat MapRegion :=
  let rs := (wordPoints off len).map regionOf
  if rs.any (fun r => r.isNone) then .error ADDR_RESERVED
  else match regionOf off with
    | none => .error ADDR_RESERVED
    | some r => if rs.all (fun x => x == some r) then .ok r else .error ADDR_CROSS

/-- What a passed check gives: the region (none for a remote address), the class, whether the winning link-egress entry
is IMM, the checking target. -/
structure AccOk where
  region : Option MapRegion
  cls    : Nat
  imm    : Bool
  target : Nat
  deriving DecidableEq, Repr

/-- Whether the debug lock is in force (R496). -/
def State.debugLocked (s : State) : Bool := decide (s.fuses.debugLock ≠ 0) && !s.sec.unlocked

/-- Whether a local offset lies in the debug block of a tile (R115). -/
def inDebugBlock (off : Nat) : Bool :=
  decide (0x103_0000_0000 ≤ off ∧ off < 0x103_0090_0000 ∧ 0x1000 ≤ off % 0x1_0000)

/-- Whether a local offset lies among the increment aliases, whose writes need the A right (R212). -/
def inAlias (off : Nat) : Bool := decide (0x102_0100_0000 ≤ off ∧ off < 0x102_0110_0000)

/-- The checks of a local access after its format (R34, checks 2–4): region, table, backing. Under the debug lock the
tile debug blocks refuse every access (R496). -/
def State.checkLocal (s : State) (mid ctx : Nat) (r : Right) (off len : Nat) : Except (Nat × Option Nat) AccOk :=
  match regionAll off len with
  | .error c => .error (c, none)
  | .ok g =>
    let t := targetOf off g
    let r := if r == .W && inAlias off then .A else r
    if s.debugLocked && inDebugBlock off then .error (ACT_DENY, some t)
    else match actLookup (s.table t).entries mid ctx r off len with
    | .error c => .error (c, some t)
    | .ok (cls, _) =>
      if s.allBacked off len g then .ok { region := some g, cls := cls, imm := false, target := t }
      else .error (ADDR_UNBACKED, some t)

/-- Every check of an access made at its source (R34): format; for a local address region, table and backing; for a
remote one the link-egress table, with R53. -/
def State.checkAccess (s : State) (mid ctx : Nat) (r : Right) (a len : Nat) : Except (Nat × Option Nat) AccOk :=
  if !addrFormatOk a then .error (ADDR_FORMAT, none)
  else if s.isLocal a then s.checkLocal mid ctx r (addrOffset a) len
  else
    let es := (s.table 16).entries
    if (r == .W || r == .A || r == .O) && inImm es a len then .error (ACT_DENY, some 16)
    else match actLookup es mid ctx r a len with
      | .error c => .error (c, some 16)
      | .ok (cls, imm) => .ok { region := none, cls := cls, imm := imm, target := 16 }

/-- The class that the checking target gives an access (R48). -/
def State.clsAt (s : State) (mid ctx : Nat) (r : Right) (a len : Nat) : Nat :=
  match s.checkAccess mid ctx r a len with | .ok g => g.cls | .error _ => 0

/-- Record a refused access (R47): the count of the target, the record of class 0x0B with the requester's master id, the
address and the target number; severity 1 where it aborts a running task, which then aborts (R481). DEDUCED: log entry 13. -/
def State.refuse (s : State) (who : Who) (ctx : Nat) (code : Nat) (target : Option Nat) (addr : Nat) : State :=
  let run := match who.tile with | some t => s.running t | none => false
  let s := match target with
    | some t => if code = ACT_DENY ∨ code = ACT_SPLIT then
        s.updTable t (fun x => { x with denyCount := (x.denyCount + 1) % 2 ^ 64 }) else s
    | none => s
  let obj : W32 := match target with | some t => BitVec.ofNat 32 t | none => noUnit
  let s := s.report (s.mkRec 0x0B code (if run then 1 else 0) 0 noUnit obj (who.waiter 0) (BitVec.ofNat 64 addr) (some ctx) 0)
  match who.tile with | some t => s.abortTask t codeTaskFault | none => s

/-- The place of a local offset that a memory holds without a cache in front: scratch and tile stores. -/
def State.placeOf (s : State) (off : Nat) : Option Place :=
  match regionOf off with
  | some .scratch => some (.bed (scratchPhys s.bed.nb (off - 0x100_0000_0000)))
  | some .store => let o := off - 0x101_0000_0000; some (.store (o / 0x80_0000) (o % 0x80_0000))
  | _ => none

end Sys2Proof.Machine
end

