-- ==== Sys2Proof/Machine/FabSend.lean ====
section
/-! DEFINITION. Packets of the Yonus fabric, route choice and link egress (R328–R345). -/

namespace Sys2Proof.Machine

/-! Packets. -/

def TREAD : Nat := 0x01
def TWRITE : Nat := 0x02
def TWRITE_MASKED : Nat := 0x03
def TADD : Nat := 0x04
def TMINMAX : Nat := 0x05
def TCTR_INC : Nat := 0x06
def TBAR_ARRIVE : Nat := 0x07
def TBAR_RELEASE : Nat := 0x09
def TREAD_DATA : Nat := 0x10
def TSTATUS : Nat := 0x11

/-- The STATUS values of R331. -/
def ST_ACT_DENY : Nat := 0x01
def ST_ADDR_FORMAT : Nat := 0x02
def ST_ADDR_RESERVED : Nat := 0x03
def ST_ADDR_UNBACKED : Nat := 0x04
def ST_ADDR_CROSS : Nat := 0x05
def ST_REMOTE_HILD : Nat := 0x06
def ST_RED_REGION : Nat := 0x07
def ST_STALE : Nat := 0x08
def ST_COUNT_BOUND : Nat := 0x09
def ST_CTR_OVERFLOW : Nat := 0x0A
def ST_DEAD_REREAD : Nat := 0x0B
def YF_FIELD : Nat := 0x10
def YF_NO_ROUTE : Nat := 0x11
def YF_HOP_LIMIT : Nat := 0x12
def YF_RESIDENCE : Nat := 0x13
def YF_LINK_LOST : Nat := 0x14
def YF_BAR_LOST : Nat := 0x15
def YF_READ_TIMEOUT : Nat := 0x16
def YF_LATE_RESPONSE : Nat := 0x18
def YF_BAR_ROUND : Nat := 0x19

/-- The STATUS value of a refusal of class 0x0B. -/
def statusOfRefusal (code : Nat) : Nat :=
  if code = ACT_DENY ∨ code = ACT_SPLIT then ST_ACT_DENY
  else if code = ADDR_FORMAT then ST_ADDR_FORMAT
  else if code = ADDR_RESERVED then ST_ADDR_RESERVED
  else if code = ADDR_CROSS then ST_ADDR_CROSS
  else if code = ADDR_UNBACKED then ST_ADDR_UNBACKED
  else ST_REMOTE_HILD

def Pkt.isResponse (p : Pkt) : Bool := p.type == TREAD_DATA || p.type == TSTATUS

/-- The virtual channel of a packet (R323). -/
def Pkt.vc (p : Pkt) : Nat := if p.isResponse then 6 + p.hop else p.hop

def THILD_SNOOP_RESP : Nat := 0x25
def TWRITE_ACK : Nat := 0x26
def TREAD_SHARED : Nat := 0x20
def TREAD_EXCL : Nat := 0x21
def TWRITEBACK : Nat := 0x22

/-- Whether a packet's payload starts with a byte mask (R328, R348). -/
def Pkt.masked (p : Pkt) : Bool :=
  p.fits && !p.data.isEmpty && (p.type == TWRITE_MASKED || p.type == TWRITEBACK || p.type == THILD_SNOOP_RESP)

/-- The payload slots of a packet. -/
def Pkt.paySlots (p : Pkt) : Nat := (p.data.length + (if p.masked then 32 else 0) + 31) / 32

/-- The slots a packet occupies: its header and its payload. -/
def Pkt.slots (p : Pkt) : Nat := 1 + p.paySlots

/-- The poison bits of a payload: bit i covers its bytes 8i to 8i+7 (R328). -/
def poisonBits (bs : List PByte) : Nat :=
  (List.range 32).foldl (fun a i => if poisoned ((bs.drop (8 * i)).take 8) then a + 2 ^ i else a) 0

/-- A payload with its poison bits spread over its bytes. -/
def withPoison (bs : List Byte) (poison : Nat) : List PByte :=
  List.zipWith (fun b i => (b, poison.testBit (i / 8))) bs (List.range bs.length)

/-- A packet with every field but the named ones zero. -/
def Pkt.base (type dst src mid ctx cls addr : Nat) : Pkt :=
  { type := type, hop := 0, cls := cls, dst := dst, src := src, mid := mid, tag := 0, ctx := ctx, fmt := 0,
    epochV := false, epoch := 0, status := 0, lenM1 := 0, addr := addr, poison := 0, operand := 0, mask := 0, data := [] }

/-- The response to a request: it returns to the request's source and echoes its address, tag and context. -/
def Pkt.answer (p : Pkt) (type status : Nat) (data : List PByte) : Pkt :=
  { Pkt.base type p.src p.dst p.mid p.ctx p.cls p.addr with
    tag := if type = TREAD_DATA then p.tag else 0, status := status, lenM1 := p.lenM1, poison := poisonBits data,
    data := vals data }

/-- The packet of a request by a unit of this device (R328, R329). A masked store fills its whole line. -/
def State.pktOf (s : State) (r : Req) : Pkt :=
  let b := Pkt.base 0 (addrDevice r.addr) s.ownId r.who.mid r.ctx r.cls r.addr
  match r.kind with
  | .load => { b with type := TREAD, tag := r.tag, lenM1 := r.len - 1 }
  | .prefetch => { b with type := TREAD, tag := r.tag, lenM1 := 255 }
  | .store =>
    if r.mask.isEmpty then { b with type := TWRITE, lenM1 := r.data.length - 1, poison := poisonBits r.data, data := vals r.data }
    else
      let o := r.addr % 256
      let full := clean (List.replicate o 0) ++ r.data
      let full := (full ++ clean (List.replicate 256 0)).take 256
      let m := (List.range 256).foldl (fun a i => if o ≤ i ∧ r.mask.getD (i - o) false then a + 2 ^ i else a) 0
      { b with type := TWRITE_MASKED, addr := r.addr / 256 * 256, lenM1 := 255, poison := poisonBits full,
               mask := m, data := vals full }
  | .red fmt =>
    { b with type := if fmt = 4 ∨ fmt = 5 then TMINMAX else TADD, fmt := fmt, lenM1 := r.data.length - 1,
             poison := poisonBits r.data, data := vals r.data }
  | .ctrInc =>
    { b with type := TCTR_INC, operand := leNat ((vals r.data).take 4), epochV := leNat ((vals r.data).drop 6) != 0,
             epoch := leNat (((vals r.data).drop 4).take 2), lenM1 := 0 }

/-! Links and routes. -/

def State.link (s : State) (l : Nat) : Link := SMap.get Link.init s.fab.links l
def State.setLink (s : State) (l : Nat) (x : Link) : State :=
  { s with fab := { s.fab with links := SMap.put s.fab.links l x } }
def State.updLink (s : State) (l : Nat) (f : Link → Link) : State := s.setLink l (f (s.link l))
def State.route (s : State) (d : Nat) : Route := SMap.get Route.init s.fab.routes d
def State.setRoute (s : State) (d : Nat) (r : Route) : State :=
  { s with fab := { s.fab with routes := SMap.put s.fab.routes d r } }

/-- The fabric links that are UP, as a mask. -/
def State.upMask (s : State) : W64 :=
  BitVec.ofNat 64 ((List.range 64).foldl (fun a l => if (s.link l).state = 4 then a + 2 ^ l else a) 0)

/-- The hash of R337. -/
def routeHash (p : Pkt) : Nat := (p.mid + 7 * p.src + 13 * p.dst + 3 * p.cls) % 65536

/-- The link of a request (R337): the link numbered by the hash, or the next higher one of the mask that is UP. -/
def requestLink (mask : W64) (valid : Bool) (up : W64) (p : Pkt) : Option Nat :=
  let ls := onesFrom 64 0 mask.toNat
  if !valid then none
  else
    let k := routeHash p % ls.length
    (ls.drop k ++ ls.take k).find? (fun l => bitOf up l)

/-- Credits of a link for a VC: the reserved ones left and the shared pool. -/
def Link.resLeft (l : Link) (vc : Nat) : Nat := SMap.get l.res l.cred vc
def Link.free (l : Link) (vc : Nat) : Nat := l.resLeft vc + l.pool

/-- The link of a response (R337): the UP link with the most free credits, ties to the lower. -/
def State.responseLink (s : State) (p : Pkt) : Option Nat :=
  let r := s.route p.dst
  if !r.valid then none
  else
    ((onesFrom 64 0 r.mask.toNat).filter (fun l => (s.link l).state == 4)).foldl (fun (o : Option Nat) l =>
      match o with
      | none => some l
      | some b => if (s.link b).free p.vc < (s.link l).free p.vc then some l else some b) none

/-- The link of a packet now; none fails as YF_NO_ROUTE. -/
def State.chooseLink (s : State) (p : Pkt) : Option Nat :=
  if p.dst = s.ownId then none
  else if p.isResponse then s.responseLink p
  else requestLink (s.route p.dst).mask (s.route p.dst).valid s.upMask p

/-- Whether the router holds a request: its link differs from the choice before a route change whose settle interval runs
(R342). -/
def State.heldByRoute (s : State) (p : Pkt) : Bool :=
  !p.isResponse && (s.route p.dst).settle.any (fun c => requestLink c.1 c.2.1 c.2.2 p != s.chooseLink p)

/-- Hand a packet to link egress: false where no route leads on. -/
def State.egress (s : State) (p : Pkt) (arrived : Option Nat) : State × Bool :=
  match s.chooseLink p with
  | none => (s, false)
  | some l =>
    let q : QPkt := { pkt := p, from_ := arrived, cls := p.cls, id := s.nextReq }
    let s := { s with nextReq := s.nextReq + 1 }
    if s.heldByRoute p then ({ s with fab := { s.fab with held := s.fab.held ++ [q] } }, true)
    else (s.updLink l (fun k => { k with out := k.out ++ [q] }), true)

/-- A route change of an entry (R342): the choice before it is kept until the settle interval ends. -/
def Route.changed (r : Route) (up : W64) : Route := { r with settle := r.settle ++ [(r.mask, r.valid, up)] }

/-- A link enters or leaves UP: a route change of every entry whose mask holds it. `up` is the set of links before. -/
def State.linkRoutes (s : State) (l : Nat) (up : W64) : State :=
  { s with fab := { s.fab with routes := s.fab.routes.map (fun e =>
      if bitOf e.2.mask l then (e.1, e.2.changed up) else e) } }

/-- A record of class 0x09 that the link router places in the Spoil log, counted in OD 0x2800.09. -/
def State.fabSpoil (s : State) (code : Nat) (p : Pkt) (link : Option Nat) : State :=
  (s.odInc 0x2800 9).spoil (s.mkRec 0x09 code 0 0
    (match link with | some l => BitVec.ofNat 32 l | none => noUnit) noUnit (BitVec.ofNat 32 p.mid)
    (BitVec.ofNat 64 p.addr) (some p.ctx) 0)

/-- Send a response. One for which no route leads on is dropped. -/
def State.respond (s : State) (p : Pkt) : State :=
  let (s', ok) := s.egress p none
  if ok then s' else s.fabSpoil YF_NO_ROUTE p none

/-! Refusals at the source. -/

/-- A refused access of a unit outside the access tables (R335, R338): a record of a class and code, and the abort of a
tile's task. -/
def State.refuseAs (s : State) (cls code sev : Nat) (who : Who) (ctx addr : Nat) : State :=
  let s := s.report (s.mkRec cls code sev 0 noUnit (faultObj cls addr) (who.waiter 0) (BitVec.ofNat 64 addr) (some ctx) 0)
  match who.tile with | some t => s.abortTask t codeTaskFault | none => s

/-- The lowest read tag that is free (R336). -/
def State.freeTag (s : State) : Option Nat :=
  if 8192 ≤ s.fab.tags.length then none
  else (List.range (s.fab.tags.length + 1)).find? (fun n => !(s.fab.tags.any (fun t => t.tag == n)))

/-- Send a remote posted request of a unit (R28, R329): it is accepted by link egress, and nothing is outstanding at the
source. False where no route leads on (R338). -/
def State.postRemote (s : State) (r : Req) : State × Bool := s.egress (s.pktOf r) none

/-- Send a READ for a request, or let it wait for a tag. -/
def State.sendRead (s : State) (id : Nat) : State :=
  match s.findReq id with
  | none => s
  | some r =>
    match s.freeTag with
    | none => { s with fab := { s.fab with wait := without s.fab.wait id ++ [id] } }
    | some tag =>
      let len := if r.kind == .prefetch then 256 else r.len
      let r := { r with tag := tag, len := len }
      let (s', ok) := s.egress (s.pktOf r) none
      if ok then
        { s'.updReq id (fun x => { x with st := .out }) with
          fab := { s'.fab with wait := without s'.fab.wait id,
                               tags := s'.fab.tags ++ [{ tag := tag, req := some id, line := none, addr := r.addr,
                                                         len := len, mid := r.who.mid, ctx := r.ctx }] } }
      else ({ s.updReq id (fun x => { x with st := .failed YF_NO_ROUTE }) with
          fab := { s.fab with wait := without s.fab.wait id } } : State).refuseAs 0x09 YF_NO_ROUTE 0 r.who r.ctx r.addr

/-! Barrier groups (R343). -/

def State.ybar (s : State) (c : Nat) : YBar := SMap.get YBar.init s.fab.bars c
def State.setYbar (s : State) (c : Nat) (b : YBar) : State :=
  { s with fab := { s.fab with bars := SMap.put s.fab.bars c b } }

def YBar.valid (b : YBar) : Bool := bitOf b.ctrl 63
def YBar.root (b : YBar) : Bool := bitOf b.ctrl 62
def YBar.nchild (b : YBar) : Nat := fld b.ctrl 48 5
def YBar.parent (b : YBar) : Nat := fld b.ctrl 32 12
def YBar.childId (b : YBar) (i : Nat) : Nat := SMap.get 0 b.child i
def YBar.children (b : YBar) : List Nat := (List.range (min b.nchild 16)).map b.childId

/-- The base of barrier channel c in the synchronisation window (R198). -/
def chanBase (c : Nat) : Nat := 0x102_0400_0000 + c * 0x40

/-- A barrier message for channel c to a device, on the key of master 0x098. -/
def State.barPkt (s : State) (type dev c round : Nat) : Pkt :=
  { Pkt.base type dev s.ownId 0x098 0 0 (dev * 2 ^ 44 + chanBase c) with operand := round % 2 ^ 32 }

end Sys2Proof.Machine
end

