-- ==== Sys2Proof/Machine/Admit.lean ====
section
/-! DEFINITION. How requests pass the ports: regulators, arbiters, and the order in which homes accept (R235, R304–R308,
R312–R316, R332). -/

namespace Sys2Proof.Machine

/-! Which accesses are ordered among each other. -/

/-- A global address with the own device id in place of the local alias (R28). -/
def State.ownAddr (s : State) (a : Nat) : Nat := if s.isLocal a then (s.globalOf (addrOffset a)).toNat else a

/-- Whether two addresses lie in one line. -/
def State.sameLine (s : State) (a b : Nat) : Bool := decide (s.ownAddr a / 256 = s.ownAddr b / 256)

/-- Whether two units share one order of accesses to an address: one unit with itself, the groups of a tile with its
L1, which writes their stores back (R166), and the requests of one key of the fabric, whatever links brought them (R332).
DEDUCED: log entry 8. -/
def sameOrder (a b : Who) : Bool :=
  a == b || (match a, b with
    | .l1 t, .group u _ => t == u
    | .group t _, .l1 u => t == u
    | .fabric _ k, .fabric _ j => k == j
    | _, _ => false)

/-- A request that has ended. -/
def RSt.ended : RSt → Bool | .done => true | .failed _ => true | _ => false

/-- A request that its home has still to perform. -/
def RSt.toDo : RSt → Bool | .sent => true | .parked => true | .waitFill => true | _ => false

/-- No older request of the same unit to the same line is still to be performed: accesses of a unit to one address are
performed in order (R120, R166, R235). DEDUCED: log entry 8. -/
def State.noOlder (s : State) (r : Req) : Bool :=
  !(s.reqs.any (fun x => decide (x.id < r.id) && sameOrder x.who r.who && s.sameLine x.addr r.addr && x.st.toDo))

/-- Whether it is a request's turn at its home: none that its home accepted earlier waits for the same line (R235).
DEDUCED: log entry 8. -/
def State.inTurn (s : State) (r : Req) : Bool :=
  !(s.reqs.any (fun x => x.id != r.id && x.adm == 2 && x.st == .sent && s.sameLine x.addr r.addr &&
    (r.adm != 2 || decide (x.acc < r.acc))))

/-! Ports (R304). -/

def State.port (s : State) (n : Nat) : Port := SMap.get Port.init s.ports n
def State.setPort (s : State) (n : Nat) (p : Port) : State := { s with ports := SMap.put s.ports n p }
def State.updPort (s : State) (n : Nat) (f : Port → Port) : State := s.setPort n (f (s.port n))

/-- A budget that is unlimited. -/
def unlimited : Nat := 0x7F_FFFF

def Port.budgetOf (p : Port) (m : Nat) : Nat := SMap.get unlimited p.budget m
def Port.forceOf (p : Port) (m : Nat) : Nat := SMap.get unlimited p.inForce m
def Port.remainOf (p : Port) (m : Nat) : Int :=
  if p.forceOf m = unlimited then (unlimited : Nat) else SMap.get ((p.forceOf m : Nat) : Int) p.remain m

/-- The slice whose synchronisation fabric performs operations on an object (R197). DEDUCED: log entry 162. -/
def syncSlice (off : Nat) : Nat :=
  let o := off - 0x102_0000_0000
  (if o < 0x10_0000 then o / 16
   else if 0x100_0000 ≤ o ∧ o < 0x110_0000 then (o - 0x100_0000) / 16
   else if 0x200_0000 ≤ o ∧ o < 0x202_0000 then (o - 0x200_0000) / 16
   else if 0x300_0000 ≤ o ∧ o < 0x301_0000 then (o - 0x300_0000) / 16
   else if 0x400_0000 ≤ o ∧ o < 0x400_0800 then (o - 0x400_0000) / 64
   else 0) % 8

/-- The port of a local offset's home: a slice port, the synchronisation fabric of a slice, the management target, Hild egress. -/
def portAt (off : Nat) : Option Nat :=
  match regionOf off with
  | some .hbm => some (sliceOf (off / 256))
  | some .scratch => some (scratchSlice (off - 0x100_0000_0000))
  | some .store => some (sectorOf ((off - 0x101_0000_0000) / 0x80_0000))
  | some .sync => some (80 + syncSlice off)
  | some .ctrl => some 88
  | some .hild => some 89
  | none => none

/-- The port of the controller front of a stack, and of the egress of a link: the Hild link's is 89. -/
def frontPort (stack : Nat) : Nat := 8 + stack
def egressPort (l : Nat) : Nat := if l < 64 then 16 + l else 89

/-- The source group of a master (R305). -/
def midGroup (m : Nat) : Nat :=
  if (0xF0 ≤ m ∧ m ≤ 0xF9) ∨ m = 0xFB then 0
  else if m < 0x90 then 1
  else if 0xA0 ≤ m ∧ m < 0xE0 then 3
  else 2

def isScrubber (m : Nat) : Bool := m == 0xF8 || m == 0xF9

/-- The input that a request of a master and class enters (R305, R306). -/
def inputOf (m cls : Nat) : Nat := if isScrubber m then 0 else 4 * (cls % 4) + midGroup m

/-! The regulator. -/

/-- The urgency of a master (R311). -/
def State.urgent (s : State) (m : Nat) : Bool :=
  if 0xA0 ≤ m ∧ m < 0xE0 then (s.link (m - 0xA0)).urgent
  else if m = 0xE0 then (s.link 64).urgent
  else if m = 0xFA then s.trc.urgent
  else false

/-- Whether a request may enter (R308). DESIGN CHOICE: log entry 67. -/
def State.admits (s : State) (p : Port) (m : Nat) : Bool :=
  isScrubber m || p.forceOf m == unlimited || decide (0 < p.remainOf m) || s.urgent m

/-- REMAIN after a charge: under urgency a charge takes it no further than to −BUDGET (R308). DESIGN CHOICE: log entry 67. -/
def State.charge (s : State) (p : Port) (m units : Nat) : Port :=
  if isScrubber m || p.forceOf m == unlimited then p
  else
    let r := p.remainOf m - (units : Int)
    let r := if s.urgent m then max r (min (p.remainOf m) (-(p.forceOf m : Int))) else r
    { p with remain := SMap.put p.remain m r }

/-- The units of a request (R307). DESIGN CHOICE: log entry 67. -/
def reqUnits (r : Req) : Nat :=
  let b := match r.kind with
    | .load => r.len
    | .prefetch => 256
    | .ctrInc => 64
    | _ => r.data.length
  (b + 63) / 64

/-! The arbiter. -/

def Port.queueOf (p : Port) (i : Nat) : List PReq := SMap.get [] p.queues i

/-- Whether an input holds no request. -/
def Port.idle (p : Port) (i : Nat) : Bool := (p.queueOf i).isEmpty && (SMap.find p.ret i).isNone

/-- The request that an input offers: the one in its return place comes before its queue (R314). -/
def Port.head (p : Port) (i : Nat) : Option PReq :=
  match SMap.find p.ret i with
  | some r => some r
  | none => (p.queueOf i).head?

/-- Whether the quota lets an input be granted (R313). -/
def Port.quotaLeft (p : Port) (i : Nat) : Bool := decide (i < 12) || decide (0 < SMap.get 0 p.left i)

/-- Whether an input is eligible (R312); `held` tells which requests wait for a vertical bundle (R392). -/
def Port.eligible (p : Port) (held : PReq → Bool) (i : Nat) : Bool :=
  match p.head i with
  | none => false
  | some r => r.ready && p.quotaLeft i && !held r

/-- The highest eligible input. -/
def Port.winner (p : Port) (held : PReq → Bool) : Option Nat := ((List.range 16).reverse).find? (p.eligible held)

/-- The tile whose store window holds an address. -/
def State.storeTile (s : State) (a : Nat) : Option Nat :=
  if s.isLocal a && regionOf (addrOffset a) == some .store then some ((addrOffset a - 0x101_0000_0000) / 0x80_0000) else none

/-- Whether an access needs a vertical bundle that a lane walk has paused: every access of a tile to anything outside it, and every
access of another master to a tile store (R390, R392). -/
def State.bundleHeld (s : State) (m a : Nat) : Bool :=
  (decide (m < 0x90) && (s.tile m).vbPaused && s.storeTile a != some m) ||
  (match s.storeTile a with | some t => t != m && (s.tile t).vbPaused | none => false)

/-- Whether a request at a port waits for a vertical bundle: the reads of fills and the packets at egress have crossed it. -/
def State.preqHeld (s : State) (n : Nat) (r : PReq) : Bool :=
  (decide (n < 8) || decide (80 ≤ n ∧ n < 89)) && s.bundleHeld r.mid (match s.findReq r.req with | some x => x.addr | none => 0)

/-- Requests that a decision passes over for the first time wait (R316). -/
def Port.passOver (p : Port) : Port :=
  (List.range 16).foldl (fun p i =>
    let q := p.queueOf i
    let n := (q.filter (fun r => !r.waited)).length
    if n = 0 then p
    else { p with queues := SMap.put p.queues i (q.map (fun r => { r with waited := true })),
                  waits := SMap.put p.waits i ((SMap.get 0 p.waits i + n) % 2 ^ 64) }) p

/-- The port without the request that an input offers. -/
def Port.popHead (p : Port) (i : Nat) : Port :=
  match SMap.find p.ret i with
  | some _ => { p with ret := SMap.drop p.ret i }
  | none => { p with queues := SMap.put p.queues i ((p.queueOf i).drop 1) }

/-- The accounts of a grant to an input after a wait (R313, R316); the others that wait are passed over. -/
def Port.granted (p : Port) (i wait : Nat) : Port :=
  let p := p.passOver
  { p with
    grants := SMap.put p.grants i ((SMap.get 0 p.grants i + 1) % 2 ^ 64),
    longest := SMap.put p.longest i (max (SMap.get 0 p.longest i) wait),
    left := if i < 12 then p.left else SMap.put p.left i (SMap.get 0 p.left i - 1) }

/-- A request enters the queue of its input and is charged, or its master is masked; a full queue holds it at its requester
(R308, R314). The second component tells whether it entered. -/
def State.portEnter (s : State) (n m cls units req : Nat) : State × Bool :=
  let p := s.port n
  let i := inputOf m cls
  if 4 ≤ (p.queueOf i).length then (s, false)
  else if !s.admits p m then (s.setPort n { p with masked := insertNew p.masked m }, false)
  else
    let p := s.charge p m units
    let r : PReq := { mid := m, units := units, at_ := s.bedLosc, waited := false, ready := true, req := req }
    (s.setPort n { p with queues := SMap.put p.queues i (p.queueOf i ++ [r]) }, true)

/-- Whether a port would grant a request of an input in the decision that follows its admission: no transfer is open, nothing of
its input waits, its quota is not spent, and no higher input is eligible. A scrubber's needs that no input requests (R301,
R306). -/
def Port.free (p : Port) (held : PReq → Bool) (m i : Nat) : Bool :=
  p.transfer.isNone && p.idle i && p.quotaLeft i && (List.range 16).all (fun j => decide (j < i) || !p.eligible held j) &&
  (!isScrubber m || (List.range 16).all p.idle)

/-- A request passes a port in one step: it is admitted and charged, granted at once, and its transfer ends within the step; or
its master is masked, or it waits. The second component tells whether it has passed. DESIGN CHOICE: log entry 66. -/
def State.portPass (s : State) (n m cls units : Nat) : State × Bool :=
  let p := s.port n
  let i := inputOf m cls
  if !midIssued m || !p.free (s.preqHeld n) m i then (s, false)
  else if !s.admits p m then (s.setPort n { p with masked := insertNew p.masked m }, false)
  else (s.setPort n ((s.charge p m units).granted i 0), true)

/-- The port of a request's home: none of one that leaves the device, whose packet passes an egress port. A read that looks for a
copy of a remote line passes the port of the line's slice (R263). -/
def State.reqPort (s : State) (r : Req) : Option Nat :=
  if s.isLocal r.addr then (match portAt (addrOffset r.addr) with | some n => if n = 89 then none else some n | none => none)
  else if r.imm then some (sliceOf (r.addr / 256)) else none

/-- A home accepts a request (R235). -/
def State.accept (s : State) (id : Nat) : State :=
  let n := s.reqs.foldl (fun m r => max m r.acc) 0 + 1
  s.updReq id (fun r => { r with adm := 2, acc := n })

/-- A request before its home: it is there once its port has granted it. The second component tells whether it is.
DESIGN CHOICE: log entry 66. -/
def State.atPort (s : State) (id : Nat) : State × Bool :=
  match s.findReq id with
  | none => (s, false)
  | some r =>
    if r.adm = 2 then (s, true)
    else if r.adm = 1 then (s, false)
    else match s.reqPort r with
      | none => (s, false)
      | some n =>
        let (s, ok) := if s.bundleHeld r.who.mid r.addr then (s, false) else s.portPass n r.who.mid r.cls (reqUnits r)
        if ok then (s.accept id, true) else (s, false)

/-- An access that a unit makes in one step passes the port of its home; one that leaves the device passes its egress port as a
packet. The second component tells whether it has passed. DESIGN CHOICE: log entry 66. -/
def State.enter (s : State) (who : Who) (cls a units : Nat) : State × Bool :=
  if s.bundleHeld who.mid a then (s, false)
  else if !s.isLocal a then (s, true)
  else match portAt (addrOffset a) with
    | none => (s, true)
    | some n => s.portPass n who.mid cls units

/-- Several accesses of one step: all pass, or none does, and the master of the first that cannot is masked where it is not
admitted. -/
def State.enterAll (s : State) (xs : List (Who × Nat × Nat × Nat)) : State × Bool :=
  xs.foldl (fun (a : State × Bool) x =>
    if !a.2 then a
    else
      let (s', ok) := a.1.enter x.1 x.2.1 x.2.2.1 x.2.2.2
      if ok then (s', true)
      else match portAt (addrOffset x.2.2.1) with
        | some n => (s.updPort n (fun p => { p with masked := (s'.port n).masked }), false)
        | none => (s, false)) (s, true)

/-- A granted request that its target cannot accept goes to the return place of its input, and its transfer ends (R314); where
another stands there, it waits at the target. DESIGN CHOICE: log entry 66. -/
def State.park (s : State) (n m cls units id : Nat) : State × Bool :=
  let p := s.port n
  let i := inputOf m cls
  let own := match p.transfer with | some (_, x) => x.req == id | none => false
  if (SMap.find p.ret i).isSome || (p.transfer.isSome && !own) then (s, false)
  else
    let r := match p.transfer with
      | some (_, x) => { x with ready := false, waited := true }
      | none => { mid := m, units := units, at_ := s.bedLosc, waited := true, ready := false, req := id }
    (s.setPort n { p with transfer := none, ret := SMap.put p.ret i r }, true)

/-- Park a request at its slice port (R247). -/
def State.parkReq (s : State) (id : Nat) : State :=
  match s.findReq id with
  | none => s
  | some r =>
    match s.reqPort r with
    | none => s
    | some n =>
      let (s, ok) := s.park n r.who.mid r.cls (reqUnits r) id
      s.updReq id (fun r => if ok then { r with st := .parked, adm := 1 } else { r with st := .sent })

end Sys2Proof.Machine
end

