-- ==== Sys2Proof/Machine/RegFile.lean ====
section
/-! DEFINITION. The registers of groups: the main and uniform register files with their check bits, the register caches of
the issue slots (R145, R153–R156, R290). -/

namespace Sys2Proof.Machine

/-- The sequencer of a hardware group number, its issue slot within the sequencer and within the tile (R145, R148). -/
def seqOf (slot : Nat) : Nat := slot / 8
def halfOf (slot : Nat) : Nat := slot % 8 / 4
def issueSlot (slot : Nat) : Nat := seqOf slot * 2 + halfOf slot

/-! The registers of one group. -/

/-- The number of a v register of a lane. -/
def vKey (r lane : Nat) : Nat := r * 32 + lane

/-- The stored word of half a u register. -/
def Grp.uword (g : Grp) (k : Nat) : RWord := SMap.get (RWord.of 0) g.u k
def Grp.ureg (g : Grp) (i : Nat) : W64 := BitVec.ofNat 64 ((g.uword (2 * i + 1)).val.toNat * 2 ^ 32 + (g.uword (2 * i)).val.toNat)
def Grp.setU (g : Grp) (i : Nat) (v : W64) : Grp :=
  { g with u := SMap.put (SMap.put g.u (2 * i) (RWord.of (BitVec.ofNat 32 v.toNat))) (2 * i + 1) (RWord.of (BitVec.ofNat 32 (v.toNat / 2 ^ 32))) }
def Grp.preg (g : Grp) (i : Nat) : W32 := SMap.get 0 g.p i
def Grp.setP (g : Grp) (i : Nat) (v : W32) : Grp := { g with p := SMap.put g.p i v }

/-- The stored word of a v register: in the register cache, else in the main file (R153). -/
def Grp.vword (g : Grp) (k : Nat) : RWord := match SMap.find g.rc k with | some w => w | none => SMap.get RWord.swept g.v k
/-- The value of a live v register; a dead one has none (R154). -/
def Grp.vlive (g : Grp) (r lane : Nat) : Option W32 := if g.live.testBit (vKey r lane) then some (g.vword (vKey r lane)).val else none
/-- A v register written by an instruction: live, its word in the register cache (R153). -/
def Grp.setV (g : Grp) (r lane : Nat) (v : W32) : Grp :=
  { g with live := natSetBit g.live (vKey r lane) true, rc := SMap.put g.rc (vKey r lane) (RWord.of v) }
/-- A v register written in the main file; a cached copy follows. -/
def Grp.setMain (g : Grp) (r lane : Nat) (v : W32) : Grp :=
  { g with live := natSetBit g.live (vKey r lane) true, v := SMap.put g.v (vKey r lane) (RWord.of v),
           rc := if (SMap.find g.rc (vKey r lane)).isSome then SMap.put g.rc (vKey r lane) (RWord.of v) else g.rc }
/-- A v register marked dead: its cached word is dropped (R154). -/
def Grp.killV (g : Grp) (r lane : Nat) : Grp :=
  { g with live := natSetBit g.live (vKey r lane) false, rc := SMap.drop g.rc (vKey r lane) }
/-- A replaced or flushed cache entry: a dirty word of a live register goes to the main file (R153). -/
def Grp.writeMain (g : Grp) (k : Nat) (dirty : Bool) : Grp :=
  match SMap.find g.rc k with
  | some w => if dirty && g.live.testBit k then { g with v := SMap.put g.v k w } else g
  | none => g
def Grp.evict (g : Grp) (k : Nat) (dirty : Bool) : Grp := { g.writeMain k dirty with rc := SMap.drop g.rc k }
/-- A word read from the main file enters the cache. -/
def Grp.cacheV (g : Grp) (k : Nat) : Grp := { g with rc := SMap.put g.rc k (g.vword k) }

/-! Reads of stored words (R290, R291, R294). -/

/-- What reads of stored words found: the group with words corrected or poisoned in place, the events (syndrome, whether
uncorrectable), the v registers delivered poisoned, and whether a u register was. -/
structure RegCheck where
  g    : Grp
  evs  : List (Byte × Bool)
  bad  : List Nat
  badU : Bool
  deriving DecidableEq, Repr

/-- Read the stored word of a live v register. -/
def RegCheck.v (c : RegCheck) (k : Nat) : RegCheck :=
  if !c.g.live.testBit k then c
  else
    let (w, p, e) := (c.g.vword k).read
    let g := match e with
      | none => c.g
      | some _ => if (SMap.find c.g.rc k).isSome then { c.g with rc := SMap.put c.g.rc k w } else { c.g with v := SMap.put c.g.v k w }
    { c with g := g, evs := c.evs ++ e.toList, bad := if p then c.bad ++ [k] else c.bad }

/-- Read the stored word of half a u register. -/
def RegCheck.u (c : RegCheck) (k : Nat) : RegCheck :=
  let (w, p, e) := (c.g.uword k).read
  { c with g := (match e with | none => c.g | some _ => { c.g with u := SMap.put c.g.u k w }), evs := c.evs ++ e.toList,
           badU := c.badU || p }

/-- Read v registers and u registers of a group. -/
def Grp.check (g : Grp) (vs us : List Nat) : RegCheck :=
  us.foldl (fun c r => (c.u (2 * r)).u (2 * r + 1)) (vs.foldl RegCheck.v { g := g, evs := [], bad := [], badU := false })

/-! The register caches: entries of an issue slot and lane, most recently used first. -/

abbrev RcLine := List (Nat × Nat × Bool)

def rcHas (c : RcLine) (slot r : Nat) : Bool := c.any (fun e => e.1 == slot && e.2.1 == r)
def rcDrop (c : RcLine) (slot r : Nat) : RcLine := c.filter (fun e => !(e.1 == slot && e.2.1 == r))
def rcKey (slot lane : Nat) : Nat := issueSlot slot * 32 + lane
def Tge.rcLine (x : Tge) (slot lane : Nat) : RcLine := SMap.get [] x.rc (rcKey slot lane)

def Tge.updSlot (x : Tge) (slot : Nat) (f : Grp → Grp) : Tge :=
  match SMap.find x.slots slot with
  | some g => { x with slots := SMap.put x.slots slot (f g) }
  | none => x

/-- An entry used or allocated; the least recently used one of more than 8 is replaced (R153). DEDUCED: log entry 41. -/
def Tge.rcUse (x : Tge) (slot lane r : Nat) (dirty : Bool) : Tge :=
  let c := x.rcLine slot lane
  let old := c.any (fun e => e.1 == slot && e.2.1 == r && e.2.2)
  let c := (slot, r, dirty || old) :: rcDrop c slot r
  (c.drop 8).foldl (fun x e => x.updSlot e.1 (fun g => g.evict (vKey e.2.1 lane) e.2.2))
    { x with rc := SMap.put x.rc (rcKey slot lane) (c.take 8) }

/-- A source operand of a lane passes through the cache (R153). -/
def Tge.readV (x : Tge) (slot r lane : Nat) (lu : Bool) : Tge :=
  if lu then x
  else if rcHas (x.rcLine slot lane) slot r then x.rcUse slot lane r false
  else (x.updSlot slot (fun g => g.cacheV (vKey r lane))).rcUse slot lane r false

/-- A destination register of a lane is written: the entry is dirty (R153). -/
def Tge.writeV (x : Tge) (slot r lane : Nat) (v : W32) : Tge := (x.updSlot slot (fun g => g.setV r lane v)).rcUse slot lane r true

/-- A 64-bit value in a register pair, low word first. -/
def Tge.writeV64 (x : Tge) (slot r lane v : Nat) : Tge :=
  (x.writeV slot r lane (BitVec.ofNat 32 v)).writeV slot (r + 1) lane (BitVec.ofNat 32 (v / 2 ^ 32))

/-- A register marked dead leaves the cache without write-back (R154). -/
def Tge.killV (x : Tge) (slot r lane : Nat) : Tge :=
  { x.updSlot slot (fun g => g.killV r lane) with rc := SMap.put x.rc (rcKey slot lane) (rcDrop (x.rcLine slot lane) slot r) }

/-- The entries of a group are dropped (R156). -/
def Tge.rcLeave (x : Tge) (slot : Nat) : Tge := { x with rc := SMap.mapVals (fun (c : RcLine) => c.filter (fun e => e.1 != slot)) x.rc }

/-- Every dirty live entry is written to the main file; the entries stay (R156). -/
def Tge.rcFlush (x : Tge) : Tge :=
  let x := x.rc.foldl (fun (x : Tge) c => c.2.foldl (fun x e => x.updSlot e.1 (fun g => g.writeMain (vKey e.2.1 (c.1 % 32)) e.2.2)) x) x
  { x with rc := SMap.mapVals (fun (c : RcLine) => c.map (fun e => (e.1, e.2.1, false))) x.rc }

/-- The results of a synchronisation operation that has all of them, in VD (and VD+1 of a counter read). -/
def Tge.syncDone (x : Tge) (slot : Nat) : Tge :=
  match SMap.find x.slots slot with
  | none => x
  | some g => match g.sync with
    | none => x
    | some y =>
      if !y.lanes.isEmpty then x
      else
        (y.res.foldl (fun (x : Tge) p =>
          if y.wide then x.writeV64 slot y.vd p.1 p.2 else x.writeV slot y.vd p.1 (BitVec.ofNat 32 p.2)) x).updSlot slot
          (fun g => { g with sync := none })

/-- The account of the events that reads of a tile's register files found (R294, R295); the words have no address (R37).
DESIGN CHOICE: log entry 141. -/
def State.regEvents (s : State) (t : Nat) (waiter : W32) (evs : List (Byte × Bool)) : State :=
  evs.foldl (fun s e => if e.2 then s.lfUe t waiter 0 e.1 5 else s.lfCe t) s

end Sys2Proof.Machine
end

