-- ==== Sys2Proof/Machine/Trace.lean ====
section
/-! DEFINITION. Trace records (R507, R508) and their buffer, the firing of a tensor dump (R509). -/

namespace Sys2Proof.Machine

/-- An urgency wire after its buffer's fill level has changed: high and low watermark in per cent of the capacity.
DEDUCED: log entry 136. -/
def State.tide (s : State) (was : Bool) (fill cap : Nat) : Bool :=
  if s.odNat 0x2600 4 * cap ≤ fill * 100 then true
  else if fill * 100 ≤ s.odNat 0x2600 5 * cap then false
  else was

/-! Sources and types. -/

def srcTile (t : Nat) : Nat := t
def srcArray (t : Nat) : Nat := 0x100 + t
def srcSlice (n : Nat) : Nat := 0x200 + n
def srcSched : Nat := 0x210
def srcMgmt : Nat := 0x400

/-- The bit of the source mask for a source (OD 0x2E01.03). -/
def srcBit (v : Nat) : Nat :=
  if v < 0x100 then v
  else if v < 0x200 then 144 + (v - 0x100)
  else if v < 0x210 then 288 + (v - 0x200)
  else if v = 0x210 then 296
  else if v < 0x300 then 297 + (v - 0x211)
  else if v < 0x400 then 305 + (v - 0x300)
  else 369

/-- The types that sources generate: under the debug lock only MARK, TASK_PLACED, TASK_FINAL, ERROR and DROP (OD 0x2E01.04). -/
def State.traceTypes (s : State) : Nat :=
  let m := s.odNat 0x2E01 2 % 2 ^ 17
  if s.debugLocked then m &&& 0x1_0B02 else m

/-- Whether a source generates a type. With destination 0 tracing is off. -/
def State.traced (s : State) (src type : Nat) : Bool :=
  let b := srcBit src
  let byte : Byte := match SMap.find s.od.blob (odKey 0x2E01 3) with | some bs => bs.getD (b / 8) 0 | none => 0xFF
  s.odGet 0x2E01 1 != 0 && s.traceTypes.testBit type && byte.toNat.testBit (b % 8)

/-! The buffer. -/

/-- The 32 bytes of a record. -/
def State.traceBytes (s : State) (src type layer seq : Nat) (ctx : Option Nat) (payload : List Byte) : TraceRec :=
  leBytes 2 src ++ leBytes 1 type ++ leBytes 1 layer ++ leBytes 4 seq ++ leBytes 4 (s.loscOf layer).toNat ++
  leBytes 1 (match ctx with | some c => c | none => 0xFF) ++ [0, 0, 0] ++ takeAt payload 0 16

/-- Records that the buffer of 256 KiB holds. DEDUCED: log entry 136. -/
def traceCap : Nat := 8192

def State.updTrc (s : State) (f : Trc → Trc) : State := { s with trc := f s.trc }

/-- A record enters the buffer; it takes the next number of its source. DEDUCED: log entry 136. -/
def State.tracePut (s : State) (src type layer : Nat) (ctx : Option Nat) (payload : List Byte) : State :=
  let n := SMap.get 0 s.trc.seq src
  let r := s.traceBytes src type layer n ctx payload
  s.updTrc (fun x =>
    let buf := x.buf ++ [(src, r)]
    { x with buf := buf, seq := SMap.put x.seq src ((n + 1) % 2 ^ 32), urgent := s.tide x.urgent (32 * buf.length) (32 * traceCap) })

/-- A source generates a record. One that finds the buffer full is discarded; the next that enters follows a DROP record. -/
def State.trace (s : State) (src type layer : Nat) (ctx : Option Nat) (payload : List Byte) : State :=
  if !s.traced src type then s
  else if traceCap ≤ s.trc.buf.length then
    (s.odInc 0x2E01 8).updTrc (fun x =>
      { x with seq := SMap.upd 0 x.seq src (fun n => (n + 1) % 2 ^ 32), drops := SMap.upd 0 x.drops src (fun n => n + 1) })
  else
    let d := SMap.get 0 s.trc.drops src
    let s := if d = 0 then s
      else
        let s := s.updTrc (fun x => { x with drops := SMap.drop x.drops src })
        if s.traced src 0x10 then s.tracePut src 0x10 layer none (leBytes 4 d) else s
    s.tracePut src type layer ctx payload

/-- A record of a tile's Lower Face units. -/
def State.traceTile (s : State) (t type : Nat) (payload : List Byte) : State := s.trace (srcTile t) type 1 (s.tileCtx t) payload

/-! Tensor dump. -/

/-- A pass that a tile accepts as number `no` with its TAG_OUT: the dump that is armed for it fires, and the scoreboard accepts
its read behind the pass. -/
def State.dumpFire (s : State) (t : Nat) (pd : Pd) (no : Nat) : State :=
  let x := s.tile t
  match x.task with
  | none => s
  | some (p, n) =>
    match s.taskOf p n with
    | none => s
    | some k =>
      let name := fld (k.words.getD 4 0) 32 32
      let want := s.odNat 0x2E10 3
      if s.odGet 0x2E10 7 ≠ 1 ∨ s.trc.dump.isSome ∨ s.debugLocked ∨ name = 0 ∨ name ≠ s.odNat 0x2E10 1 ∨ no ≠ s.odNat 0x2E10 2 ∨
          (want ≠ 0xFF ∧ want ≠ x.index) then s
      else
        let op := x.core.nextOp
        let reg : SbReg := { op := op, unit := .debug, isPass := false, tag := pd.tagOut, rdIn := true, rdOut := false, wrIn := false,
                             wrOut := false, pend := [.dumpRead] }
        let d : DumpRun := { tile := t, op := op, pd := pd, pass := no, name := name, index := x.index, seq := n,
                             tiles := k.tiles.length, ctx := k.ctx }
        (s.setTile t { x with sb := x.sb ++ [reg], core := { x.core with nextOp := op + 1 } }).updTrc (fun c => { c with dump := some d })

/-- A dump that has not completed ends with its tile's task (OD 0x2E10.07: aborted). -/
def State.dumpAbort (s : State) (t : Nat) : State :=
  match s.trc.dump with
  | some d =>
    if d.tile = t then
      (s.odSet 0x2E10 7 5).updTrc (fun x => { x with dump := none, reading := false }) |>.updTile t (fun x =>
        { x with sb := x.sb.filter (fun r => !(r.pend == [.dumpRead])) })
    else s
  | none => s

end Sys2Proof.Machine
end

