-- ==== Sys2Proof/Machine/Halt.lean ====
section
/-! DEFINITION. Halting, resuming and stepping a tile, as shared operations (R500–R505). -/

namespace Sys2Proof.Machine

/-- Stop the core at its instruction boundary: a core whose load is outstanding stops when the load returns. -/
def Core.halt (c : Core) : Core :=
  match c.st, c.wait with
  | 4, _ => c
  | 3, some (.load _ _ _) => c
  | n, _ => { c with st := 4, back := n }

/-- g0 reads zero and discards writes (R117). -/
def Core.reg (c : Core) (i : Nat) : W64 := if i = 0 then 0 else SMap.get 0 c.g i
def Core.setReg (c : Core) (i : Nat) (v : W64) : Core := if i = 0 then c else { c with g := SMap.put c.g i v }

/-- A waiting operation of the core ends with a value in rd, and the core runs on. -/
def Core.endWait (c : Core) (rd : Nat) (v : W64) : Core :=
  { c.setReg rd v with wait := none, pc := c.pc + 4, st := 1 }

/-- Let a halted core go on where it stopped; a wait that ended meanwhile delivers its status (R503). -/
def Core.unhalt (c : Core) : Core :=
  if c.st = 4 then
    match c.wait with
    | some (.ready rd v) => c.endWait rd v
    | _ => { c with st := c.back }
  else c

/-- Start the halt of one tile with a cause (R500, R501); a tile without a task, or one that drains or is halted, ignores
it. -/
def State.haltTile (s : State) (t cause bp : Nat) : State :=
  let x := s.tile t
  if x.task.isNone || x.dbg.state == 1 || x.dbg.state == 2 then s
  else s.setTile t { x with dbg := { x.dbg with state := 1, step := 0, cause := cause, bpHit := bp }, core := x.core.halt }

/-- The tiles of the task placed on a tile. -/
def State.taskTiles (s : State) (t : Nat) : List Nat :=
  match (s.tile t).task with
  | some (p, n) => match s.taskOf p n with | some k => k.tiles | none => []
  | none => []

/-- A halt starts on a tile; with TASK_HALT it reaches every tile of the task (R502). -/
def State.startHalt (s : State) (t cause bp : Nat) : State :=
  let x := s.tile t
  if x.task.isNone || x.dbg.state == 1 || x.dbg.state == 2 then s
  else
    let s := s.haltTile t cause bp
    if bitOf (s.dbg t).ctl 16 then (s.taskTiles t).foldl (fun s u => s.haltTile u 4 0) s else s

/-- Whether the tile halted at the breakpoint of this PC: the fetch there has been made, and the instruction executes. -/
def Dbg.stoppedAt (d : Dbg) (pc : W64) : Bool :=
  d.cause == 3 && decide ((SMap.get (0 : W64) d.bp d.bpHit).toNat / 4 = pc.toNat / 4)

/-- Release one tile (R503). -/
def State.resumeTile (s : State) (t : Nat) : State :=
  let x := s.tile t
  if x.dbg.state = 0 then s
  else
    let s := s.traceTile t 0x0D (leBytes 8 x.core.pc.toNat ++ leBytes 1 x.dbg.cause)
    s.setTile t { x with dbg := { x.dbg with state := 0, step := 0, cause := 0 },
                         core := { x.core.unhalt with skipBp := x.dbg.stoppedAt x.core.pc },
                         tge := x.tge.slots.foldl (fun g e => g.syncDone e.1) x.tge }

/-- RESUME written to a tile: every tile of a task that a TASK_HALT stopped resumes with it (R502). -/
def State.resume (s : State) (t : Nat) : State :=
  let ts := s.taskTiles t
  let joint := ts.any (fun u => (s.dbg u).cause == 4 || bitOf (s.dbg u).ctl 16)
  if joint then ts.foldl (fun s u => s.resumeTile u) (s.resumeTile t) else s.resumeTile t

/-- The number of the enabled breakpoint at an address. -/
def Dbg.bpAt (d : Dbg) (pc : W64) : Option Nat :=
  (List.range 4).find? (fun i =>
    let b := SMap.get (0 : W64) d.bp i
    bitOf b 0 && decide (b.toNat / 4 = pc.toNat / 4))

/-- An instruction of the core has completed: a draining core halts, a core step ends (R501, R504). -/
def State.coreDone (s : State) (t : Nat) : State :=
  s.updTile t (fun x =>
    let c := { x.core with skipBp := false }
    if x.dbg.state = 1 then { x with core := c.halt }
    else if x.dbg.state = 3 ∧ x.dbg.step = 1 ∧ c.st ≠ 3 ∧ c.st ≠ 2 then
      { x with dbg := { x.dbg with state := 1, step := 0, cause := 5 }, core := c.halt }
    else { x with core := c })

/-- Whether a group may execute: the tile runs, or steps this group (R504). -/
def Dbg.groupMayRun (d : Dbg) (slot : Nat) : Bool :=
  d.state == 0 || (d.state == 3 && d.step == 2 && fld d.ctl 8 6 == slot)

/-- Whether work that has not begun may begin on the tile's engines: not while it drains or is halted (R501). -/
def Dbg.mayBegin (d : Dbg) : Bool := d.state == 0 || d.state == 3

end Sys2Proof.Machine
end

