-- ==== Sys2Proof/Machine/GroupCache.lean ====
section
/-! DEFINITION. The caches of the thread-group engine as far as the end of a synchronisation operation acts on them
(R165–R169). -/

namespace Sys2Proof.Machine

/-- A step of this group ends (R504). -/
def State.groupDone (s : State) (t slot : Nat) : State :=
  s.updDbg t (fun d =>
    if d.state = 3 ∧ d.step = 2 ∧ fld d.ctl 8 6 = slot then { d with state := 1, step := 0, cause := 5 } else d)

/-- An address with the own device id in place of the local alias. -/
def State.canonAddr (s : State) (a : Nat) : Nat :=
  if addrFormatOk a && s.isLocal a then (s.globalOf (addrOffset a)).toNat else a

/-- Whether an access is cacheable (R165): HBM offsets and Bedrock scratch, local or remote. -/
def cacheable (a : Nat) : Bool :=
  addrFormatOk a && (regionOf (addrOffset a) == some .hbm || regionOf (addrOffset a) == some .scratch)

/-! The tile L1: 64 sets of 16 lines of 256 bytes. -/

def Tge.line (x : Tge) (L : Nat) : Option L1Line := SMap.find x.l1 L
def Tge.putLine (x : Tge) (L : Nat) (l : L1Line) : Tge := { x with l1 := SMap.put x.l1 L l }

/-- Outstanding loads of a tile's groups on lines that `p` chooses deliver their data to the registers only. -/
def State.spoilFills (s : State) (t : Nat) (p : Nat → Bool) : State :=
  { s with reqs := s.reqs.map (fun r =>
      match r.who, r.kind with
      | .group u _, .load => if u = t ∧ cacheable r.addr ∧ p (s.canonAddr r.addr / 256) then { r with aux := 1 } else r
      | _, _ => r) }

/-- The second part of FENCE.T: the sequencer's L0. -/
def State.l0Invalidate (s : State) (t sq : Nat) : State :=
  (s.updTge t (fun x => { x with l0 := SMap.drop x.l0 sq })).spoilFills t (fun _ => true)

/-- The second part of FENCE.D: every clean line of the L1 and the sequencer's L0. -/
def State.acquireFence (s : State) (t slot : Nat) : State :=
  (s.updTge t (fun x => { x with l1 := x.l1.filter (fun e => e.2.dirty != 0) })).l0Invalidate t (seqOf slot)

end Sys2Proof.Machine
end

