-- ==== Sys2Proof/Machine/UnitRegs.lean ====
section
/-! DEFINITION. The end of a waiting synchronisation operation in its unit: a control core or a group. -/

namespace Sys2Proof.Machine

/-- A synchronisation operation of a core answers (R203). -/
def State.coreSync (s : State) (t : Nat) (v : W64) : State :=
  match (s.core t).wait with
  | some (.sync rd _) =>
    if (s.core t).st = 4 then s.updCore t (fun c => { c with wait := some (.ready rd v) })
    else (s.updCore t (fun c => c.endWait rd v)).coreDone t
  | _ => s

def State.grp (s : State) (t slot : Nat) : Option Grp := SMap.find (s.tge t).slots slot
def State.setGrp (s : State) (t slot : Nat) (g : Grp) : State :=
  s.updTge t (fun x => { x with slots := SMap.put x.slots slot g })
def State.updGrp (s : State) (t slot : Nat) (f : Grp → Grp) : State :=
  match s.grp t slot with | some g => s.setGrp t slot (f g) | none => s

/-- One lane of a group's synchronisation operation answers; none answers for every lane (a barrier operation, R205). With
the last answer the operation completes, as an acquire (R169). -/
def State.groupSync (s : State) (t slot : Nat) (lane : Option Nat) (v : Nat) : State :=
  match s.grp t slot with
  | none => s
  | some g =>
    match g.sync with
    | none => s
    | some y =>
      let got := match lane with | some l => [l] | none => y.lanes
      let y := { y with lanes := y.lanes.filter (fun l => !(got.contains l)), res := got.foldl (fun m l => SMap.put m l v) y.res }
      let s := s.setGrp t slot { g with sync := some y }
      if !y.lanes.isEmpty then s
      else
        let s := s.acquireFence t slot
        if (s.dbg t).groupMayRun slot then (s.updTge t (fun x => x.syncDone slot)).groupDone t slot else s

end Sys2Proof.Machine
end

