-- ==== Sys2Proof/Machine/SyncCore.lean ====
section
/-! DEFINITION. Synchronisation objects at their homes (R197–R227): increments, locks, events, barrier channels, pending
waits and how they end. -/

namespace Sys2Proof.Machine

/-! Statuses (R206) and codes of class 0x04 (R481). -/
def SYN_OK : Nat := 0x00
def SYN_TIMEOUT : Nat := 0x01
def LOCK_BUSY : Nat := 0x02
def LOCK_SELF_GROUP : Nat := 0x03
def LOCK_HELD_SELF : Nat := 0x04
def LOCK_NOT_OWNER : Nat := 0x05
def ABANDONED : Nat := 0x06
def PRODUCER_LOST : Nat := 0x07
def PREEMPTED : Nat := 0x08
def COUNT_BOUND : Nat := 0x09
def STALE_TARGET : Nat := 0x0A
def CTR_OVERFLOW : Nat := 0x0B
def SYN_CLEARED : Nat := 0x0C
def FORCED : Nat := 0x0D
def BAR_NOT_JOINED : Nat := 0x0E
def BAR_FULL : Nat := 0x0F
def SYN_KIND : Nat := 0x10
def SYN_OPERAND : Nat := 0x11
def SYN_REMOTE : Nat := 0x12
def SYN_TIMEOUT_RANGE : Nat := 0x13
def SYN_WAITERS : Nat := 0x14
def SYN_ATTR_BAD : Nat := 0x15
def SYN_PLAIN_WRITE : Nat := 0x16
def LOCK_HELD_AT_END : Nat := 0x17
def SYN_HAND_SET : Nat := 0x18
def SYN_HANDSET_BAD : Nat := 0x19

/-! Attribute words (R200). -/
def atTask (a : W64) : Bool := bitOf a 63
def atPart (a : W64) : Nat := fld a 56 3
def atCtx (a : W64) : Nat := fld a 48 8
def atPair (a : W64) : Bool := bitOf a 47
def atConsumer (a : W64) : Bool := bitOf a 46
def atRole (a : W64) : Bool := bitOf a 45
def atProducer (a : W64) : Bool := bitOf a 44
def atAuto (a : W64) : Bool := bitOf a 43
def atTile (a : W64) : Nat := fld a 32 8
def atPartner (a : W64) : Nat := fld a 16 16
def atN (a : W64) : Nat := fld a 0 16 + 1
/-- The bits of SYN_ATTR that software writes. -/
def attrMask : W64 := 0x87FF_B8FF_FFFF_FFFF

def State.updSync (s : State) (f : Sync → Sync) : State := { s with sync := f s.sync }
def State.ctr (s : State) (n : Nat) : Nat := (SMap.get (0 : W64) s.sync.ctr n).toNat
def State.setCtr (s : State) (n v : Nat) : State := s.updSync (fun y => { y with ctr := SMap.put y.ctr n (BitVec.ofNat 64 v) })
def State.attr (s : State) (k : ObjKind) (n : Nat) : W64 :=
  match k with
  | .ctr => SMap.get 0 s.sync.ctrAttr n
  | .lock => SMap.get 0 s.sync.lockAttr n
  | .evt => SMap.get 0 s.sync.evtAttr n
  | .chan => 0
def State.setAttr (s : State) (k : ObjKind) (n : Nat) (a : W64) : State :=
  s.updSync (fun y => match k with
    | .ctr => { y with ctrAttr := SMap.put y.ctrAttr n a }
    | .lock => { y with lockAttr := SMap.put y.lockAttr n a }
    | .evt => { y with evtAttr := SMap.put y.evtAttr n a }
    | .chan => y)
def State.lockOf (s : State) (n : Nat) : Lock := SMap.get Lock.init s.sync.lock n
def State.setLock (s : State) (n : Nat) (l : Lock) : State := s.updSync (fun y => { y with lock := SMap.put y.lock n l })
def State.chanOf (s : State) (c : Nat) : Chan := SMap.get Chan.init s.sync.chan c
def State.setChan (s : State) (c : Nat) (x : Chan) : State := s.updSync (fun y => { y with chan := SMap.put y.chan c x })

/-- A record of class 0x04 (R207), with its count in OD 0x2C00. -/
def State.synRec (s : State) (code sev : Nat) (object waiter : W32) (ctx : Option Nat) : State :=
  let s := if code = SYN_TIMEOUT then s.odInc 0x2C00 2 else if code = COUNT_BOUND then s.odInc 0x2C00 3 else s
  s.report (s.mkRec 0x04 code sev 0 noUnit object waiter 0 ctx 0)

/-- A record of class 0x04 that a tile writes itself (R208, R209). DEDUCED: log entry 154. -/
def State.synTileRec (s : State) (t code : Nat) (object waiter : W32) (ctx : Option Nat) : State :=
  let s := if code = SYN_TIMEOUT then s.odInc 0x2C00 2 else s
  s.report (s.mkRec 0x04 code 0 1 (BitVec.ofNat 32 t) object waiter 0 ctx 0)

/-- A drop under R215, in the Spoil log. -/
def State.staleRec (s : State) (object waiter : W32) (ctx : Option Nat) : State :=
  (s.odInc 0x2C00 4).spoil (s.mkRec 0x04 STALE_TARGET 0 0 noUnit object waiter 0 ctx 0)

/-- The context of a unit, for a record. -/
def State.whoCtx (s : State) (w : Who) : Option Nat := match w.tile with | some t => some (s.tile t).ctx | none => none

/-! Pending waits. -/

/-- An operation of a unit answers with a status. -/
def State.deliver (s : State) (w : SWait) (status : Nat) : State :=
  let s := s.trace (srcSlice (if w.kind = .chan then 0 else w.num % 8)) 0x0A 0 (s.whoCtx w.who)
    (leBytes 4 (objId w.kind w.num).toNat ++ leBytes 4 (w.who.waiter w.lane).toNat ++ leBytes 1 status)
  match w.who with
  | .core t => s.coreSync t (BitVec.ofNat 64 status)
  | .group t g => s.groupSync t g (if w.kind = .chan then none else some w.lane) status
  | _ => s

/-- End the waits that `p` chooses, oldest first, each with a status. -/
def State.endWaits (s : State) (p : SWait → Bool) (status : Nat) : State :=
  let ws := s.sync.waits.filter p
  ws.foldl (fun s w => s.deliver w status) (s.updSync (fun y => { y with waits := y.waits.filter (fun w => !p w) }))

/-- Waits that have reached the home of an object. -/
def SWait.on (w : SWait) (k : ObjKind) (n : Nat) : Bool := w.kind == k && w.num == n && !w.held

def isInc : WaitFor → Bool | .inc _ => true | _ => false
def isRound : WaitFor → Bool | .round => true | _ => false

/-- The counters of a partition's list (R176). -/
def State.submitCtr (s : State) (p : Nat) : Nat := s.odNat (0x2B00 + p) 3
def State.releaseCtr (s : State) (p : Nat) : Nat := s.odNat (0x2B00 + p) 4

/-- The TD_WAIT conditions of a descriptor: counter and value of each valid one, in order (R180). -/
def tdWaits (ws : List W64) : List (Nat × Nat) :=
  (List.range 3).filterMap (fun k =>
    let w := ws.getD (5 + 2 * k) 0
    if bitOf w 63 then some (fld w 0 16, (ws.getD (6 + 2 * k) 0).toNat) else none)

/-- Whether the device scheduler waits on a counter: for a submission, or for a condition of a fetched task.
DEDUCED: log entry 46. -/
def State.schedWaits (s : State) (n : Nat) : Bool :=
  s.sched.running &&
  ((List.range 8).any (fun p => (s.part p).armed && s.submitCtr p == n && decide (s.ctr n ≤ (s.part p).fetch)) ||
   s.sched.tasks.any (fun k => decide (k.st = .window) && (tdWaits k.words).any (fun w => w.1 == n && decide (s.ctr n < w.2))))

/-- Whether a wait or a held increment is pending on an object (R200). -/
def State.hasWaits (s : State) (k : ObjKind) (n : Nat) : Bool :=
  s.sync.waits.any (fun w => w.on k n) || (decide (k = .ctr) && s.schedWaits n)

/-- Wait entries of a slice in use (R210): the lanes of one instruction that wait on one object share one.
DEDUCED: log entry 46. -/
def State.entriesUsed (s : State) (slice : Nat) : Nat :=
  (s.sync.waits.foldl (fun (acc : List (ObjKind × Nat × Who × Nat)) w =>
    if w.held || decide (w.kind = .chan) || w.num % 8 != slice then acc
    else insertNew acc (w.kind, w.num, w.who, w.op)) []).length

/-- A wait joins the home's queue, or is held in its unit for want of an entry (R210). DEDUCED: log entry 49. -/
def State.enqueue (s : State) (w : SWait) : State :=
  let shared := s.sync.waits.any (fun x => x.on w.kind w.num && x.who == w.who && x.op == w.op)
  let held := !decide (w.kind = .chan) && !shared && decide (4096 ≤ s.entriesUsed (w.num % 8))
  s.updSync (fun y => { y with waits := y.waits ++ [{ w with held := held }] })

/-! Counters (R211–R215). -/

/-- How an increment ends at the home. -/
inductive IncRes where
  | ok | bound | stale | overflow | hold
  deriving DecidableEq, Repr

/-- The checks of an increment in their order (R215): epoch, pair bound, overflow. -/
def State.incCheck (s : State) (n a : Nat) (epoch : Option Nat) (mayHold : Bool) : IncRes :=
  let at_ := s.attr .ctr n
  let v := s.ctr n
  if atRole at_ && epoch != some (s.tile (atTile at_)).epoch then .stale
  else if atPair at_ && decide (atN at_ < a) then .bound
  else if atPair at_ && mayHold && (s.sync.waits.any (fun w => w.on .ctr n && isInc w.want)) then .hold
  else if atPair at_ && decide (atN at_ + s.ctr (atPartner at_) < v + a) then (if mayHold then .hold else .bound)
  else if atConsumer at_ && decide (s.ctr (atPartner at_) < v + a) then .bound
  else if 2 ^ 64 ≤ v + a then .overflow
  else .ok

/-- Wake every waiter whose target the counter has reached (R211). -/
def State.wakeReached (s : State) (n : Nat) : State :=
  let v := s.ctr n
  s.endWaits (fun w => w.on .ctr n && (match w.want with | .value g => decide (g.toNat ≤ v) | _ => false)) SYN_OK

/-- Raise a counter and wake its waiters. -/
def State.raise (s : State) (n a : Nat) : State := (s.setCtr n (s.ctr n + a)).wakeReached n

/-- Apply the held increments of producer p that now fit, oldest first (R214), the overflow rule checked again. -/
def State.applyHeld : Nat → State → Nat → State
  | 0, s, _ => s
  | f + 1, s, p =>
    match s.sync.waits.find? (fun w => w.on .ctr p && isInc w.want) with
    | none => s
    | some w =>
      match w.want with
      | .inc a =>
        let at_ := s.attr .ctr p
        if atPair at_ && decide (atN at_ + s.ctr (atPartner at_) < s.ctr p + a) then s
        else
          let s := s.updSync (fun y => { y with waits := y.waits.erase w })
          if 2 ^ 64 ≤ s.ctr p + a then
            State.applyHeld f ((s.synRec CTR_OVERFLOW 0 (objId .ctr p) (w.who.waiter w.lane) (s.whoCtx w.who)).deliver w CTR_OVERFLOW) p
          else State.applyHeld f ((s.raise p a).deliver w SYN_OK) p
      | _ => s

/-- After counter n has changed, the held increments that it frees: those of its producer, or its own where a hand-set has
lowered it. DEDUCED: log entry 48. -/
def State.freeHeld (s : State) (n : Nat) : State :=
  let at_ := s.attr .ctr n
  if atConsumer at_ then State.applyHeld (s.sync.waits.length + 1) s (atPartner at_)
  else if atPair at_ then State.applyHeld (s.sync.waits.length + 1) s n else s

/-- The held increments that the withdrawal of others lets through (R214). -/
def State.settlePairs (s : State) : State :=
  let ns := (s.sync.waits.filter (fun w => decide (w.kind = .ctr) && isInc w.want)).foldl (fun l w => insertNew l w.num) []
  ns.foldl (fun s n => State.applyHeld (s.sync.waits.length + 1) s n) s

/-- The status of an increment that is not held. -/
def IncRes.status : IncRes → Nat
  | .ok => SYN_OK | .bound => COUNT_BOUND | .stale => STALE_TARGET | .overflow => CTR_OVERFLOW | .hold => SYN_OK

/-- Perform an increment that is never held: its status; a refused one is recorded (R207, R215). DEDUCED: log entry 48. -/
def State.incNow (s : State) (n a : Nat) (epoch : Option Nat) (waiter : W32) (ctx : Option Nat) : State × Nat :=
  match s.incCheck n a epoch false with
  | .ok => ((s.raise n a).freeHeld n, SYN_OK)
  | .stale => (s.staleRec (objId .ctr n) waiter ctx, STALE_TARGET)
  | .bound => (s.synRec COUNT_BOUND 0 (objId .ctr n) waiter ctx, COUNT_BOUND)
  | .overflow => (s.synRec CTR_OVERFLOW 0 (objId .ctr n) waiter ctx, CTR_OVERFLOW)
  | .hold => (s, COUNT_BOUND)

/-- An increment by the device itself on a local counter (TD_INC, TD_ABORT, status and capacity counters).
DEDUCED: log entries 48, 51. -/
def State.incOwn (s : State) (n a : Nat) : State := (s.incNow n a none (BitVec.ofNat 32 0x098) none).1

/-! Locks (R217–R219). -/

/-- Give the lock to its oldest waiter with a status; the other waiting lanes of that group then meet R218. With no waiter
the lock is free. -/
def State.passLock (s : State) (n status : Nat) (abandoned : Bool) : State :=
  match s.sync.waits.find? (fun w => w.on .lock n) with
  | none => s.setLock n { owner := none, abandoned := abandoned, selfGroup := false }
  | some w =>
    let s := s.updSync (fun y => { y with waits := y.waits.erase w })
    let same := fun (x : SWait) => x.on .lock n && x.who == w.who
    let s := s.setLock n { owner := some (w.who, w.lane), abandoned := false, selfGroup := s.sync.waits.any same }
    (s.deliver w status).endWaits same LOCK_SELF_GROUP

/-- A LOCK.ACQ reaches the home (R217, R218): the status, or none where it waits. `late` says that it comes later than the
tenure time plus its timeout. -/
def State.acquire (s : State) (n : Nat) (who : Who) (lane : Nat) (late : Bool) : State × Option Nat :=
  let l := s.lockOf n
  match l.owner with
  | none =>
    (s.setLock n { owner := some (who, lane), abandoned := false, selfGroup := false },
      some (if l.abandoned then ABANDONED else SYN_OK))
  | some (w, k) =>
    if w = who ∧ k = lane then (s, some LOCK_HELD_SELF)
    else if w = who then
      if l.selfGroup && late then (s.synRec SYN_TIMEOUT 0 (objId .lock n) (who.waiter lane) (s.whoCtx who), some SYN_TIMEOUT)
      else (s.setLock n { l with selfGroup := true }, some LOCK_SELF_GROUP)
    else (s, none)

/-- A LOCK.REL reaches the home (R217). -/
def State.unlock (s : State) (n : Nat) (who : Who) (lane : Nat) : State × Nat :=
  if (s.lockOf n).owner = some (who, lane) then (s.passLock n SYN_OK false, SYN_OK)
  else (s.synRec LOCK_NOT_OWNER 0 (objId .lock n) (who.waiter lane) (s.whoCtx who), LOCK_NOT_OWNER)

/-- The owner of a lock is lost (R219). -/
def State.loseLock (s : State) (n : Nat) : State := (s.odInc 0x2C00 6).passLock n ABANDONED true

/-- Every lock owned by a unit that `p` chooses loses its owner; `atEnd` also records LOCK_HELD_AT_END. -/
def State.loseLocks (s : State) (p : Who → Bool) (atEnd : Bool) : State :=
  s.sync.lock.foldl (fun s e =>
    match (s.lockOf e.1).owner with
    | some (w, lane) =>
      if p w then
        let s := if atEnd then s.synRec LOCK_HELD_AT_END 0 (objId .lock e.1) (w.waiter lane) (s.whoCtx w) else s
        s.loseLock e.1
      else s
    | none => s) s

/-! Events (R220). -/

def State.setEvt (s : State) (n : Nat) (v : Bool) : State :=
  s.updSync (fun y => { y with evt := if v then insertNew y.evt n else without y.evt n })
def State.evtSet (s : State) (n : Nat) : Bool := s.sync.evt.contains n

/-- EVT.SET, its woken waiters receiving `status`. -/
def State.signalEvt (s : State) (n status : Nat) : State :=
  if s.evtSet n then s
  else if atAuto (s.attr .evt n) then
    match s.sync.waits.find? (fun w => w.on .evt n) with
    | some w => (s.updSync (fun y => { y with waits := y.waits.erase w })).deliver w status
    | none => s.setEvt n true
  else (s.setEvt n true).endWaits (fun w => w.on .evt n) status

/-- EVT.WAIT on a set event: OK at once, clearing an auto-reset one. -/
def State.takeEvt (s : State) (n : Nat) : State × Option Nat :=
  if s.evtSet n then ((if atAuto (s.attr .evt n) then s.setEvt n false else s), some SYN_OK) else (s, none)

/-! Barrier channels (R221–R224, R343, R344). -/

def Chan.localN (c : Chan) : Nat := fld c.cfg 8 7
def Chan.expect (c : Chan) : Nat := fld c.cfg 0 8
def Chan.count (c : Chan) (t : Nat) : Nat := SMap.get 0 c.arrived t
def Chan.tileDone (c : Chan) (t : Nat) : Bool := decide (c.localN ≤ c.count t)
/-- The local condition of R222. -/
def Chan.complete (c : Chan) : Bool := c.members.length == c.expect && c.members.all c.tileDone

/-- The physical tile of a waiting unit. -/
def whoTile (w : Who) : Nat := match w.tile with | some t => t | none => 0

/-- Clear a channel (R225), its waiters ending with a status. -/
def State.clearChan (s : State) (c status : Nat) : State :=
  let x := s.chanOf c
  let s := s.setChan c { x with round := 0, sense := false, members := [], arrived := [], last := [] }
  let s := s.setYbar c { s.ybar c with arrived := 0, sent := false }
  s.endWaits (fun w => w.on .chan c) status

/-- A barrier message that this device sent has failed (R344). -/
def State.barLost (s : State) (c : Nat) : State :=
  let s := s.clearChan c PRODUCER_LOST
  s.report (s.mkRec 0x09 YF_BAR_LOST 0 0 noUnit (objId .chan c) (BitVec.ofNat 32 0x098) (s.globalOf (chanBase c)) (some 0) 0)

/-- An arrival counts where it is not stalled (R222, R223). -/
def Chan.arrive (x : Chan) (who : Who) : Option Chan :=
  let t := whoTile who
  if x.last.any (fun e => e.1 == who && e.2 == x.round) || decide (x.localN < x.count t + 1) then none
  else some { x with arrived := SMap.put x.arrived t (x.count t + 1),
                     last := x.last.filter (fun e => e.1 != who) ++ [(who, x.round)] }

/-- The stalled arrivals of a channel that count after a release, oldest first; a BAR.SYNC goes on to wait. -/
def State.unstall : Nat → State → Nat → List SWait → State
  | 0, s, _, _ => s
  | _ + 1, s, _, [] => s
  | f + 1, s, c, w :: ws =>
    match w.want with
    | .arrive thenWait =>
      match (s.chanOf c).arrive w.who with
      | none => State.unstall f s c ws
      | some x =>
        let s := s.setChan c x
        let s := if thenWait then
            s.updSync (fun y => { y with waits := y.waits.map (fun v => if v == w then { w with want := .round } else v) })
          else (s.updSync (fun y => { y with waits := y.waits.erase w })).deliver w SYN_OK
        State.unstall f s c ws
    | _ => State.unstall f s c ws

/-- The local effects of a release (R222): its waiters wake with a status, and stalled arrivals count. What children and the device
itself have sent belongs to the round that ends (R343). -/
def State.releaseRound (s : State) (c status : Nat) : State :=
  let x := s.chanOf c
  let b := s.ybar c
  let s := if b.arrived = 0 ∧ b.sent = false then s else s.setYbar c { b with arrived := 0, sent := false }
  let s := s.setChan c { x with round := (x.round + 1) % 2 ^ 32, sense := !x.sense, arrived := [], last := [] }
  let s := s.endWaits (fun w => w.on .chan c && isRound w.want) status
  let ws := s.sync.waits.filter (fun w => w.on .chan c)
  State.unstall (ws.length + 1) s c ws

/-- Send the release of a round to every child (R343). -/
def State.releaseChildren (s : State) (c round : Nat) : State :=
  (s.ybar c).children.foldl (fun s d =>
    let (s', ok) := s.egress (s.barPkt TBAR_RELEASE d c round) none
    if ok then s' else s.barLost c) s

/-- Whether every child has arrived. -/
def YBar.childrenIn (b : YBar) : Bool := (List.range (min b.nchild 16)).all (fun i => b.arrived.testBit i)

/-- Whether this device's part of the round is complete (R222, R343). -/
def State.partComplete (s : State) (c : Nat) : Bool :=
  let x := s.chanOf c
  let b := s.ybar c
  if b.valid then (x.expect == 0 || x.complete) && b.childrenIn else x.expect != 0 && x.complete

/-- Release every round that is complete, as far as its stalled arrivals complete the next (R222, R343). -/
def State.barTry : Nat → State → Nat → State
  | 0, s, _ => s
  | f + 1, s, c =>
    if !s.partComplete c then s
    else
      let b := s.ybar c
      if !b.valid then State.barTry f (s.releaseRound c SYN_OK) c
      else if b.root then
        let r := (s.chanOf c).round
        let s := (s.releaseRound c SYN_OK).releaseChildren c r
        if (s.chanOf c).expect = 0 ∧ b.nchild = 0 then s else State.barTry f s c
      else if b.sent then s
      else
        let (s', ok) := s.egress (s.barPkt TBAR_ARRIVE b.parent c (s.chanOf c).round) none
        if ok then s'.setYbar c { b with sent := true } else s.barLost c

/-- Fuel for the rounds that one event can release. -/
def State.barCheck (s : State) (c : Nat) : State := State.barTry (s.sync.waits.length + 2) s c

/-- A tile leaves a channel (R221): its arrivals in the round are withdrawn. -/
def State.leaveChan (s : State) (c t : Nat) : State :=
  let x := s.chanOf c
  s.setChan c { x with members := without x.members t, arrived := SMap.drop x.arrived t,
                       last := x.last.filter (fun e => whoTile e.1 != t) }

/-- A tile leaves every channel at the end of its task (R221). -/
def State.leaveAll (s : State) (t : Nat) : State :=
  s.sync.chan.foldl (fun s e => if (s.chanOf e.1).members.contains t then s.leaveChan e.1 t else s) s

/-- A member tile is retired or reset, or its task aborts (R224). -/
def State.chanTileLost (s : State) (t : Nat) : State :=
  s.sync.chan.foldl (fun s e =>
    if (s.chanOf e.1).members.contains t && s.sync.waits.any (fun w => w.on .chan e.1) then
      (s.clearChan e.1 PRODUCER_LOST).barCheck e.1
    else s) s

/-- The producer tile of counters is lost (R216). -/
def State.producerLost (s : State) (t : Nat) : State :=
  s.sync.ctrAttr.foldl (fun s e =>
    if atProducer e.2 && atTile e.2 == t then s.endWaits (fun w => w.on .ctr e.1) PRODUCER_LOST else s) s

/-! Arrival of a waiting operation at its home. -/

/-- An operation that may wait reaches its home: it answers, or joins the queue. -/
def State.arrive (s : State) (w : SWait) (late : Bool) (epoch : Option Nat) : State :=
  match w.want with
  | .value g => if g.toNat ≤ s.ctr w.num then s.deliver w SYN_OK else s.enqueue w
  | .inc a =>
    match s.incCheck w.num a epoch true with
    | .hold => s.enqueue { w with epoch := epoch }
    | .ok => ((s.raise w.num a).freeHeld w.num).deliver w SYN_OK
    | .stale => (s.staleRec (objId .ctr w.num) (w.who.waiter w.lane) (s.whoCtx w.who)).deliver w STALE_TARGET
    | r => (s.synRec r.status 0 (objId .ctr w.num) (w.who.waiter w.lane) (s.whoCtx w.who)).deliver w r.status
  | .acquire =>
    match s.acquire w.num w.who w.lane late with
    | (s, some st) => s.deliver w st
    | (s, none) => s.enqueue w
  | .event =>
    match s.takeEvt w.num with
    | (s, some st) => s.deliver w st
    | (s, none) => s.enqueue w
  | .round =>
    if !((s.chanOf w.num).members.contains (whoTile w.who)) then s.deliver w BAR_NOT_JOINED
    else if (s.chanOf w.num).last.any (fun e => e.1 == w.who && e.2 == (s.chanOf w.num).round) then s.enqueue w
    else s.deliver w SYN_OK
  | .arrive thenWait =>
    if !((s.chanOf w.num).members.contains (whoTile w.who)) then s.deliver w BAR_NOT_JOINED
    else match (s.chanOf w.num).arrive w.who with
      | none => s.enqueue w
      | some x =>
        let s := s.setChan w.num x
        let s := if thenWait then s.enqueue { w with want := .round } else s.deliver w SYN_OK
        s.barCheck w.num

/-- Waits held in their units enter as entries of the slice become free, oldest first (R210). DEDUCED: log entry 49. -/
def State.admitHeld : Nat → State → State
  | 0, s => s
  | f + 1, s =>
    match s.sync.waits.find? (fun w => w.held && decide (s.entriesUsed (w.num % 8) < 4096)) with
    | none => s
    | some w => State.admitHeld f ((s.updSync (fun y => { y with waits := y.waits.erase w })).arrive { w with held := false } false w.epoch)

/-- The end of every command that acts on objects: waits held in their units enter the entries that are free. -/
def State.syncSettle (s : State) : State := State.admitHeld (s.sync.waits.length + 1) s

/-- The waits of a tile's units are withdrawn without status (R210); the queues behind them move on (R214). -/
def State.withdrawWaits (s : State) (t : Nat) : State :=
  (s.updSync (fun y => { y with waits := y.waits.filter (fun w => w.who.tile != some t) })).settlePairs.syncSettle

/-! Clearing (R225). -/

/-- Clear one object, its waits ending with SYN_CLEARED. -/
def State.clearObj (s : State) (k : ObjKind) (n : Nat) : State :=
  match k with
  | .ctr => (s.setCtr n 0).endWaits (fun w => w.on .ctr n) SYN_CLEARED
  | .lock => (s.setLock n Lock.init).endWaits (fun w => w.on .lock n) SYN_CLEARED
  | .evt => (s.setEvt n false).endWaits (fun w => w.on .evt n) SYN_CLEARED
  | .chan => (s.clearChan n SYN_CLEARED).barCheck n

def heldBy (a : W64) (p ctx : Nat) : Bool := atTask a && atPart a == p && atCtx a == ctx

/-- The objects held with a partition and context (R225). -/
def State.heldObjs (s : State) (p ctx : Nat) : List (ObjKind × Nat) :=
  (s.sync.ctrAttr.filter (fun e => heldBy e.2 p ctx)).map (fun e => (.ctr, e.1)) ++
  (s.sync.lockAttr.filter (fun e => heldBy e.2 p ctx)).map (fun e => (.lock, e.1)) ++
  (s.sync.evtAttr.filter (fun e => heldBy e.2 p ctx)).map (fun e => (.evt, e.1)) ++
  (s.sync.chan.filter (fun e => heldBy e.2.cfg p ctx)).map (fun e => (.chan, e.1))

/-- The local counters that a task's words name: TD_WAIT, TD_ABORT and local TD_INC (R225). -/
def State.taskCounters (s : State) (ws : List W64) : List Nat :=
  (tdWaits ws).map (fun w => w.1) ++
  (if bitOf (ws.getD 14 0) 63 then [fld (ws.getD 14 0) 0 16] else []) ++
  (List.range 3).filterMap (fun k =>
    let w := ws.getD (11 + k) 0
    if bitOf w 63 && s.isLocal (fld w 48 12 * 2 ^ 44) then some (fld w 32 16) else none)

/-- Counters that a context switch never clears (R225). -/
def State.keptCounters (s : State) : List Nat :=
  (List.range 8).flatMap (fun p => [s.submitCtr p, s.releaseCtr p]) ++
  s.sched.tasks.flatMap (fun k => match k.st with
    | .window => s.taskCounters k.words
    | .fetching => []
    | .placed => []
    | _ => s.taskCounters k.words)

/-- Clear every object held with a partition and context; a switch spares the counters of R225. -/
def State.clearHeld (s : State) (p ctx : Nat) (spare : Bool) : State :=
  let keep := if spare then s.keptCounters else []
  (s.heldObjs p ctx).foldl (fun s o =>
    if decide (o.1 = .ctr) && keep.contains o.2 then s else s.clearObj o.1 o.2) s

end Sys2Proof.Machine
end

