-- ==== Sys2Proof/Machine/Llc.lean ====
section
/-! DEFINITION. How a home performs requests: the LLC (R233–R252), service without an LLC (R238), scratch and tile stores,
and add-to-line reductions (R253–R257). -/

namespace Sys2Proof.Machine

/-- How a requester uses the LLC (R237): whether reads and writes allocate on a miss, and the class of its misses. -/
structure LlcPolicy where
  readAlloc  : Bool
  writeAlloc : Bool
  stream     : Bool
  deriving DecidableEq, Repr

def llcPolicy (who : Who) (kind : RKind) : LlcPolicy :=
  match kind with
  | .prefetch => { readAlloc := true, writeAlloc := false, stream := true }
  | _ => match who with
    | .mover _ _ => { readAlloc := true, writeAlloc := true, stream := true }
    | .group _ _ => { readAlloc := true, writeAlloc := true, stream := false }
    | .l1 _ => { readAlloc := true, writeAlloc := true, stream := false }
    | .fabric _ _ => { readAlloc := true, writeAlloc := true, stream := false }
    | .hild => { readAlloc := true, writeAlloc := true, stream := false }
    | _ => { readAlloc := false, writeAlloc := false, stream := false }

/-- Whether the slices have an LLC (R230). -/
def State.hasLlc (s : State) : Bool := decide (s.bed.nb < 64)

/-- The sectors that bytes o … o+len-1 of a line touch, as a mask. -/
def sectorMask (o len : Nat) : Nat :=
  (List.range 4).foldl (fun m i => if o < 64 * (i + 1) ∧ 64 * i < o + len then m ||| (1 <<< i) else m) 0

/-- The sectors of a line that a write covers in full. -/
def coveredMask (o : Nat) (us : List (Option PByte)) : Nat :=
  (List.range 4).foldl (fun m i =>
    if o ≤ 64 * i ∧ 64 * (i + 1) ≤ o + us.length ∧ ((us.drop (64 * i - o)).take 64).all (fun u => u.isSome)
    then m ||| (1 <<< i) else m) 0

/-- The sectors of a line in which a write writes any byte. -/
def touchedMask (o : Nat) (us : List (Option PByte)) : Nat :=
  (List.range 4).foldl (fun m i =>
    if ((List.range us.length).any (fun j => (us.getD j none).isSome && (o + j) / 64 == i)) then m ||| (1 <<< i) else m) 0

def Slice.findLine (k : Slice) (L : Nat) (remote : Bool) : Option LlcLine :=
  k.lines.find? (fun l => l.L == L && l.remote == remote)

def Slice.setLine (k : Slice) (x : LlcLine) : Slice :=
  { k with lines := k.lines.map (fun l => if l.L == x.L && l.remote == x.remote then x else l) }

def Slice.dropLine (k : Slice) (L : Nat) (remote : Bool) : Slice :=
  { k with lines := k.lines.filter (fun l => !(l.L == L && l.remote == remote)) }

def Slice.findMiss (k : Slice) (L : Nat) (remote : Bool) : Option Miss :=
  k.misses.find? (fun m => m.L == L && m.remote == remote)

def Slice.updMiss (k : Slice) (L : Nat) (remote : Bool) (f : Miss → Miss) : Slice :=
  { k with misses := k.misses.map (fun m => if m.L == L && m.remote == remote then f m else m) }

/-- Whether a line lies in a valid pin-hint range (R240). -/
def State.pinHint (s : State) (L : Nat) : Bool :=
  (List.range 16).any (fun n =>
    let p := SMap.get Pin.init s.bed.pins n
    p.valid && decide (p.base.toNat ≤ L * 256 ∧ L * 256 ≤ p.limit.toNat))

/-- The Bedrock place of a line's data. -/
def State.linePlace (s : State) (n : Nat) (l : LlcLine) (o : Nat) : Place :=
  .bed (llcPhys s.bed.nb n l.set l.way + o)

/-- Write the dirty sectors of a line back to HBM; a poisoned word is written poisoned (R236, R298). -/
def State.writebackLine (s : State) (n : Nat) (l : LlcLine) : State :=
  (List.range 4).foldl (fun s i =>
    if l.dirty.testBit i then
      let (bs, s) := s.memRead (s.linePlace n l (64 * i)) 64 noUnit
      s.memWrite (.hbm (l.L * 256 + 64 * i)) (bs.map some) noUnit
    else s) s

/-- Sectors of a local HBM line: those that the LLC holds valid from there, the others from HBM; the bytes of a sector that is
not asked for are zero. -/
def State.readSectors (s : State) (L sectors : Nat) (w : W32) : List PByte × State :=
  let n := sliceOf L
  (List.range 4).foldl (fun (acc : List PByte × State) i =>
    if sectors.testBit i then
      let pl : Place := match (acc.2.slice n).findLine L false with
        | some l => if l.valid.testBit i then acc.2.linePlace n l (64 * i) else .hbm (L * 256 + 64 * i)
        | none => .hbm (L * 256 + 64 * i)
      let (bs, s) := acc.2.memRead pl 64 w
      (acc.1 ++ bs, s)
    else (acc.1 ++ clean (List.replicate 64 0), acc.2)) ([], s)

/-- The line among candidates that was used least recently. -/
def lruLine : List LlcLine → Option LlcLine
  | [] => none
  | l :: ls => match lruLine ls with
    | none => some l
    | some m => if l.age ≤ m.age then some l else some m

/-- Pin a line that is allocated or hit, or count the denial (R240). -/
def State.pinLine (s : State) (n : Nat) (L : Nat) : State :=
  let k := s.slice n
  match k.findLine L false with
  | none => s
  | some l =>
    if l.pinned || !s.pinHint L then s
    else
      let held := (k.lines.filter (fun x => x.set == l.set && x.pinned)).length
      if held < s.odNat 0x2400 2 then s.setSlice n (k.setLine { l with pinned := true })
      else s.setSlice n { k with pinDenied := wrapAdd 32 k.pinDenied 1 }

/-- Make a line the most recently used of its set. -/
def State.touchLine (s : State) (n L : Nat) (remote : Bool) : State :=
  s.updSlice n (fun k =>
    match k.findLine L remote with
    | some l => { (k.setLine { l with age := k.age + 1 }) with age := k.age + 1 }
    | none => k)

/-- Allocate a way for a line (R239): an invalid way, else the least recently used dead-clean line, else the least
recently used unpinned line; a remote fill in a set at the remote way cap replaces the least recently used remote line.
The line starts with no valid sector. DESIGN CHOICE: log entry 52. -/
def State.allocLine (s : State) (n L : Nat) (remote : Bool) : State :=
  let k := s.slice n
  match k.findLine L remote with
  | some _ => s
  | none =>
    let set := L / 8 % llcSets s.bed.nb
    let inSet := k.lines.filter (fun l => l.set == set)
    let remotes := inSet.filter (fun l => l.remote)
    let cap := s.odNat 0x2400 0x0B
    let elig := inSet.filter (fun l => !l.pinned)
    let freeWay := (List.range 16).find? (fun w => !(inSet.any (fun l => l.way == w)))
    let victim : Option LlcLine :=
      if remote ∧ cap ≤ remotes.length then lruLine remotes
      else match freeWay with
        | some _ => none
        | none => match lruLine (elig.filter (fun l => l.dead)) with
          | some l => some l
          | none => lruLine elig
    let way := match victim with | some v => v.way | none => freeWay.getD 0
    let s := match victim with
      | some v => (s.writebackLine n v).updSlice n (fun k => k.dropLine v.L v.remote)
      | none => s
    let s := s.updSlice n (fun k =>
      { k with lines := k.lines ++ [{ set := set, way := way, L := L, remote := remote, valid := 0, dirty := 0,
                                      pinned := false, dead := false, age := k.age + 1 }], age := k.age + 1 })
    if remote then s else s.pinLine n L

/-- Drop a line from the discard filter: any write to it does (R251). -/
def State.unfilter (s : State) (n L : Nat) : State :=
  s.updSlice n (fun k => { k with filter := without k.filter L })

/-- Apply a LAST_USE mark to a line after a read (R249–R251): dead-clean marks it the first victim; dead-discard drops it,
its address entering the discard filter where sectors were dirty; pinned lines ignore marks. A read without a mark clears it. -/
def State.deadMark (s : State) (n L : Nat) (remote : Bool) (hint : Nat) : State :=
  let k := s.slice n
  match k.findLine L remote with
  | none => s
  | some l =>
    if l.pinned then s
    else if hint = 0 then s.setSlice n (k.setLine { l with dead := false })
    else if hint = 2 ∧ l.dirty ≠ 0 then
      let f := without k.filter L ++ [L]
      s.setSlice n { (k.dropLine L remote) with filter := lastOf 4096 f }
    else s.setSlice n (k.setLine { l with dead := true })

/-! Hoist bookkeeping on reads (R258–R262). -/

/-- The index of a line in a stream, where it covers it. -/
def HStream.indexOf (h : HStream) (addr : Nat) : Option Nat :=
  let step := h.stride * 256
  if step = 0 ∨ addr < h.base ∨ (addr - h.base) % step ≠ 0 then none
  else
    let i := (addr - h.base) / step
    if h.detected || decide (i < h.lines) then some i else none

/-- The lowest line index from i on that is in none of the lists (fuel). -/
def lowestUnread (ls : List (List Nat)) : Nat → Nat → Nat
  | 0, i => i
  | f + 1, i => if ls.any (fun l => l.contains i) then lowestUnread ls f (i + 1) else i

def Slice.endStream (k : Slice) (key : Nat) : Slice :=
  { k with streams := k.streams.filter (fun h => h.key != key), members := k.members.filter (fun m => m.1 != key) }

/-- The line address of R234, and whether it is a remote line's. -/
def State.lineKey (s : State) (a : Nat) : Nat × Bool := if s.isLocal a then (addrOffset a / 256, false) else (a / 256, true)

/-- A tile has read the 256-byte line at a global address: every stream of its Hoist that it has joined advances; the
stream's LAST_USE marks a line that every joined tile has read; a declared stream that all have read in full ends.
DEDUCED: log entry 142. -/
def State.streamRead (s : State) (t addr : Nat) : State :=
  let n := sectorOf t
  (s.slice n).streams.foldl (fun s h =>
    match ({ h with base := s.ownAddr h.base } : HStream).indexOf (s.ownAddr addr / 256 * 256) with
    | none => s
    | some i =>
      let k := s.slice n
      if !(k.members.any (fun m => m.1 == h.key && m.2.1 == t)) then s
      else
        let ms := k.members.map (fun m => if m.1 == h.key && m.2.1 == t then (m.1, m.2.1, insertNew m.2.2 i) else m)
        let own := (ms.filter (fun m => m.1 == h.key)).map (fun m => m.2.2)
        let pos := lowestUnread own (own.foldl (fun a l => a + l.length) 1) 0
        let k := { k with members := ms, age := k.age + 1,
                          streams := k.streams.map (fun x => if x.key == h.key then
                            { x with pos := pos, asked := x.asked.filter (fun i => decide (pos ≤ i)), age := k.age + 1 } else x) }
        let s := s.setSlice n k
        let all := own.all (fun l => l.contains i)
        let s := if all && !h.detected && h.lastUse != 0 then
            let (L, remote) := s.lineKey addr
            s.deadMark (sliceOf L) L remote h.lastUse
          else s
        if !h.detected && own.all (fun l => decide (h.lines ≤ l.length)) then s.updSlice n (fun k => k.endStream h.key) else s) s

/-- The stride of a detected stream whose third miss is at line a: two earlier misses of the list lie one and two strides
before it, the second of them earlier still. DEDUCED: log entry 142. -/
def strideOf (a : Nat) : List Nat → Option Nat
  | [] => none
  | b :: bs => if b < a ∧ a - b ≤ 65535 ∧ a - b ≤ b ∧ bs.contains (b - (a - b)) then some (a - b) else strideOf a bs

/-- A demand miss of a tile, on the line of a global address, enters its history (R261); three misses of the 16 held that
ascend by one stride, the newest among them, start a detected stream from the next line on, where no detected stream
covers that line. Nothing is kept while stream detection is off. DEDUCED: log entry 142. -/
def State.noteMiss (s : State) (t ctx addr : Nat) : State :=
  if s.odGet 0x2400 9 != 1 then s
  else
  let n := sectorOf t
  let L := s.ownAddr addr / 256
  let k := s.slice n
  let old := SMap.get [] k.hist t
  let s := s.setSlice n { k with hist := SMap.put k.hist t ((L :: old).take 16) }
  match strideOf L (old.take 15) with
    | none => s
    | some st =>
      let k := s.slice n
      let base := (L + st) * 256
      if k.streams.any (fun x => x.stride == st && x.ctx == ctx && x.detected && (x.indexOf base).isSome) then s
      else
        let full := decide (256 ≤ k.streams.length)
        let drop := k.streams.foldl (fun (o : Option HStream) x => match o with
          | none => some x | some y => if x.age < y.age then some x else some y) none
        let k := if full then (match drop with | some d => k.endStream d.key | none => k) else k
        let s := if full then s.odInc 0x2400 0x16 else s
        s.setSlice n { k with
          streams := k.streams ++ [{ key := k.nextKey, tile := t, mid := t, ctx := ctx, base := base, stride := st,
                                     lines := 0, pos := 0, asked := [], lastUse := 0, remote := !(s.isLocal base),
                                     detected := true, age := k.age + 1 }],
          members := k.members ++ [(k.nextKey, t, [])], nextKey := k.nextKey + 1, age := k.age + 1 }

/-- The response packet of a request that came over the fabric or the Hild link (R331, R349). -/
def State.answerPkt (s : State) (r : Req) (status : Nat) (data : List PByte) : Pkt :=
  match r.who with
  | .fabric _ key =>
    { Pkt.base TREAD_DATA (key / 4096) s.ownId (key / 4 % 1024) r.ctx (key % 4) r.addr with
      tag := r.aux, status := status, lenM1 := r.len - 1, poison := poisonBits data, data := vals data }
  | _ =>
    { Pkt.base (if status = 0 ∨ r.share = 0 then TREAD_DATA else TSTATUS) 0 0 0 r.ctx 0 r.op with
      tag := if status = 0 ∨ r.share = 0 then r.aux else 0, status := status, lenM1 := r.len - 1, poison := poisonBits data,
      data := vals data }

/-- The number under which the Hild link stands beside the 64 Yonus links. -/
def hildLink : Nat := 64

/-- Put a packet of the device on the Hild link. -/
def State.hildOut (s : State) (p : Pkt) (cls : Nat := 0) : State :=
  ({ s with nextReq := s.nextReq + 1 } : State).updLink hildLink (fun k => { k with out := k.out ++ [{ pkt := p, from_ := none, cls := cls, id := s.nextReq }] })

/-- A READ_SHARED or READ_EXCL is performed (R351): the line's directory entry is made. DEDUCED: log entry 78. -/
def State.shareDone (s : State) (r : Req) : State :=
  let L := addrOffset r.addr / 256
  let known := SMap.find s.hild.dir L
  let age := match known with | some e => e.age | none => s.hild.dirAge
  { s with hild := { s.hild with
      dir := SMap.put s.hild.dir L { excl := r.share == 2 || known.any (fun (e : DirEnt) => e.excl), age := age },
      dirAge := s.hild.dirAge + 1 } }

/-- End a request: a load of a unit keeps its data for it, and is a read of its line for the streams of the unit's tile; a read
that came over a link is answered; everything else is dropped (a posted request that succeeds is never answered, R331). -/
def State.finishReq (s : State) (id : Nat) (data : List PByte) : State :=
  match s.findReq id with
  | none => s
  | some r =>
    match r.kind, r.who with
    | .load, .fabric _ _ => (s.dropReq id).respond (s.answerPkt r 0 data)
    | .load, .hild => ((if r.share = 0 then s else s.shareDone r).dropReq id).hildOut (s.answerPkt r 0 data)
    | .load, _ =>
      let s := s.updReq id (fun r => { r with st := .done, data := data })
      (match r.who.tile with | some t => s.streamRead t r.addr | none => s)
    | _, _ => s.dropReq id

/-- A read that its home refuses: answered with the STATUS value and recorded for its link (R331, R349), failed at its
unit otherwise. -/
def State.failRead (s : State) (r : Req) (status : Nat) : State :=
  let rec_ := fun (cls code : Nat) =>
    s.report (s.mkRec cls code 0 0 noUnit noUnit (r.who.waiter 0) (BitVec.ofNat 64 r.addr) (some r.ctx) 0)
  match r.who with
  | .fabric _ _ => ((rec_ 0x09 status).dropReq r.id).respond (s.answerPkt r status [])
  | .hild => ((rec_ 0x0A (0x80 + status)).dropReq r.id).hildOut (s.answerPkt r status [])
  | _ => s.updReq r.id (fun r => { r with st := .failed status })

/-- A prefetch that is refused (R262): nothing is read; its stream ends, with a Spoil record HOIST_DENY. -/
def State.hoistDeny (s : State) (r : Req) : State :=
  let n := sectorOf r.who.mid
  let s := (s.odInc 0x2400 0x17).spoil (s.mkRec 0x03 0x06 0 0 (BitVec.ofNat 32 n) noUnit (BitVec.ofNat 32 r.who.mid)
    (BitVec.ofNat 64 r.addr) (some r.ctx) 0)
  (s.dropReq r.id).updSlice n (fun k => k.endStream r.op)

/-! Lookups. -/

/-- Count a lookup of the slice and, for unpinned traffic, of the thrash detector; a window that has its lookups ends, to be judged
(R243). -/
def State.countLookup (s : State) (n L : Nat) (hit : Bool) (remote : Bool := false) : State :=
  let unp := remote || !s.pinHint L
  s.updSlice n (fun k =>
    let look := if unp then k.winLook + 1 else k.winLook
    let miss := if unp && !hit then k.winMiss + 1 else k.winMiss
    let full := unp && decide (s.odNat 0x2400 3 ≤ look)
    { k with hits := if hit then wrapAdd 32 k.hits 1 else k.hits,
             missCount := if hit then k.missCount else wrapAdd 32 k.missCount 1,
             winLook := if full then 0 else look, winMiss := if full then 0 else miss,
             ended := if full then k.ended ++ [(look, miss)] else k.ended })

/-- The tags of a set are tested (R292): a clean line whose tag is wrong is invalidated; the loss of a dirty one is
device-fatal. DEDUCED: log entry 140. -/
def State.llcTags (s : State) (n L : Nat) : State :=
  (s.slice n).lines.foldl (fun s l =>
    if l.perr && l.set == L / 8 % llcSets s.bed.nb then
      (s.updSlice n (fun k => k.dropLine l.L l.remote)).tagParity (if l.dirty = 0 then 0 else 4) 0 n
    else s) s

/-- Whether stream no-allocate is in force in a slice (R244). -/
def State.noAlloc (s : State) (n : Nat) : Bool := (s.slice n).thrash && s.odGet 0x2400 6 == 1

def RKind.isLoad : RKind → Bool | .load => true | .prefetch => true | _ => false
def RKind.isRed : RKind → Bool | .red _ => true | _ => false

/-- Whether a request is a stream-class read (R237). -/
def Req.streamRead (r : Req) : Bool := (llcPolicy r.who r.kind).stream && r.kind.isLoad

/-- Open a miss register for a request, or park the request where none is free (R245, R247). A stream-class fill reads all four
sectors. -/
def State.openMiss (s : State) (n L : Nat) (remote stream : Bool) (sectors : Nat) (alloc : Bool) (r : Req) : State :=
  let k := s.slice n
  if 512 ≤ k.misses.length then s.parkReq r.id
  else
    let m : Miss := { L := L, remote := remote, sectors := if stream then 15 else sectors, stream := stream,
                      tiles := if stream then r.who.tile.toList else [], reqs := [r.id], prefetch := r.kind == .prefetch,
                      alloc := alloc, rd := r.kind.isLoad }
    let s := s.setSlice n { k with misses := k.misses ++ [m], missPeak := max k.missPeak (k.misses.length + 1) }
    s.updReq r.id (fun r => { r with st := .waitFill })

/-- The scattered-class waiters of a fill (R245). -/
def State.waitersOf (s : State) (m : Miss) : Nat :=
  (m.reqs.filter (fun i => match s.findReq i with | some x => !x.streamRead | none => false)).length

/-- Join a fill in flight (R246, R247): a stream-class read without limit, anything else as one of 16 waiters or parked. Further
sectors are added while the HBM read has not been issued (R245). -/
def State.joinMiss (s : State) (n : Nat) (m : Miss) (r : Req) (need : Nat) : State :=
  let pol := llcPolicy r.who r.kind
  if !r.streamRead && decide (16 ≤ s.waitersOf m) then s.parkReq r.id
  else
    let s := s.updSlice n (fun k => { (k.updMiss m.L m.remote (fun m =>
      { m with reqs := m.reqs ++ [r.id],
               tiles := if r.streamRead then (match r.who.tile with | some t => insertNew m.tiles t | none => m.tiles) else m.tiles,
               alloc := m.alloc || (r.kind.isLoad && pol.readAlloc),
               sectors := if m.adm = 2 then m.sectors else m.sectors ||| (if r.streamRead then 15 else need) })) with
      joins := if r.streamRead then wrapAdd 32 k.joins 1 else k.joins })
    s.updReq r.id (fun r => { r with st := .waitFill })

/-- A read miss on a line in the discard filter (R251, R252): recorded in the Spoil log, or refused under strict
dead-discard; the second component is true where the read goes on. DEDUCED: log entry 143. -/
def State.deadReread (s : State) (n L : Nat) (r : Req) : State × Bool :=
  let k := s.slice n
  if !(k.filter.contains L) then (s, true)
  else
    let s := s.updSlice n (fun k => { k with rereads := wrapAdd 32 k.rereads 1 })
    let strict := s.odGet 0x2400 7 == 1
    let rc := s.mkRec 0x03 0x02 (if strict then 1 else 0) 0 (BitVec.ofNat 32 n) noUnit (BitVec.ofNat 32 r.who.mid)
      (s.globalOf (L * 256)) (some r.ctx) 0
    if strict && r.kind == RKind.prefetch then (s.hoistDeny r, false)
    else if strict then
      let s := s.report rc
      let s := match r.who.tile with | some t => s.abortTask t codeTaskFault | none => s
      (s.failRead r ST_DEAD_REREAD, false)
    else (s.spoil rc, true)

/-- A request's lookup: once for each request it is counted, a demand miss enters its tile's history (R261), and a read miss
consults the discard filter (R251). The second component is true where the request goes on. DEDUCED: log entry 53. -/
def State.present (s : State) (n L : Nat) (remote hit : Bool) (r : Req) : State × Bool :=
  if r.seen then (s, true)
  else
    let s := s.updReq r.id (fun r => { r with seen := true })
    let s := if s.hasLlc then s.countLookup n L hit remote else s
    if hit then (s, true)
    else
      let s := match r.who.tile with | some t => if r.kind == .prefetch then s else s.noteMiss t r.ctx r.addr | none => s
      if s.hasLlc && !remote && r.kind.isLoad then s.deadReread n L r else (s, true)

/-- Whether the LLC holds all sectors of a mask of a line. -/
def State.lineHit (s : State) (n L : Nat) (remote : Bool) (need : Nat) : Bool :=
  match (s.slice n).findLine L remote with
  | some l => s.hasLlc && (l.valid &&& need) == need
  | none => false

/-- A hit: the line's bytes are read; the line becomes the most recently used, is pinned where a hint says so, and takes the
request's mark. -/
def State.readHit (s : State) (n L : Nat) (remote filled : Bool) (r : Req) : State :=
  let s := s.touchLine n L remote
  let s := if filled || remote then s else s.pinLine n L
  match (s.slice n).findLine L remote with
  | none => s
  | some l =>
    let (bs, s) := s.memRead (s.linePlace n l (r.addr % 256)) r.len (r.who.waiter 0)
    (s.deadMark n L remote r.hint).finishReq r.id bs

/-- Perform a read of a local HBM line at its home slice (R235–R252); `filled` says that a fill which it waited for has just
returned. -/
def State.readLine (s : State) (r : Req) (filled : Bool) : State :=
  let off := addrOffset r.addr
  let L := off / 256
  let n := sliceOf L
  let pol := llcPolicy r.who r.kind
  let need := sectorMask (off % 256) r.len
  let s := s.llcTags n L
  let hit := s.lineHit n L false need
  let (s, go) := s.present n L false hit r
  if !go then s
  else match (s.slice n).findMiss L false with
    | some m => s.joinMiss n m r need
    | none =>
      if hit then s.readHit n L false filled r
      else
        let valid := match (s.slice n).findLine L false with | some l => l.valid | none => 0
        s.openMiss n L false pol.stream (need &&& (15 ^^^ (valid &&& 15))) (pol.readAlloc && s.hasLlc) r

/-- The bytes of a write, at o of its line, that fall in sectors which `p` chooses. -/
def inSectors (o : Nat) (us : List (Option PByte)) (p : Nat → Bool) : List (Option PByte) :=
  List.zipWith (fun i u => if p ((o + i) / 64) then u else none) (List.range us.length) us

/-- The bytes of a write without allocation that go to HBM: those of sectors that the LLC does not hold (R237). -/
def unheld (line : Option LlcLine) (o : Nat) (us : List (Option PByte)) : List (Option PByte) :=
  match line with
  | none => us
  | some l => inSectors o us (fun i => !l.valid.testBit i)

/-- The bytes of a write without allocation that merge into sectors which the LLC holds (R237). DEDUCED: log entry 143. -/
def State.writeHeld (s : State) (n : Nat) (line : Option LlcLine) (o : Nat) (us : List (Option PByte)) (w : W32) : State :=
  match line with
  | none => s
  | some l =>
    let vs := inSectors o us (fun i => l.valid.testBit i)
    let m := touchedMask o vs
    if m = 0 then s
    else (s.memWrite (s.linePlace n l o) vs w).updSlice n (fun k => k.setLine { l with dirty := l.dirty ||| m, dead := false })

/-- Perform a write to a local HBM line at its home slice (R236–R238, R248). -/
def State.writeLine (s : State) (r : Req) (filled : Bool) : State :=
  let off := addrOffset r.addr
  let L := off / 256
  let o := off % 256
  let n := sliceOf L
  let pol := llcPolicy r.who r.kind
  let us := maskBytes r.data r.mask
  let s := s.llcTags n L
  let line := (s.slice n).findLine L false
  let held := match line with | some l => l.valid &&& 15 | none => 0
  let touched := touchedMask o us
  let lack := touched &&& (15 ^^^ held) &&& (15 ^^^ coveredMask o us)
  let hit := line.isSome && (touched &&& (15 ^^^ held)) == 0
  let (s, _) := s.present n L false hit r
  match (s.slice n).findMiss L false with
  | some m => s.joinMiss n m r (if s.hasLlc then lack else 0)
  | none =>
    let s := s.unfilter n L
    if !s.hasLlc || (!pol.writeAlloc && !hit) then
      ((s.writeHeld n line o us (r.who.waiter 0)).memWrite (.hbm off) (unheld line o us) (r.who.waiter 0)).finishReq r.id []
    else if lack ≠ 0 then s.openMiss n L false pol.stream lack true r
    else
      let s := s.allocLine n L false
      let s := s.touchLine n L false
      let s := if filled || line.isNone then s else s.pinLine n L
      match (s.slice n).findLine L false with
      | none => s
      | some l =>
        let s := s.memWrite (s.linePlace n l o) us (r.who.waiter 0)
        let s := s.updSlice n (fun k => k.setLine { l with valid := l.valid ||| touched, dirty := l.dirty ||| touched, dead := false })
        s.finishReq r.id []

/-! Reductions. -/

/-- Operand and target element sizes of an add-to-line format (R253); none where the value is reserved. -/
def redSizes (fmt : Nat) : Option (Nat × Nat) :=
  if fmt ≤ 2 ∨ fmt = 4 ∨ fmt = 5 then some (4, 4)
  else if fmt = 3 then some (8, 8)
  else if 8 ≤ fmt ∧ fmt ≤ 11 then some (4, 8) else none

/-- FMIN and FMAX (R152): the number where one operand is NaN, −0 below +0; a NaN result is canonical. -/
def fminmax (isMax : Bool) (a b : W32) : W32 :=
  let x := decFP32 a
  let y := decFP32 b
  if x.isNan && y.isNan then 0x7FC00000
  else if x.isNan then b
  else if y.isNan then a
  else
    let less := FVal.lt x y || (FVal.eqv x y && x.isNeg && !y.isNeg)
    if less != isMax then a else b

/-- Round an exact number to an integer, halves to even. -/
def Dy.roundHalfEven (d : Dy) : Int :=
  if 0 ≤ d.e then shlInt d.m d.e
  else
    let q := divRne d.m.natAbs (2 ^ (-d.e).toNat)
    if d.m < 0 then -(q : Int) else q

/-- One element of R254: the new target value, and whether a non-finite operand was met. -/
def redElem (fmt : Nat) (F : Int) (t v : Nat) : Nat × Bool :=
  if fmt = 0 then ((encFP32 (FVal.add (fmtFP32.decode t) (fmtFP32.decode v))).toNat, false)
  else if fmt = 1 then
    let h := fun i => fmtBF16.encode (FVal.add (fmtBF16.decode (natFld t (16 * i) 16)) (fmtBF16.decode (natFld v (16 * i) 16)))
    (h 0 + h 1 * 65536, false)
  else if fmt = 2 then ((t + v) % 2 ^ 32, false)
  else if fmt = 3 then ((t + v) % 2 ^ 64, false)
  else if fmt = 4 then ((fminmax false (BitVec.ofNat 32 t) (BitVec.ofNat 32 v)).toNat, false)
  else if fmt = 5 then ((fminmax true (BitVec.ofNat 32 t) (BitVec.ofNat 32 v)).toNat, false)
  else match fmtFP32.decode v with
    | .fin _ x =>
      let y := Dy.roundHalfEven (x.scale F)
      let y := (satInt64 y)
      (((t : Int) + y).emod (2 ^ 64) |>.toNat, false)
    | _ => (t, true)
where satInt64 (y : Int) : Int := if y < -(2 ^ 63) then -(2 ^ 63) else if 2 ^ 63 - 1 < y then 2 ^ 63 - 1 else y

/-- The targets of a reduction's elements, as offsets from its address. -/
def Req.targets (r : Req) (os tz : Nat) : List Nat := if r.elems.isEmpty then (List.range (r.data.length / os)).map (fun i => i * tz) else r.elems

/-- The bytes that the targets of a reduction span. -/
def Req.redSpan (r : Req) (fmt : Nat) : Nat :=
  match redSizes fmt with
  | some (os, tz) => (r.targets os tz).foldl (fun m o => max m (o + tz)) 0
  | none => r.data.length

/-- All elements of a request applied in order to the bytes of its span; a poisoned target element stays poisoned, and a poisoned
operand poisons its target (R298). The flags tell which elements met a non-finite operand. -/
def redApply (fmt : Nat) (F : Int) (os tz : Nat) : List Nat → List PByte → List PByte → List PByte × List Bool
  | [], ts, _ => (ts, [])
  | o :: offs, ts, vs =>
    let t := (ts.drop o).take tz
    let v := vs.take os
    let bad := poisoned t || poisoned v
    let (x, nf) := if bad then (leNat (vals t), false) else redElem fmt F (leNat (vals t)) (leNat (vals v))
    let (rest, nf') := redApply fmt F os tz offs (ts.take o ++ (leBytes tz x).map (fun b => (b, bad)) ++ ts.drop (o + tz)) (vs.drop os)
    (rest, nf :: nf')

/-- The scale F of an FXADD format (R254). -/
def State.redScale (s : State) (fmt : Nat) : Int := sgn 8 (s.odNat 0x2400 (0x10 + (fmt - 8)))

/-- The RED_NONFINITE records of a request, one per element that met a non-finite operand, with its address (R254). -/
def State.redRecs (s : State) (r : Req) (offs : List Nat) (nf : List Bool) : State :=
  (offs.zip nf).foldl (fun s e =>
    if e.2 then
      (s.odInc 0x2400 0x15).report (s.mkRec 0x03 0x03 0 0 noUnit noUnit (r.who.waiter 0) (BitVec.ofNat 64 (r.addr + e.1)) (some r.ctx) 0)
    else s) s

/-- Read the target, apply, write it back at a place (the line is locked: one step). -/
def State.redAt (s : State) (pl : Place) (r : Req) (fmt : Nat) : State :=
  match redSizes fmt with
  | none => s
  | some (os, tz) =>
    let offs := r.targets os tz
    let (ts, s) := s.memRead pl (r.redSpan fmt) (r.who.waiter 0)
    let (bs, nf) := redApply fmt (s.redScale fmt) os tz offs ts r.data
    let us := (List.range bs.length).map (fun i => if offs.any (fun o => decide (o ≤ i ∧ i < o + tz)) then bs[i]? else none)
    (s.memWrite pl us (r.who.waiter 0)).redRecs r offs nf

/-- Perform an add-to-line or minmax-to-line request on a local HBM line (R254, R255): the line is allocated if absent, as
a scattered write. -/
def State.redLine (s : State) (r : Req) (fmt : Nat) (filled : Bool) : State :=
  let off := addrOffset r.addr
  let L := off / 256
  let o := off % 256
  let n := sliceOf L
  let need := sectorMask o (r.redSpan fmt)
  let s := s.llcTags n L
  let held := match (s.slice n).findLine L false with | some l => l.valid &&& 15 | none => 0
  let lack := need &&& (15 ^^^ held)
  let (s, _) := s.present n L false (lack == 0) r
  match (s.slice n).findMiss L false with
  | some m => s.joinMiss n m r lack
  | none =>
    if !s.hasLlc then (s.redAt (.hbm off) r fmt).finishReq r.id []
    else
      let s := s.unfilter n L
      if lack ≠ 0 then s.openMiss n L false false lack true r
      else
        let s := s.touchLine n L false
        let s := if filled then s else s.pinLine n L
        match (s.slice n).findLine L false with
        | none => s
        | some l =>
          let s := s.redAt (s.linePlace n l o) r fmt
          let s := s.updSlice n (fun k => k.setLine { l with dirty := l.dirty ||| need, dead := false })
          s.finishReq r.id []

/-- Perform a request on a local HBM line. DEDUCED: log entry 53. -/
def State.performLine (s : State) (r : Req) (filled : Bool) : State :=
  match r.kind with
  | .load => s.readLine r filled
  | .prefetch => s.readLine r filled
  | .store => s.writeLine r filled
  | .red fmt => s.redLine r fmt filled
  | .ctrInc => s

/-- Perform a request in scratch or a tile store (R232, R36, R255). -/
def State.performPlace (s : State) (r : Req) : State :=
  match s.placeOf (addrOffset r.addr) with
  | none => s
  | some pl =>
    match r.kind with
    | .load =>
      let (bs, s) := s.memRead pl r.len (r.who.waiter 0)
      s.finishReq r.id bs
    | .prefetch => s.dropReq r.id
    | .store => (s.memWrite pl (maskBytes r.data r.mask) (r.who.waiter 0)).finishReq r.id []
    | .red fmt => (s.redAt pl r fmt).finishReq r.id []
    | .ctrInc => s

/-! Snoops of lines that the companion caches (R351–R353). -/

def TSNOOP_SHARE : Nat := 0x23
def TSNOOP_INV : Nat := 0x24

/-- The snoop that an access to a window line needs (R352): none, or whether it invalidates. -/
def State.snoopNeed (s : State) (L : Nat) (write : Bool) : Option Bool :=
  match SMap.find s.hild.dir L with
  | none => none
  | some e => if write then some true else if e.excl then some false else none

/-- Whether a snoop of a line is outstanding. -/
def State.snoopOut (s : State) (L : Nat) : Bool := s.hild.snoops.any (fun n => n.line == L)

/-- Send a snoop of a line. -/
def State.sendSnoop (s : State) (L : Nat) (inv : Bool) : State :=
  { s.hildOut (Pkt.base (if inv then TSNOOP_INV else TSNOOP_SHARE) 0 0 0 0 0 (s.globalOf (L * 256)).toNat) with
    hild := { s.hild with snoops := s.hild.snoops ++ [{ line := L, inv := inv }] } }

/-- An access to a local HBM line of the shared window waits until the snoop that it needs has been answered (R352): `k`
runs where it needs none. -/
def State.snooped (s : State) (off : Nat) (write : Bool) (k : State → State) : State :=
  let L := off / 256
  if regionOf off ≠ some .hbm then k s
  else if s.snoopOut L then s
  else match s.snoopNeed L write with
    | none => k s
    | some inv => s.sendSnoop L inv

/-! Fills. -/

/-- The requests that wait behind a fill's reads are performed in their order (R248); one whose line the companion has taken in the
meantime waits at its home for the snoop that it needs (R352). -/
def State.performWaiting (s : State) (rs : List Req) : State :=
  rs.foldl (fun s r =>
    let L := addrOffset r.addr / 256
    if s.snoopOut L || (s.snoopNeed L (!r.kind.isLoad)).isSome || !s.inTurn r then s.updReq r.id (fun r => { r with st := .sent })
    else s.performLine r true) s

/-- A fill returns (R246–R248): the line is allocated unless its requesters do not allocate or stream no-allocate is in
force, every joined read is served, then the marks act, the register is freed, and the waiting writes and bypass accesses are
performed in order. A read that needs a sector which the fill does not hold misses again. `data` is the line as read.
DEDUCED: log entry 53. -/
def State.fillDone (s : State) (n : Nat) (m : Miss) (data : List PByte) : State :=
  let alloc := m.alloc && s.hasLlc && !(m.stream && m.rd && s.noAlloc n) && !(m.remote && s.bed.fence)
    && !(m.remote && s.odNat 0x2400 0x0B == 0)
  let s := if alloc then
      let s := s.allocLine n m.L m.remote
      match (s.slice n).findLine m.L m.remote with
      | none => s
      | some l =>
        let new := m.sectors &&& (15 ^^^ (l.valid &&& 15))
        let s := (List.range 4).foldl (fun s i => if new.testBit i then
          s.memWrite (s.linePlace n l (64 * i)) (((data.drop (64 * i)).take 64).map some) noUnit else s) s
        s.updSlice n (fun k => k.setLine { l with valid := l.valid ||| m.sectors })
    else s
  let s := s.updSlice n (fun k => { k with misses := k.misses.filter (fun x => !(x.L == m.L && x.remote == m.remote)),
                                           hoistFills := if m.prefetch then wrapAdd 32 k.hoistFills 1 else k.hoistFills })
  let rs := (m.reqs.filterMap s.findReq).filter (fun r => r.st == .waitFill)
  let joined := rs.filter (fun r => r.kind.isLoad && !r.byp)
  let covers := fun (r : Req) => (m.sectors &&& sectorMask (r.addr % 256) r.len) == sectorMask (r.addr % 256) r.len
  let hint := joined.foldl (fun h r => max h r.hint) 0
  let s := (joined.filter covers).foldl (fun s r => s.finishReq r.id ((data.drop (r.addr % 256)).take r.len)) s
  let s := if hint = 0 then s else s.deadMark n m.L m.remote hint
  let s := (joined.filter (fun r => !covers r)).foldl (fun s r => s.readLine r true) s
  s.performWaiting (rs.filter (fun r => !(r.kind.isLoad && !r.byp)))

end Sys2Proof.Machine
end

