-- ==== Sys2Proof/Machine/Request.lean ====
section
/-! DEFINITION. How a unit's request leaves it once it has passed its checks: to a local home, over the fabric, or over the
Hild link (R28, R263, R329, R336, R355). -/

namespace Sys2Proof.Machine

/-- The codes of class 0x0A (R481). -/
def HLD_FIELD : Nat := 0x01
def HLD_PARTNER_CHANGED : Nat := 0x02
def HLD_COPY_LOST : Nat := 0x03
def HLD_LINK_LOST : Nat := 0x04
def HLD_LINK_DOWN : Nat := 0x05
def HLD_READ_TIMEOUT : Nat := 0x06
def HLD_WRITE_TIMEOUT : Nat := 0x07

/-- An outstanding access of a unit that fails after it left the unit (R335, R336, R354–R356). -/
def State.failOut (s : State) (r : Req) (cls code sev : Nat) : State :=
  if r.kind == .prefetch then s.hoistDeny r
  else (if r.kind == .load then s.updReq r.id (fun x => { x with st := .failed code }) else s.dropReq r.id).refuseAs
    cls code sev r.who r.ctx r.addr

/-- The joined requests of a remote line's fill fail: nothing is allocated (R335). -/
def State.fillFail (s : State) (n : Nat) (m : Miss) (cls code sev : Nat) : State :=
  let s := s.updSlice n (fun k => { k with misses := k.misses.filter (fun x => !(x.L == m.L && x.remote == m.remote)) })
  (m.reqs.filterMap s.findReq).foldl (fun s r => s.failOut r cls code sev) s

/-- Send the READ of a whole remote line for its miss register, or let it wait for a tag. -/
def State.sendLine (s : State) (id n L : Nat) : State :=
  match s.findReq id with
  | none => s
  | some r =>
    match s.freeTag with
    | none => { s with fab := { s.fab with wait := without s.fab.wait id ++ [id] } }
    | some tag =>
      let p := { s.pktOf { r with kind := .load, tag := tag, len := 256, addr := L * 256 } with type := TREAD }
      let (s', ok) := s.egress p none
      if ok then
        { s' with fab := { s'.fab with wait := without s'.fab.wait id,
                                       tags := s'.fab.tags ++ [{ tag := tag, req := none, line := some (n, L), addr := L * 256,
                                                                 len := 256, mid := r.who.mid, ctx := r.ctx }] } }
      else
        let s := { s with fab := { s.fab with wait := without s.fab.wait id } }
        match (s.slice n).findMiss L true with
        | some m => s.fillFail n m 0x09 YF_NO_ROUTE 0
        | none => s

/-- A remote load or prefetch of an immutable line at the line's slice (R263): it looks first for a copy. A control core reads only
the bytes it needs on a miss. -/
def State.remoteLoad (s : State) (r : Req) : State :=
  let L := r.addr / 256
  let n := sliceOf L
  let s := s.llcTags n L
  let hit := !s.bed.fence && s.lineHit n L true 15
  let (s, _) := s.present n L true hit r
  let core := match r.who with | .core _ => true | _ => false
  if core then (if hit then s.readHit n L true false r else s.sendRead r.id)
  else match (s.slice n).findMiss L true with
    | some m => s.joinMiss n m r 15
    | none =>
      if hit then s.readHit n L true false r
      else
        let s := s.openMiss n L true (llcPolicy r.who r.kind).stream 15 true r
        match s.findReq r.id with
        | some r' => if r'.st = .waitFill then s.sendLine r.id n L else s
        | none => s

/-- Freed read tags go to the requests that have waited longest (R336); one that has gone is passed over. -/
def State.serveTags : Nat → State → State
  | 0, s => s
  | f + 1, s =>
    match s.fab.wait, s.freeTag with
    | id :: rest, some _ =>
      let s := { s with fab := { s.fab with wait := rest } }
      State.serveTags f (match s.findReq id with
        | none => s
        | some r => if r.st = .waitFill then s.sendLine id (sliceOf (r.addr / 256)) (r.addr / 256) else s.sendRead id)
    | _, _ => s

def State.tagFreed (s : State) : State := s.serveTags s.fab.wait.length

/-! Hild accesses of the device (R355, R356). -/

def State.hildUp (s : State) : Bool := (s.link hildLink).state == 4

/-- Whether a request goes to the Hild window. -/
def State.toHild (s : State) (r : Req) : Bool := s.isLocal r.addr && regionOf (addrOffset r.addr) == some .hild

/-- The device's accesses that are out on the Hild link. -/
def State.hildLoads (s : State) : List Req := s.reqs.filter (fun r => r.st == .out && r.kind == .load && s.toHild r)

/-- Whether an older Hild access of the same master to the same line has still to go out (R355). -/
def State.hildBehind (s : State) (r : Req) : Bool :=
  s.reqs.any (fun x => decide (x.id < r.id) && x.st == .sent && s.toHild x && x.who.mid == r.who.mid && s.sameLine x.addr r.addr)

/-- Send a device access to companion memory; a 4,097th read waits, and what follows it to its line; while the link is not UP it is
refused. -/
def State.hildSend (s : State) (id : Nat) : State :=
  match s.findReq id with
  | none => s
  | some r =>
    if !s.hildUp then s.failOut r 0x0A HLD_LINK_LOST 1
    else if (r.kind == .load && decide (4096 ≤ s.hildLoads.length)) || s.hildBehind r then s
    else
      let used := s.hildLoads.map (fun x => x.tag)
      let tag := if r.kind == .load then ((List.range 4097).find? (fun n => !(used.contains n))).getD 0 else 0
      let p := { s.pktOf { r with tag := tag } with dst := 0, src := 0, cls := 0 }
      (s.updReq id (fun x => { x with st := .out, tag := tag })).hildOut p r.cls

/-- Accesses of the Hild window that wait for one of the 4,096 places go out in their order. -/
def State.hildNext (s : State) : State :=
  (s.reqs.filter (fun r => r.st == .sent && s.toHild r)).foldl (fun s r => s.hildSend r.id) s

/-! Issuing. -/

/-- Issue a request whose check has passed; the second component is its number. -/
def State.issue (s : State) (r : Req) (ok : AccOk) : State × Nat :=
  let id := s.nextReq
  let s := s.addReq { r with cls := ok.cls }
  match ok.region with
  | none =>
    match r.kind.isLoad with
    | true =>
      if ok.imm && (r.who.tile.isSome || r.kind == .prefetch) && s.hasLlc then (s.updReq id (fun r => { r with imm := true }), id)
      else (s.sendRead id, id)
    | false =>
      match s.findReq id with
      | none => (s, id)
      | some r =>
        let (s', sent) := s.postRemote r
        if sent then (s'.dropReq id, id) else (s.failOut r 0x09 YF_NO_ROUTE 0, id)
  | some .hild => (s.hildSend id, id)
  | some _ => (s, id)

/-- Whether an address lies in a window of registers or objects, of which a request reads only the bytes that its lanes name.
DEDUCED: log entry 160. -/
def regWindow (a : Nat) : Bool :=
  match regionOf (addrOffset a) with | some .sync => true | some .ctrl => true | _ => false

/-- The runs of a mask's true places: offset and length. -/
def maskRuns : Nat → List Bool → List (Nat × Nat)
  | _, [] => []
  | i, b :: bs => match b, maskRuns (i + 1) bs with
    | false, rs => rs
    | true, [] => [(i, 1)]
    | true, (j, n) :: rs => if j = i + 1 then (i, n + 1) :: rs else (i, 1) :: (j, n) :: rs

/-- The checks of a request (R34): of one that names some bytes of a register window only, those of each run. -/
def State.checkRuns (s : State) (r : Req) (right : Right) (len : Nat) : Except (Nat × Option Nat) AccOk :=
  match (if regWindow r.addr then maskRuns 0 r.mask else []) with
  | [] => s.checkAccess r.who.mid r.ctx right r.addr len
  | e :: es => es.foldl (fun a x => match a with
      | .error c => .error c
      | .ok _ => s.checkAccess r.who.mid r.ctx right (r.addr + x.1) x.2) (s.checkAccess r.who.mid r.ctx right (r.addr + e.1) e.2)

/-- Check an access of a unit and issue it; a refused one is recorded and aborts the unit's task (R34, R47). The second
component is the number of the request, where one was issued. DEDUCED: log entry 28. -/
def State.access (s : State) (r : Req) (right : Right) : State × Option Nat :=
  let len := match r.kind with
    | .load => r.len
    | .prefetch => r.len
    | .red fmt => r.redSpan fmt
    | .ctrInc => 8
    | .store => r.data.length
  match s.checkRuns r right len with
  | .error (c, t) => (if r.kind == .prefetch then s.hoistDeny r else s.refuse r.who r.ctx c t r.addr, none)
  | .ok ok =>
    let redBad : Bool := match r.kind, ok.region with
      | .red _, some g => !(g == .hbm || g == .scratch)
      | _, _ => false
    if redBad then (s.refuseAs 0x03 0x04 1 r.who r.ctx r.addr, none)
    else let (s, id) := s.issue r ok; (s, some id)

/-- Whether every earlier store of a unit has been performed (R121): none is on its way, parked, waiting for a fill, or
without its acknowledgement. -/
def State.storesDone (s : State) (p : Who → Bool) : Bool :=
  !(s.reqs.any (fun r => p r.who && (match r.kind with | .load => false | .prefetch => false | _ => true) &&
    (r.st == .sent || r.st == .parked || r.st == .waitFill || r.st == .out)))

end Sys2Proof.Machine
end

