-- ==== Sys2Proof/Machine/TargetWrite.lean ====
section
/-! DEFINITION. How a write reaches a register or an object: from a posted request, or by a master (R34, R41, R43). -/

namespace Sys2Proof.Machine

/-- A write of one 64-bit word that has reached its target: its unit and context, the local offset of its first byte and
the length up to its last, its bytes, which of them it writes (an empty list: all), and whether it is the whole of the write
that its master issued. -/
structure WrIn where
  who   : Who
  ctx   : Nat
  off   : Nat
  len   : Nat
  data  : W64
  en    : List Bool := []
  whole : Bool := true
  deriving DecidableEq, Repr

/-- The unit that a master id names, for a master that sends single accesses of its own. -/
def whoOfMid (m : Nat) : Who :=
  if m = 0x0E8 ∨ m = 0x0E9 then .mgt (m - 0x0E8) else if m = 0x0FB then .debug else .master m

/-- The first bytes of a list as a word. -/
def wordOf (bs : List PByte) : W64 := BitVec.ofNat 64 (leNat ((vals bs).take 8))

/-- Whether the posted request may be performed now: sent, a store, and its turn in its line. DEDUCED: log entry 8. -/
def State.storeReady (s : State) (r : Req) : Bool :=
  r.st == .sent && r.kind == .store && s.noOlder r && s.inTurn r

/-- The positions of the bytes that a store writes. -/
def Req.written (r : Req) : List Nat := (List.range r.data.length).filter (fun i => r.mask.isEmpty || r.mask.getD i false)

/-- The lowest 64-bit word that a store of registers or objects writes, and what is left of the store. The words of a wider
store are taken one by one in ascending order. DEDUCED: log entry 147. -/
def Req.firstWord (r : Req) : Option (WrIn × Option Req) :=
  match r.written with
  | [] => none
  | i :: is =>
    let a := addrOffset r.addr
    let here := (i :: is).filter (fun j => (a + j) / 8 == (a + i) / 8)
    let n := here.getLastD i + 1 - i
    let x : WrIn := {
      who := r.who, ctx := r.ctx, off := a + i, len := n, data := wordOf ((r.data.drop i).take n),
      en := if here.length = n then [] else (List.range n).map (fun k => here.contains (i + k)),
      whole := here.length == r.data.length }
    some (x, if here.length = is.length + 1 then none
             else some { r with addr := r.addr + (i + n), data := r.data.drop (i + n), mask := r.mask.drop (i + n),
                                len := r.len - (i + n) })

/-- Take the first word of a posted store to this device that `ok` accepts. A store that writes no byte ends without effect.
DEDUCED: log entry 147. -/
def State.takeWord (s : State) (r : Req) (ok : Nat → Bool) : State × Option WrIn :=
  if !(s.storeReady r && s.isLocal r.addr) then (s, none)
  else match r.firstWord with
    | none => (if ok (addrOffset r.addr) then s.dropReq r.id else s, none)
    | some (x, left) =>
      if !ok x.off then (s, none)
      else
        let (s, here) := s.atPort r.id
        if !here then (s, none)
        else (match left with | none => s.dropReq r.id | some r' => s.updReq r.id (fun y => { r' with adm := y.adm, acc := y.acc }), some x)

/-- Take the write of a command. The first component is the state where it ends here: unchanged where no such write
stands, after a refusal, or where its port does not let it in (R308); the second is the word of the write that reaches the offsets `ok` accepts. The rest of a master's
write that reaches a second word stands as a posted request. Reserved master ids issue nothing (R41).
DEDUCED: log entries 7 and 147. DEDUCED: log entries 7, 147. -/
def State.takeWr (s : State) (w : Wr) (ok : Nat → Bool) : State × Option WrIn :=
  match w.rq with
  | some id =>
    match s.findReq id with
    | some r => s.takeWord r ok
    | none => (s, none)
  | none =>
    if w.mid.toNat < 0x98 || !midIssued w.mid.toNat || (w.mid.toNat == 0x0FB && s.debugLocked) then (s, none)
    else
      let who := whoOfMid w.mid.toNat
      let len := if w.len = 0 then 1 else min w.len 8
      match s.checkAccess w.mid.toNat 0 .W w.addr.toNat len with
      | .error (c, t) => (s.refuse who 0 c t w.addr.toNat, none)
      | .ok g =>
        let r := newReq who 0 .store w.addr.toNat len (clean (leBytes len w.data.toNat)) g.cls
        match r.firstWord with
        | some (x, left) =>
          if s.isLocal w.addr.toNat && ok x.off then
            let (s, here) := s.enter who g.cls w.addr.toNat ((len + 63) / 64)
            if !here then (s, none)
            else (match left with | none => s | some r' => s.addReq { r' with adm := 2 }, some { x with data := w.data })
          else (s, none)
        | none => (s, none)

/-- The bits of a register word that a write covers, and its value in place. -/
def WrIn.mask (w : WrIn) : W64 :=
  if w.en.isEmpty then BitVec.ofNat 64 ((2 ^ (8 * w.len) - 1) <<< (8 * (w.off % 8)))
  else BitVec.ofNat 64 (leNat (w.en.map (fun b => if b then 0xFF else 0)) <<< (8 * (w.off % 8)))
def WrIn.value (w : WrIn) : W64 := BitVec.ofNat 64 ((w.data.toNat % 2 ^ (8 * w.len)) <<< (8 * (w.off % 8)))

/-- Whether the write covers its whole word. -/
def WrIn.full (w : WrIn) : Bool := w.off % 8 == 0 && w.len == 8 && w.en.isEmpty

/-- A word after a write of its covered bits. -/
def WrIn.merge (w : WrIn) (old : W64) : W64 := (old &&& ~~~ w.mask) ||| (w.value &&& w.mask)

/-- Offsets in the control space (R32), counted from its start; none elsewhere. -/
def ctrlOf (off : Nat) : Option Nat :=
  if 0x103_0000_0000 ≤ off ∧ off ≤ 0x103_FFFF_FFFF then some (off - 0x103_0000_0000) else none

/-- Whether the offset is a place of the control space that p accepts. -/
def inCtrl (p : Nat → Bool) (off : Nat) : Bool := match ctrlOf off with | some c => p c | none => false

end Sys2Proof.Machine
end

