-- ==== Sys2Proof/Machine/ActRows.lean ====
section
/-! DEFINITION. The access-table commands (R49–R51). -/

namespace Sys2Proof.Machine

/-- Whether a control-space offset lies in word `p` accepts of some access-table entry. -/
def isActEntry (p : Nat → Bool) (c : Nat) : Bool :=
  decide (0x700_0000 ≤ c ∧ c < 0x714_0000 ∧ c % 0x1_0000 < 0x2000) && p (c % 0x20 / 8)

/-- Target and entry number of an entry's offset. -/
def actTargetAt (off : Nat) : Nat := (off - 0x103_0700_0000) / 0x1_0000
def actEntryAt (off : Nat) : Nat := (off - 0x103_0700_0000) % 0x1_0000 / 0x20

/-- DESIGN CHOICE: log entry 11. -/
def ActEntry.empty : ActEntry := { base := 0, limit := 0, ctrl := 0 }

def ActTable.entry (t : ActTable) (n : Nat) : ActEntry := SMap.get ActEntry.empty t.entries n
def ActTable.setEntry (t : ActTable) (n : Nat) (e : ActEntry) : ActTable := { t with entries := SMap.put t.entries n e }

/-- Whether the lock makes the entry ignore writes (ACT_CTL.LOCK). -/
def ActTable.locked (t : ActTable) (n : Nat) : Bool := t.lock && decide (n < 64)

/-- The bits of CTRL that are fields. -/
def actCtrlMask : W64 := 0x871F_FFFF_03FF_03FF

/-- A write to BASE or LIMIT of an entry (R49). -/
def ActTable.writeBound (t : ActTable) (n : Nat) (isLimit : Bool) (w : WrIn) : ActTable :=
  let e := t.entry n
  if t.locked n then t
  else if e.valid then { t with whileValid := true }
  else if isLimit then t.setEntry n { e with limit := w.merge e.limit &&& ~~~ 0xFFF }
  else t.setEntry n { e with base := w.merge e.base &&& ~~~ 0xFFF }

/-- Whether an entry with its new CTRL passes R50 at target number k. -/
def ActEntry.good (e : ActEntry) (k : Nat) : Bool :=
  decide (e.lo ≤ e.hi) && decide (e.midLo ≤ e.midHi) &&
  (k == 16 || (fld e.base 44 20 == 0 && fld e.limit 44 20 == 0)) &&
  !(e.imm && (bitOf e.ctrl 49 || bitOf e.ctrl 51 || bitOf e.ctrl 52 || k != 16))

/-- A write to CTRL of an entry (R49, R50). -/
def ActTable.writeCtrl (t : ActTable) (k n : Nat) (v : W64) : ActTable :=
  let e := t.entry n
  let e' := { e with ctrl := v &&& actCtrlMask }
  if t.locked n then t
  else if !bitOf v 63 then t.setEntry n e'
  else if e.valid then (if e'.ctrl = e.ctrl then t else { t with whileValid := true })
  else if e'.good k then t.setEntry n e'
  else { t with badEntry := true }

/-- The accesses that have passed the lookup of a target and are not performed yet. DEDUCED: log entry 12. -/
def State.pendingAt (s : State) (t : Nat) : List Nat :=
  (s.reqs.filter (fun r => r.st == .sent &&
    (if s.isLocal r.addr then match regionOf (addrOffset r.addr) with | some g => targetOf (addrOffset r.addr) g == t | none => false
     else t == 16))).map (fun r => r.id)

/-- Whether an access that the fence of a target found is still pending. DEDUCED: log entry 12. -/
def State.fencePending (s : State) (t : Nat) : Bool :=
  (s.table t).fence.any (fun id => (s.pendingAt t).contains id)

/-- ACT_ENTRY_BASE_LIMIT_WRITE. -/
def execActEntryBaseLimitWrite (w : Wr) (s : State) : Out :=
  .next (match s.takeWr w (inCtrl (isActEntry (fun i => decide (i < 2)))) with
    | (s, none) => s
    | (s, some x) => s.updTable (actTargetAt x.off) (fun t => t.writeBound (actEntryAt x.off) (x.off % 0x20 / 8 == 1) x))

/-- ACT_ENTRY_CTRL_WRITE. -/
def execActEntryCtrlWrite (w : Wr) (s : State) : Out :=
  .next (match s.takeWr w (inCtrl (isActEntry (fun i => i == 2))) with
    | (s, none) => s
    | (s, some x) => s.updTable (actTargetAt x.off) (fun t =>
        t.writeCtrl (actTargetAt x.off) (actEntryAt x.off) (x.merge (t.entry (actEntryAt x.off)).ctrl)))

/-- Whether a control-space offset is ACT_SYNC of a target. -/
def isActSync (c : Nat) : Bool := decide (0x700_0000 ≤ c ∧ c < 0x714_0000) && c % 0x1_0000 / 8 * 8 == 0x2010

/-- ACT_SYNC_WRITE: the fence takes every access past its lookup (R51). -/
def execActSyncWrite (w : Wr) (s : State) : Out :=
  .next (match s.takeWr w (inCtrl isActSync) with
    | (s, none) => s
    | (s, some x) => s.updTable (actTargetAt x.off) (fun t => { t with fence := s.pendingAt (actTargetAt x.off) }))

/-- The answer 0 to a read of ACT_SYNC. -/
def actSyncAnswer (target : Nat) (who : Who) : Resp :=
  { who := who, ctx := 0, code := 0, addr := 0x103_0700_2010 + target * 0x1_0000, data := clean (List.replicate 8 0) }

/-- ACT_SYNC_READ: answered at once, or held while a lookup of the fence is pending. DEDUCED: log entry 12. -/
def execActSyncRead (target : Fin 20) (mid : Mid) (s : State) : Out :=
  .next (
    let a := 0x103_0700_2010 + target.val * 0x1_0000
    let who := whoOfMid mid.toNat
    if mid.toNat < 0x98 || !midIssued mid.toNat || (mid.toNat == 0x0FB && s.debugLocked) then s
    else match s.checkLocal mid.toNat 0 .R a 8 with
    | .error (c, t) => s.refuse who 0 c t (s.globalOf a).toNat
    | .ok g =>
      let (s, here) := s.enter who g.cls (s.globalOf a).toNat 1
      if !here then s
      else if s.fencePending target.val then s.updTable target.val (fun t => { t with syncHeld := t.syncHeld ++ [who] })
      else { s with resp := s.resp ++ [actSyncAnswer target.val who] })

/-- ACT_SYNC_RETURN: with no lookup of the fence pending, the held reads return 0. DEDUCED: log entry 12. -/
def execActSyncReturn (target : Fin 20) (s : State) : Out :=
  .next (
    if s.fencePending target.val then s
    else { s.updTable target.val (fun t => { t with syncHeld := [], fence := [] }) with
           resp := s.resp ++ (s.table target.val).syncHeld.map (actSyncAnswer target.val) })

end Sys2Proof.Machine
end

