-- ==== Sys2Proof/Machine/Bedrock.lean ====
section
/-! DEFINITION. The commands of the Bedrock slices: accesses, fills, pin hints, thrash windows, the immutable fence
(R230–R264). -/

namespace Sys2Proof.Machine

/-- The bank of a scratch offset. -/
def State.bankOf (s : State) (off : Nat) : Nat := physBank (scratchPhys s.bed.nb (off - 0x100_0000_0000))

/-- Whether a bank lets an ordinary access in: no row operation is in progress (R275). -/
def State.bankOpen (s : State) (b : Nat) : Bool := !((s.bank b).busy || (s.bank b).ended)

/-- Perform a request in scratch once its bank is open. -/
def State.performScratch (s : State) (r : Req) : State :=
  let b := s.bankOf (addrOffset r.addr)
  if s.bankOpen b then (s.performPlace r).updBank b (fun k => { k with serve := without k.serve r.id }) else s

/-- Whether a request looks for a copy of a remote line in this device's LLC (R263). -/
def State.seeksCopy (s : State) (r : Req) : Bool := r.imm && !s.isLocal r.addr

/-- The request of a command, where it has reached a local home of the region and it is its turn. HBM
and scratch wait while a warm reset writes the LLC back (R467). -/
def State.reqAt (s : State) (id : Nat) (g : MapRegion) (p : RKind → Bool) : Option Req :=
  match s.findReq id with
  | some r =>
    if r.st == .sent && ((s.isLocal r.addr && regionOf (addrOffset r.addr) == some g) || (g == .hbm && s.seeksCopy r)) && p r.kind &&
        s.noOlder r && s.inTurn r && !(s.bup.warmStep == 5 && g != .store) then some r
    else none
  | none => none

/-- A request at its home, once its port has granted it (R308, R314). -/
def State.served (s : State) (r : Req) (k : State → State) : State :=
  let (s, here) := s.atPort r.id
  if here then k s else s

/-- The entry of a slice of the snoop directory that was made first. -/
def State.oldestEntry (s : State) (n : Nat) : Option Nat :=
  ((s.hild.dir.filter (fun e => sliceOf e.1 == n)).foldl (fun (o : Option (Nat × DirEnt)) e => match o with
    | none => some e
    | some x => if e.2.age < x.2.age then some e else some x) none).map (fun e => e.1)

/-- A READ_SHARED or READ_EXCL at its home slice (R351–R353): it waits behind a snoop of its line; a full share of the directory
first frees its oldest entry. DEDUCED: log entry 78. -/
def State.shareAccess (s : State) (r : Req) : State :=
  let L := addrOffset r.addr / 256
  let n := sliceOf L
  let held := (s.hild.dir.filter (fun e => sliceOf e.1 == n)).length +
    (s.reqs.filter (fun x => x.share != 0 && x.st == .waitFill && sliceOf (addrOffset x.addr / 256) == n)).length
  if s.snoopOut L then s
  else if (SMap.find s.hild.dir L).isNone && decide (131072 ≤ held) then
    match s.oldestEntry n with
    | some o => if s.snoopOut o then s else s.sendSnoop o true
    | none => s
  else s.readLine r false

/-- Perform an access to a local HBM line, or the lookup for a copy of a remote one. -/
def State.lineAccess (s : State) (r : Req) : State :=
  if s.seeksCopy r then s.remoteLoad r
  else if r.share ≠ 0 then s.shareAccess r
  else s.snooped (addrOffset r.addr) (!r.kind.isLoad) (fun s => s.performLine r false)

/-- LLC_ACCESS (R235). DEDUCED: log entry 53. -/
def execLlcAccess (req : Nat) (s : State) : Out :=
  .next (match s.reqAt req .hbm (fun k => !k.isRed && k != .ctrInc) with
    | none => s
    | some r => s.served r (fun s => s.lineAccess r))

/-- SCRATCH_ACCESS (R232). -/
def execScratchAccess (req : Nat) (s : State) : Out :=
  .next (match s.reqAt req .scratch (fun k => !k.isRed && k != .ctrInc) with
    | none => s
    | some r => s.served r (fun s => s.performScratch r))

/-- TILE_STORE_WINDOW_ACCESS (R36). -/
def execTileStoreWindowAccess (req : Nat) (s : State) : Out :=
  .next (match s.reqAt req .store (fun k => !k.isRed && k != .ctrInc) with
    | none => s
    | some r => s.served r (fun s => s.performPlace r))

/-- ADD_TO_LINE (R254, R255). DEDUCED: log entry 53. -/
def execAddToLine (req : Nat) (s : State) : Out :=
  .next (match s.reqAt req .hbm RKind.isRed with
    | some r => s.served r (fun s => s.lineAccess r)
    | none => match s.reqAt req .scratch RKind.isRed with
      | some r => s.served r (fun s => s.performScratch r)
      | none => s)

/-- The HBM read of a fill at the controller front of its stack: it has been granted there, or passes in this step for the request
that opened the fill (R304). DESIGN CHOICE: log entry 66. -/
def State.frontPass (s : State) (n : Nat) (m : Miss) : State × Bool :=
  if m.adm = 2 then (s, true)
  else if m.adm = 1 then (s, false)
  else match m.reqs.head?.bind s.findReq with
    | none => (s, true)
    | some r => s.portPass (frontPort n) r.who.mid r.cls (popCount 4 m.sectors)

/-- LLC_FILL_RETURN (R246): a fill of a local line. -/
def execLlcFillReturn (slice : Fin 8) (line : Nat) (s : State) : Out :=
  .next (match (s.slice slice.val).findMiss line false with
    | none => s
    | some m =>
      let (s, here) := s.frontPass slice.val m
      if !here then s
      else
        let (data, s) := s.readSectors line m.sectors noUnit
        s.fillDone slice.val m data)

/-! Pin hints (R242). -/

def isPinBound (c : Nat) : Bool := decide (0x408_0000 ≤ c ∧ c < 0x408_0200 ∧ c % 0x20 < 0x10)
def isPinCtrl (c : Nat) : Bool := decide (0x408_0000 ≤ c ∧ c < 0x408_0200 ∧ c % 0x20 / 8 = 2)

def State.setPin (s : State) (n : Nat) (p : Pin) : State := { s with bed := { s.bed with pins := SMap.put s.bed.pins n p } }
def State.pin (s : State) (n : Nat) : Pin := SMap.get Pin.init s.bed.pins n

/-- BDR_PIN_BASE_LIMIT_WRITE. -/
def execBdrPinBaseLimitWrite (w : Wr) (s : State) : Out :=
  .next (match s.takeWr w (inCtrl isPinBound) with
    | (s, none) => s
    | (s, some x) =>
      let o := x.off - 0x103_0408_0000
      let p := s.pin (o / 0x20)
      if p.valid then { s with bed := { s.bed with pinWhile := true } }
      else if o % 0x20 < 8 then s.setPin (o / 0x20) { p with base := x.merge p.base &&& ~~~ 0xFFF }
      else s.setPin (o / 0x20) { p with limit := x.merge p.limit ||| 0xFFF })

/-- BDR_PIN_CTRL_WRITE. -/
def execBdrPinCtrlWrite (w : Wr) (s : State) : Out :=
  .next (match s.takeWr w (inCtrl isPinCtrl) with
    | (s, none) => s
    | (s, some x) =>
      let n := (x.off - 0x103_0408_0000) / 0x20
      let p := s.pin n
      let v := bitOf (x.merge (placeB p.valid 63)) 63
      if v then
        if p.walk then s
        else if p.limit.toNat < p.base.toNat ∨ 0x80_0000_0000 ≤ p.base.toNat ∨ 0x80_0000_0000 ≤ p.limit.toNat then
          { s with bed := { s.bed with pinBad := true } }
        else s.setPin n { p with valid := true }
      else if p.valid then s.setPin n { p with valid := false, walk := true, walkBase := p.base, walkLimit := p.limit }
      else s)

/-- Whether the range that an unpin walk clears holds a line. -/
def Pin.walks (p : Pin) (L : Nat) : Bool := decide (p.walkBase.toNat ≤ L * 256 ∧ L * 256 ≤ p.walkLimit.toNat)

/-- UNPIN_WALK_DONE: the range as it stood when VALID was cleared. -/
def execUnpinWalkDone (n : Fin 16) (s : State) : Out :=
  .next (
    let p := s.pin n.val
    if !p.walk then s
    else
      let s := s.setPin n.val { p with walk := false }
      (List.range 8).foldl (fun s k => s.updSlice k (fun c =>
        { c with lines := c.lines.map (fun l => if !l.remote && p.walks l.L then { l with pinned := false } else l) })) s)

/-- THRASH_WINDOW_END (R243): the oldest window that has its lookups is judged. -/
def execThrashWindowEnd (slice : Fin 8) (s : State) : Out :=
  .next (
    let k := s.slice slice.val
    match k.ended with
    | [] => s
    | (look, miss) :: rest =>
      let s' := s.setSlice slice.val { k with ended := rest }
      if !k.thrash && decide (look * s.odNat 0x2400 4 < miss * 256) then
        ((s'.updSlice slice.val (fun k => { k with thrash := true })).odInc 0x2400 0x14).report
          (s.mkRec 0x03 0x01 0 0 noUnit (BitVec.ofNat 32 slice.val) noUnit 0 none 0)
      else if k.thrash && decide (miss * 256 ≤ look * s.odNat 0x2400 5) then
        s'.updSlice slice.val (fun k => { k with thrash := false })
      else s')

/-- BDR_IMM_FENCE_WRITE (R264). -/
def execBdrImmFenceWrite (w : Wr) (s : State) : Out :=
  .next (match s.takeWr w (inCtrl (fun c => c / 8 == 0x408_0208 / 8)) with
    | (s, none) => s
    | (s, some _) => { s with bed := { s.bed with fence := true } })

/-- IMM_FENCE_DONE (R264): every remote line has been invalidated. -/
def execImmFenceDone (s : State) : Out :=
  .next (
    if !s.bed.fence then s
    else
      let s := (List.range 8).foldl (fun s k => s.updSlice k (fun c => { c with lines := c.lines.filter (fun l => !l.remote) })) s
      { s with bed := { s.bed with fence := false } })

end Sys2Proof.Machine
end

