-- ==== Sys2Proof/Machine/ArrayMath.lean ====
section
/-! DEFINITION. The arithmetic of one array result: MAC (R55–R64) and the distance, comparison and tropical modes
(R82–R92), as functions of the operand bytes. -/

namespace Sys2Proof

/-- The format class of an operand format code (R57): 0 F4, 1 I4, 2 F8, 3 I8, 4 F16, 5 I16, as ARR_STATUS.W_CLASS. -/
def fmtClass : Nat → Nat
  | 0 => 0 | 1 => 2 | 2 => 2 | 3 => 1 | 4 => 3 | 5 => 4 | 6 => 4 | _ => 5

/-- The bits of one element of a format code. -/
def fmtBits : Nat → Nat
  | 0 => 4 | 3 => 4 | 1 => 8 | 2 => 8 | 4 => 8 | _ => 16

/-- Whether a format code is an integer format. -/
def fmtIsInt (f : Nat) : Bool := f == 3 || f == 4 || f == 7

/-- The floating-point format of a code (R57). -/
def fmtOf : Nat → FFmt
  | 0 => fmtE2M1 | 1 => fmtE4M3 | 2 => fmtE5M2 | 5 => fmtBF16 | _ => fmtFP16

/-- Element i of a byte string of elements of nb bits; of two 4-bit elements in a byte, the even one is in bits 3:0
(R60). -/
def elemCode (bs : List Byte) (nb i : Nat) : Nat :=
  if nb = 4 then natFld ((bs.getD (i / 2) 0).toNat) (4 * (i % 2)) 4
  else if nb = 8 then (bs.getD i 0).toNat
  else leNat (takeAt bs (2 * i) 2)

/-- The integer value of an element code. -/
def intElem (nb code : Nat) : Int := sgn nb code

/-- One 32-element block of a floating-point MAC pass (R61, R62): its exact value scaled by the E8M0 bytes, or NaN or
an infinity. -/
def macBlock (as ws : List FVal) (sa sw : Nat) : FVal :=
  let ps := List.zipWith FVal.mul as ws
  if sa = 0xFF ∨ sw = 0xFF then .nan
  else if ps.any FVal.isNan then .nan
  else
    let pinf := ps.any (fun p => p == .inf false)
    let ninf := ps.any (fun p => p == .inf true)
    if pinf && ninf then .nan
    else if pinf then .inf false
    else if ninf then .inf true
    else
      let s := ps.foldl (fun acc p => match p with | .fin _ v => Dy.add acc v | _ => acc) { m := 0, e := 0 }
      .ofDy (s.scale ((sa : Int) + sw - 254))

/-- One 32-element block of a floating-point L1 or L2SQ pass (R85, R86). -/
def distBlock (sq : Bool) (as ws : List FVal) : FVal :=
  let pairs := List.zip as ws
  if pairs.any (fun p => p.1.isNan || p.2.isNan) then .nan
  else if pairs.any (fun p => match p with | (.inf a, .inf b) => a == b | _ => false) then .nan
  else if pairs.any (fun p => p.1.isInf || p.2.isInf) then .inf false
  else
    let term := fun (p : FVal × FVal) => match p with
      | (.fin _ x, .fin _ y) => let d := Dy.sub x y; if sq then Dy.mul d d else d.abs
      | _ => { m := 0, e := 0 }
    .ofDy (pairs.foldl (fun acc p => Dy.add acc (term p)) { m := 0, e := 0 })

/-- The blocks of a floating-point pass accumulated in ascending order, one FP32 rounding each (R61). -/
def accumFp : FVal → List FVal → FVal
  | acc, [] => acc
  | acc, b :: bs => accumFp (roundFP32 (FVal.add acc b)) bs

/-- An integer saturated to n-bit two's complement, and whether it saturated. -/
def satInt (n : Nat) (x : Int) : Int × Bool :=
  if x < -(2 ^ (n - 1)) then (-(2 ^ (n - 1)), true)
  else if 2 ^ (n - 1) ≤ x then (2 ^ (n - 1) - 1, true) else (x, false)

/-- The blocks of an integer pass accumulated in ascending order with saturation (R64). -/
def accumInt : Int × Bool → List Int → Int × Bool
  | acc, [] => acc
  | (a, f), b :: bs => let (y, g) := satInt 32 (a + b); accumInt (y, f || g) bs

/-- A list cut into blocks of 32 (fuel: the number of blocks). -/
def blocks32 {α : Type} : Nat → List α → List (List α)
  | 0, _ => []
  | n + 1, xs => xs.take 32 :: blocks32 n (xs.drop 32)

/-- What one result of a pass depends on: MODE, formats, shape and the operand bytes of its row and column. -/
structure ResultIn where
  mode : Nat
  wFmt : Nat
  aFmt : Nat
  outFmt : Nat
  bscale : Bool
  intScale : Bool
  accumulate : Bool
  arg : Nat
  kBlocks : Nat
  a : List Nat            -- element codes of the row
  w : List Nat            -- element codes of the column
  sa : List Nat           -- A scale bytes of the row (BSCALE)
  sw : List Nat           -- W scale bytes of the column (BSCALE)
  colScale : Int          -- column scale (INT_SCALE)
  prev : List Byte        -- the previous bytes of OUT[m][n]
  deriving DecidableEq, Repr

/-- A result: its bytes and the flags it sets (saturation, NaN, infinity). -/
structure ResultOut where
  bytes : List Byte
  sat : Bool
  nan : Bool
  inf : Bool
  deriving DecidableEq, Repr

/-- The bytes and flags of a floating-point result in FP32 or BF16 (R61, R63). -/
def fpResult (outFmt : Nat) (acc : FVal) : ResultOut :=
  let v := if outFmt = 2 then roundBF16 acc else acc
  let bytes := if outFmt = 2 then leBytes 2 (fmtBF16.encode acc) else leBytes 4 (encFP32 acc).toNat
  { bytes := bytes, sat := false, nan := v.isNan, inf := v.isInf }

/-- The value a previous result of FP32 enters with. -/
def prevFP32 (r : ResultIn) : FVal :=
  if r.accumulate then fmtFP32.decode (leNat (r.prev.take 4)) else .fin false { m := 0, e := 0 }

/-- The value a previous result of INT32 enters with. -/
def prevInt32 (r : ResultIn) : Int := if r.accumulate then sgn 32 (leNat (r.prev.take 4)) else 0

/-- A floating-point MAC, L1 or L2SQ result (R61, R85). -/
def fpPass (r : ResultIn) : ResultOut :=
  let as := blocks32 r.kBlocks (r.a.map (fmtOf r.aFmt).decode)
  let ws := blocks32 r.kBlocks (r.w.map (fmtOf r.wFmt).decode)
  let sa := if r.bscale then r.sa else List.replicate r.kBlocks 0x7F
  let sw := if r.bscale then r.sw else List.replicate r.kBlocks 0x7F
  let bs := if r.mode = 0 then
      List.zipWith (fun (p : List FVal × List FVal) (q : Nat × Nat) => macBlock p.1 p.2 q.1 q.2)
        (List.zip as ws) (List.zip sa sw)
    else List.zipWith (distBlock (r.mode == 2)) as ws
  fpResult r.outFmt (accumFp (prevFP32 r) bs)

/-- The term of one element pair of an integer pass: product, |difference|, squared difference or differing bits
(R64, R85, R87). -/
def intTerm (mode nb : Nat) (a w : Nat) : Int :=
  let x := intElem nb a
  let y := intElem nb w
  if mode = 0 then x * y
  else if mode = 1 then ((x - y).natAbs : Int)
  else if mode = 2 then (x - y) * (x - y)
  else (popCount 16 (a ^^^ w) : Int)

/-- An integer MAC, L1, L2SQ or HAMMING result (R64, R85, R87); with INT_SCALE the column scale is applied and the exact
product rounded once. -/
def intPass (r : ResultIn) : ResultOut :=
  let nb := fmtBits r.aFmt
  let terms := List.zipWith (intTerm r.mode nb) r.a r.w
  let sums := (blocks32 r.kBlocks terms).map (fun b => b.foldl (· + ·) 0)
  let (acc, sat) := accumInt (prevInt32 r, false) sums
  if r.intScale then
    let out := fpResult 0 (.ofDy { m := acc * r.colScale, e := -16 })
    { out with sat := sat }
  else { bytes := leBytes 4 (BitVec.ofInt 32 acc).toNat, sat := sat, nan := false, inf := false }

/-- A tropical candidate or best value: an INT16 number or a floating-point value. -/
inductive TVal where
  | int (v : Int)
  | fp (v : FVal)
  deriving DecidableEq, Repr

/-- Whether a mode takes minima (MINPLUS, ARGMIN). -/
def modeIsMin (mode : Nat) : Bool := mode == 4 || mode == 6

/-- The absorbing value of a mode and element kind. -/
def absorbing (mode : Nat) (isInt : Bool) : TVal :=
  if isInt then .int (if modeIsMin mode then 0x7FFF else -0x8000) else .fp (.inf (!modeIsMin mode))

/-- The INT16 candidate of R88 and whether it sets SAT_INT. -/
def candInt (isMin : Bool) (a w : Int) : TVal × Bool :=
  let ab : Int := if isMin then 0x7FFF else -0x8000
  if a = ab ∨ w = ab then (.int ab, false)
  else
    let s := a + w
    if isMin then
      if 0x7FFF ≤ s then (.int 0x7FFF, false) else if s < -0x8000 then (.int (-0x8000), true) else (.int s, false)
    else
      if s ≤ -0x8000 then (.int (-0x8000), false) else if 0x7FFF < s then (.int 0x7FFF, true) else (.int s, false)

/-- The BF16 candidate of R88, rounded once to the output format; a sum of zero is +0. -/
def candFp (isMin : Bool) (outFmt : Nat) (a w : FVal) : TVal :=
  let ab : FVal := .inf (!isMin)
  if a.isNan || w.isNan then .fp .nan
  else if a == ab || w == ab then .fp ab
  else
    let s := FVal.add a w
    let s := if s.isZero then .fin false { m := 0, e := 0 } else s
    .fp (if outFmt = 2 then roundBF16 s else roundFP32 s)

def TVal.isNan : TVal → Bool | .fp v => v.isNan | .int _ => false

/-- The comparison `beats` of R89. -/
def TVal.beats (isMin : Bool) : TVal → TVal → Bool
  | .int a, .int b => if isMin then decide (a < b) else decide (b < a)
  | .fp a, .fp b => if isMin then FVal.lt a b else FVal.lt b a
  | _, _ => false

/-- Equality of R89 (−0 equals +0). -/
def TVal.eqv : TVal → TVal → Bool
  | .int a, .int b => decide (a = b)
  | .fp a, .fp b => FVal.eqv a b
  | _, _ => false

/-- wins(c, i, v, j) of R89; indices are integers so that the −1 of a previous value lies below every index. -/
def wins (isMin : Bool) (c : TVal) (i : Int) (v : TVal) (j : Int) : Bool :=
  if c.isNan then (!v.isNan) || decide (i < j)
  else if v.isNan then false
  else if c.beats isMin v then true
  else c.eqv v && decide (i < j)

/-- The loop of R89 over the candidates with their indices. -/
def tropLoop (isMin : Bool) : TVal × Int → List (TVal × Int) → TVal × Int
  | best, [] => best
  | (v, j), (c, i) :: cs => tropLoop isMin (if wins isMin c i v j then (c, i) else (v, j)) cs

/-- The code of a tropical value in the output format (INT16 as 16 bits). -/
def TVal.code (outFmt : Nat) : TVal → Nat
  | .int v => (BitVec.ofInt 16 v).toNat
  | .fp v => if outFmt = 2 then fmtBF16.encode v else fmtFP32.encode v

/-- NONE of R89. -/
def idxNone : Int := 0xFFFF_FFFF

/-- The previous VALUE of a tropical result (R89, R92). -/
def tropPrev (r : ResultIn) (isInt : Bool) : TVal :=
  let bs := if 6 ≤ r.mode then r.prev.drop 4 else r.prev
  if isInt then .int (sgn 16 (leNat (bs.take 2)))
  else if r.outFmt = 2 then .fp (fmtBF16.decode (leNat (bs.take 2)))
  else .fp (fmtFP32.decode (leNat (bs.take 4)))

/-- The previous bits of a tropical VALUE, as written back when the previous value wins. -/
def tropPrevCode (r : ResultIn) : Nat :=
  let bs := if 6 ≤ r.mode then r.prev.drop 4 else r.prev
  if r.outFmt = 0 then leNat (bs.take 4) else leNat (bs.take 2)

/-- A MINPLUS, MAXPLUS, ARGMIN or ARGMAX result (R88–R92). Cell rows beyond the K extent hold the identity and give the
absorbing value as their candidate (R84). -/
def tropPass (r : ResultIn) : ResultOut :=
  let isMin := modeIsMin r.mode
  let idx := decide (6 ≤ r.mode)
  let isInt := fmtIsInt r.aFmt
  let ab := absorbing r.mode isInt
  let cands : List (TVal × Bool) := List.zipWith (fun a w =>
    if isInt then candInt isMin (intElem 16 a) (intElem 16 w)
    else (candFp isMin r.outFmt (fmtBF16.decode a) (fmtBF16.decode w), false)) r.a r.w
  let pad := List.replicate (256 - cands.length) (ab, false)
  let all := cands ++ pad
  let base : Int := if idx then (r.arg : Int) * 256 else 0
  let indexed := List.zipWith (fun (c : TVal × Bool) (k : Nat) => (c.1, base + (k : Int))) all (List.range 256)
  let start : TVal × Int :=
    if r.accumulate then (tropPrev r isInt, if idx then (leNat (r.prev.take 4) : Int) else -1) else (ab, idxNone)
  let (v, i) := tropLoop isMin start indexed
  let kept := r.accumulate && decide (i = start.2) && decide (v = start.1)
  let i := if v.eqv ab then idxNone else i
  let code := if v.isNan then v.code r.outFmt else if kept then tropPrevCode r else v.code r.outFmt
  let sat := cands.any (fun c => c.2)
  let opp := if isInt then false else v == .fp (.inf isMin)
  let body := if idx then
      leBytes 4 i.toNat ++ (if isInt then leBytes 4 (BitVec.ofInt 32 (sgn 16 code)).toNat
        else if r.outFmt = 2 then leBytes 2 code ++ [0, 0] else leBytes 4 code)
    else if isInt ∨ r.outFmt = 2 then leBytes 2 code else leBytes 4 code
  { bytes := body, sat := sat, nan := v.isNan, inf := opp }

/-- One result of a pass. -/
def passResult (r : ResultIn) : ResultOut :=
  if 4 ≤ r.mode then tropPass r
  else if r.mode = 3 ∨ fmtIsInt r.aFmt then intPass r
  else fpPass r

end Sys2Proof
end

