-- ==== Sys2Proof/Machine/Scoreboard.lean ====
section
/-! DEFINITION. The scoreboard (R132–R138): registrations, readiness, release. -/

namespace Sys2Proof.Machine

/-- One naming of a tag by an operation, before namings of one tag are merged. -/
structure Naming where
  tag   : Nat
  rdIn  : Bool
  rdOut : Bool
  wrIn  : Bool
  wrOut : Bool
  ev    : SbEvent
  deriving DecidableEq, Repr

def Naming.read (tag : Nat) (ev : SbEvent) : Naming :=
  { tag := tag, rdIn := true, rdOut := false, wrIn := false, wrOut := false, ev := ev }
def Naming.write (tag : Nat) (ev : SbEvent) : Naming :=
  { tag := tag, rdIn := false, rdOut := false, wrIn := true, wrOut := false, ev := ev }
def Naming.out (tag : Nat) (acc : Bool) : Naming :=
  { tag := tag, rdIn := false, rdOut := acc, wrIn := false, wrOut := true, ev := .results }

/-- The registrations of an operation (R132): one per tag, released at the latest event of the namings it covers. -/
def mergeNamings (op : Nat) (unit : Who) (isPass : Bool) : List Naming → List SbReg
  | [] => []
  | n :: ns =>
    let same := ns.filter (fun x => x.tag == n.tag)
    let all := n :: same
    let r : SbReg :=
      { op := op, unit := unit, isPass := isPass, tag := n.tag,
        rdIn := all.any (fun x => x.rdIn), rdOut := all.any (fun x => x.rdOut),
        wrIn := all.any (fun x => x.wrIn), wrOut := all.any (fun x => x.wrOut),
        pend := all.foldl (fun l x => insertNew l x.ev) [] }
    r :: (mergeNamings op unit isPass ns).filter (fun x => x.tag != n.tag)

/-- The namings of a pass (R132). -/
def Pd.namings (d : Pd) : List Naming :=
  [.read d.tagA .lastRow] ++ (if d.reload = 2 then [] else [.read d.tagW .shadow]) ++ [.out d.tagOut d.accumulate]

/-- The namings of a DMA descriptor. -/
def Dd.namings (d : Dd) : List Naming :=
  (if d.tsrcEn then [.read d.tagSrc .srcRead] else []) ++ (if d.tdstEn then [.write d.tagDst .dstDone] else [])

/-- The namings of a kernel. -/
def Kl.namings (k : Kl) : List Naming :=
  k.rtags.map (fun t => .read t .kernelEnd) ++ k.wtags.map (fun t => .write t .kernelEnd)

def SbReg.isRead (r : SbReg) : Bool := r.rdIn || r.rdOut
def SbReg.isWrite (r : SbReg) : Bool := r.wrIn || r.wrOut

/-- Whether operation `op` may begin to read under a tag (R134); `asOut` marks the previous values that an accumulating
pass reads under its TAG_OUT. -/
def mayRead (sb : List SbReg) (op tag : Nat) (asOut : Bool) : Bool :=
  sb.all (fun r => !(r.tag == tag && decide (r.op < op) && (r.wrIn || (r.wrOut && !(asOut && r.isPass)))))

/-- Whether operation `op` may begin to write under a tag (R134); `asOut` marks the results of a pass under its TAG_OUT. -/
def mayWrite (sb : List SbReg) (op tag : Nat) (asOut : Bool) : Bool :=
  sb.all (fun r => !(r.tag == tag && decide (r.op < op) && (r.rdIn || (r.rdOut && !(asOut && r.isPass)))))

/-- The registrations after a release event of an operation. -/
def releaseEv (sb : List SbReg) (op : Nat) (ev : SbEvent) : List SbReg :=
  (sb.map (fun r => if r.op == op then { r with pend := without r.pend ev } else r)).filter (fun r => !r.pend.isEmpty)

def State.release (s : State) (t op : Nat) (ev : SbEvent) : State :=
  s.updTile t (fun x => { x with sb := releaseEv x.sb op ev })

/-- The core's claim on a tag. -/
def isClaim (r : SbReg) (tag : Nat) : Bool := r.tag == tag && r.pend == [.claim]
def hasClaim (sb : List SbReg) (tag : Nat) : Bool := sb.any (fun r => isClaim r tag)

/-- A set of tags as a word. -/
def tagMask (sb : List SbReg) (p : SbReg → Bool) : W64 :=
  BitVec.ofNat 64 ((List.range 64).foldl (fun a t => if sb.any (fun r => r.tag == t && p r) then a + 2 ^ t else a) 0)

/-- Whether both tag conditions of a DMA descriptor hold. -/
def Dd.tagsReady (d : Dd) (sb : List SbReg) (op : Nat) : Bool :=
  (!d.tsrcEn || mayRead sb op d.tagSrc false) && (!d.tdstEn || mayWrite sb op d.tagDst false)

/-- The tag that a waiting DMA descriptor waits on. -/
def Dd.waitTag (d : Dd) (sb : List SbReg) (op : Nat) : Nat :=
  if d.tsrcEn && !mayRead sb op d.tagSrc false then d.tagSrc else if d.tdstEn then d.tagDst else 0

/-- Whether the tags of a kernel let it start (R131). -/
def Kl.tagsReady (k : Kl) (sb : List SbReg) (op : Nat) : Bool :=
  k.rtags.all (fun t => mayRead sb op t false) && k.wtags.all (fun t => mayWrite sb op t false)

end Sys2Proof.Machine
end

