-- ==== Sys2Proof/Machine/Descriptors.lean ====
section
/-! DEFINITION. The pass, DMA and kernel launch descriptors: fields and checks (R55–R58, R66–R69, R74, R82, R83, R128–R130). -/

namespace Sys2Proof.Machine

def wd (ws : List W64) (i : Nat) : W64 := ws.getD i 0

/-- The fields of a pass descriptor (R66). -/
def Pd.ofWords (ws : List W64) : Pd :=
  let c := wd ws 0; let sh := wd ws 1; let w := wd ws 2; let a := wd ws 3; let o := wd ws 4; let as := wd ws 5; let st := wd ws 7
  { words := ws, gen := fld c 62 2, modeArg := fld c 32 16, reload := fld c 17 2, intScale := bitOf c 16,
    bscale := bitOf c 15, accumulate := bitOf c 14, outFmt := fld c 12 2, aFmt := fld c 8 4, wFmt := fld c 4 4,
    mode := fld c 0 4, tagOut := fld sh 56 6, tagA := fld sh 48 6, tagW := fld sh 40 6, nCols := fld sh 24 9,
    kBlocks := fld sh 16 5, m := fld sh 0 16, wScaleAddr := fld w 32 23, wAddr := fld w 0 23, aStride := fld a 32 20,
    aAddr := fld a 0 23, outStride := fld o 32 20, outAddr := fld o 0 23, aScaleStride := fld as 32 16,
    aScaleAddr := fld as 0 23, streamBase := wd ws 6, lastUse := fld st 48 2, lineStride := fld st 32 16,
    streamLines := fld st 0 24 }

/-- The reserved bits of the words of a pass descriptor. -/
def pdReserved : List W64 :=
  [0x3FFF_0000_FFF8_0000, 0xC0C0_C0FE_00E0_0000, 0xFF80_0000_FF80_0000, 0xFFF0_0000_FF80_0000, 0xFFF0_0000_FF80_0000,
   0xFFFF_0000_FF80_0000, 0, 0xFFFC_0000_FF00_0000]

/-- Whether the words have a bit set that a mask list reserves. -/
def anyMasked (ws masks : List W64) : Bool := (List.zipWith (fun w m => decide (w &&& m ≠ 0)) ws masks).any id

/-- Bytes of one result (R82). -/
def Pd.outSize (d : Pd) : Nat := if 6 ≤ d.mode then 8 else if d.outFmt = 2 ∨ d.outFmt = 3 then 2 else 4

/-- Bytes of k elements of W. -/
def Pd.wBytes (d : Pd) (k : Nat) : Nat := k * fmtBits d.wFmt / 8

/-- The row size RB (R60). -/
def Pd.rb (d : Pd) : Nat := d.kBlocks * 32 * fmtBits d.aFmt / 8

/-- S, the steps per streamed row (R55, R83). -/
def Pd.steps (d : Pd) : Nat := if d.mode = 0 ∧ fmtClass d.wFmt = 4 then 2 else 1

/-- The permitted settings of MAC (R57, R58) and of the other modes (R82). -/
def Pd.settingsOk (d : Pd) : Bool :=
  let cw := fmtClass d.wFmt
  let f8 := decide ((d.wFmt = 1 ∨ d.wFmt = 2) ∧ (d.aFmt = 1 ∨ d.aFmt = 2))
  let fpOut := decide (d.outFmt = 0 ∨ (d.outFmt = 2 ∧ d.accumulate = false))
  if d.mode = 0 then
    decide (d.modeArg = 0) && decide (d.wFmt ≤ 6 ∧ d.aFmt ≤ 6) && decide (cw = fmtClass d.aFmt) &&
    (if cw = 0 then d.bscale && !d.intScale && fpOut
     else if cw = 2 then !d.intScale && fpOut
     else if cw = 4 then !d.bscale && !d.intScale && fpOut
     else !d.bscale && (if d.intScale then decide (d.outFmt = 0) && !d.accumulate else decide (d.outFmt = 1)))
  else if d.mode = 1 ∨ d.mode = 2 then
    !d.bscale && !d.intScale && decide (d.modeArg = 0) &&
    ((decide (d.wFmt = 4 ∧ d.aFmt = 4 ∧ d.outFmt = 1)) || (f8 && fpOut))
  else if d.mode = 3 then
    !d.bscale && !d.intScale && decide (d.modeArg = 0 ∧ d.wFmt = 7 ∧ d.aFmt = 7 ∧ d.outFmt = 1)
  else
    !d.bscale && !d.intScale && (decide (d.modeArg = 0) || decide (6 ≤ d.mode)) &&
    (decide (d.wFmt = 7 ∧ d.aFmt = 7 ∧ d.outFmt = 3) || decide (d.wFmt = 5 ∧ d.aFmt = 5 ∧ (d.outFmt = 2 ∨ d.outFmt = 0)))

/-- Check 3 of R68. -/
def Pd.fieldsOk (d : Pd) : Bool :=
  decide (1 ≤ d.m) && decide (1 ≤ d.nCols ∧ d.nCols ≤ 256) &&
  decide (d.mode ≤ 7) && decide (d.wFmt ≤ 7 ∧ d.aFmt ≤ 7) && decide (d.reload ≤ 2) &&
  decide (1 ≤ d.kBlocks ∧ d.kBlocks ≤ (if d.mode = 0 ∧ fmtBits d.wFmt = 4 then 16 else 8)) &&
  decide (d.lastUse ≠ 3) &&
  (if d.streamLines = 0 then decide (wd d.words 6 = 0 ∧ wd d.words 7 = 0) else decide (1 ≤ d.lineStride)) &&
  d.settingsOk

def Pd.keep (d : Pd) : Bool := d.reload == 2

/-- The address and stride fields that the pass uses (R68), as first byte and byte count: A, W, A scales, W or column
scales, OUT. -/
def Pd.rangeA (d : Pd) : Nat × Nat := (d.aAddr, (d.m - 1) * d.aStride + d.rb)
def Pd.rangeW (d : Pd) : Option (Nat × Nat) := if d.keep then none else some (d.wAddr, d.wBytes (d.kBlocks * 32 * 256))
def Pd.rangeAS (d : Pd) : Option (Nat × Nat) :=
  if d.bscale then some (d.aScaleAddr, (d.m - 1) * d.aScaleStride + d.kBlocks) else none
def Pd.rangeWS (d : Pd) : Option (Nat × Nat) :=
  if d.keep then none
  else if d.intScale then some (d.wScaleAddr, 1024)
  else if d.bscale then some (d.wScaleAddr, d.kBlocks * 256) else none
def Pd.rangeOut (d : Pd) : Nat × Nat := (d.outAddr, (d.m - 1) * d.outStride + d.nCols * d.outSize)

/-- Check 4 of R68. -/
def Pd.alignOk (d : Pd) : Bool :=
  decide (d.aAddr % 64 = 0 ∧ d.aStride % 64 = 0 ∧ d.rb ≤ d.aStride) &&
  decide (d.outAddr % 64 = 0 ∧ d.outStride % 64 = 0 ∧ d.nCols * d.outSize ≤ d.outStride) &&
  (d.keep || decide (d.wAddr % 256 = 0)) &&
  (!d.bscale || decide (d.aScaleAddr % 16 = 0 ∧ d.aScaleStride % 16 = 0 ∧ d.kBlocks ≤ d.aScaleStride)) &&
  (d.rangeWS.isNone || decide (d.wScaleAddr % 64 = 0)) &&
  (d.streamLines == 0 || decide (d.streamBase.toNat % 256 = 0))

/-- The size of a tile store. -/
def storeSize : Nat := 0x60_0000

def inStore (r : Nat × Nat) : Bool := decide (r.1 + r.2 ≤ storeSize)
def overlap (a b : Nat × Nat) : Bool := decide (a.1 < b.1 + b.2 ∧ b.1 < a.1 + a.2)

def Pd.operands (d : Pd) : List (Nat × Nat) := [d.rangeA] ++ d.rangeW.toList ++ d.rangeAS.toList ++ d.rangeWS.toList

/-- The weights a KEEP pass would use fit it (R74). -/
def Pd.keepOk (d : Pd) (last : Option Pd) : Bool :=
  match last with
  | none => false
  | some p => decide (p.wFmt = d.wFmt ∧ p.bscale = d.bscale ∧ p.intScale = d.intScale ∧ p.kBlocks = d.kBlocks
      ∧ p.mode = d.mode)

/-- The checks of R68: the code of class 0x07 of the first that fails. -/
def Pd.check (d : Pd) (last : Option Pd) : Option Nat :=
  if d.gen ≠ 0 then some 1
  else if anyMasked d.words pdReserved then some 2
  else if !d.fieldsOk then some 3
  else if !d.alignOk then some 4
  else if !((d.operands ++ [d.rangeOut]).all inStore) then some 5
  else if d.operands.any (overlap d.rangeOut) then some 6
  else if d.keep && !d.keepOk last then some 7
  else none

/-- The fields of a DMA descriptor (R128). -/
def Dd.ofWords (ws : List W64) : Dd :=
  let c := wd ws 0; let sh := wd ws 3
  { words := ws, gen := fld c 62 2, tsrcEn := bitOf c 57, tdstEn := bitOf c 56, tagDst := fld c 50 6, tagSrc := fld c 42 6,
    lastUse := fld c 40 2, redFmt := fld c 36 4, rows := fld c 16 16, op := fld c 0 4, src := wd ws 1, dst := wd ws 2,
    dstStride := fld sh 42 22, srcStride := fld sh 20 22, rowBytes := fld sh 0 20 }

def ddReserved : List W64 := [0x3C03_000F_0000_FFF0, 0, 0, 0]

/-- Check 3 of R129, with the rule of R256. -/
def Dd.fieldsOk (d : Dd) : Bool :=
  decide (1 ≤ d.rows) && decide (d.rowBytes % 8 = 0 ∧ 8 ≤ d.rowBytes) &&
  decide (d.op ≤ 4 ∧ d.lastUse ≠ 3) &&
  (if d.op = 2 then (redSizes d.redFmt).isSome else decide (d.redFmt = 0)) &&
  (decide (d.rows ≤ 1) || decide (d.rowBytes ≤ d.dstStride * 8)) &&
  (!(decide (d.op = 2 ∧ 8 ≤ d.redFmt)) || decide (d.rows ≤ 1) || decide (2 * d.rowBytes ≤ d.dstStride * 8)) &&
  (d.op != 1 || !d.tsrcEn) &&
  (d.op != 3 || decide (d.rowBytes = 32 ∧ d.srcStride = 4 ∧ d.dst = 0)) &&
  (d.op != 4 || (decide (d.rows = 1 ∧ d.rowBytes = 8) && !d.tsrcEn && !d.tdstEn &&
    decide (1 ≤ d.src.toNat ∧ d.src.toNat ≤ 0xFFFF_FFFF)))

/-- Check 4 of R129. -/
def Dd.alignOk (d : Dd) : Bool :=
  (!(d.op == 0 || d.op == 2) || decide (d.src.toNat % 8 = 0)) && (d.op != 3 || decide (d.src.toNat % 32 = 0)) &&
  decide (d.dst.toNat % 8 = 0)

/-- The checks of R129: the code of class 0x05. -/
def Dd.check (d : Dd) : Option Nat :=
  if d.gen ≠ 0 then some 0x06
  else if anyMasked d.words ddReserved then some 0x07
  else if !d.fieldsOk then some 0x08
  else if !d.alignOk then some 0x09
  else none

/-- The valid tags of four tag bytes. -/
def tagBytes (x : Nat) : List Nat :=
  ((List.range 4).filter (fun i => x.testBit (8 * i + 7))).map (fun i => natFld x (8 * i) 6)

/-- The fields of a kernel launch descriptor (R130). -/
def Kl.ofWords (ws : List W64) : Kl :=
  let c := wd ws 0; let g := wd ws 3
  { words := ws, gen := fld c 62 2, maskedZero := bitOf c 40, seqMask := fld c 32 8, groups := fld c 0 16,
    entry := wd ws 1, arg := wd ws 2, wtags := tagBytes (fld g 32 32), rtags := tagBytes (fld g 0 32) }

def klReserved : List W64 := [0x3FFF_FE00_FFFF_0000, 0, 0, 0x4040_4040_4040_4040]

/-- The checks of R130: the code of class 0x05. -/
def Kl.check (k : Kl) : Option Nat :=
  if k.gen ≠ 0 then some 0x0A
  else if anyMasked k.words klReserved then some 0x0B
  else if !(decide (k.seqMask ≠ 0 ∧ 1 ≤ k.groups ∧ k.entry.toNat % 4 = 0)) then some 0x0C
  else none

end Sys2Proof.Machine
end

