-- ==== Sys2Proof/Machine/RegImage.lean ====
section
/-! DEFINITION. What the registers of the control space read as, from the state (the register tables of all chapters). -/

namespace Sys2Proof.Machine

/-! Tiles (R115, R116). -/

/-- Whether a port holds a request of a master. -/
def Port.holds (p : Port) (m : Nat) : Bool :=
  p.queues.any (fun e => e.2.any (fun r => r.mid == m)) || p.ret.any (fun e => e.2.mid == m) ||
  (match p.transfer with | some (_, r) => r.mid == m | none => false)

/-- A request that a unit of the tile has outstanding, at its home or at a port (R116, R317). A direct read whose data has come is
none. -/
def State.tileReqs (s : State) (t : Nat) : Bool :=
  s.reqs.any (fun r => r.who.tile == some t && !(r.direct && r.st.ended)) || s.ports.any (fun e => e.2.holds t)

/-- Queue and engines of the tile are empty: passes, DMA descriptors, kernels. -/
def Tile.queuesEmpty (x : Tile) : Bool :=
  x.arr.passes.isEmpty && x.movers.all (fun m => m.2.isEmpty) && x.tge.kq.isEmpty && x.tge.kern.isNone

/-- A core in state 5 counts as stopped once its task has aborted (R116). -/
def Core.stopped (c : Core) : Bool := c.st == 0 || c.st == 5

/-- TILE_STATUS.IDLE (R116). DEDUCED: log entry 125. -/
def State.tileIdle (s : State) (t : Nat) : Bool :=
  let x := s.tile t
  x.task.isNone && x.core.stopped && x.queuesEmpty && !s.tileReqs t && x.sb.isEmpty && x.arr.ramp == 0

def Tile.mover (x : Tile) (m : Nat) : List DmaEnt := SMap.get [] x.movers m

/-- Passes in the pass queue: those that have not admitted their last row. -/
def Arr.queued (a : Arr) : List Pass := a.passes.filter (fun p => decide (p.rowsIn < p.pd.m) && !p.cut)

/-- Passes that stream or drain. -/
def Arr.busy (a : Arr) : Bool := a.passes.any (fun p => p.st == .streaming || p.st == .draining)

def State.tileIdReg (s : State) (t : Nat) : W64 :=
  let x := s.tile t
  place (if x.task.isSome then x.ctx else 0) 48 8 ||| place x.epoch 32 16 ||| place (sectorOf t) 21 3 |||
    place (slotOf t) 16 5 ||| place x.logical 8 8 ||| place t 0 8

def State.tileStatusReg (s : State) (t : Nat) : W64 :=
  let x := s.tile t
  let dq := (List.range 4).foldl (fun a m => max a (x.mover m).length) 0
  place x.sb.length 20 9 ||| place (x.tge.kq.length + (if x.tge.kern.isSome then 1 else 0)) 17 3 ||| place dq 12 5 |||
    place x.core.st 5 3 ||| placeB x.task.isSome 1 ||| placeB (s.tileIdle t) 0

/-- Whether the source of the Riddle request number i holds for a tile's array (R107): start-up hold, region hold, test
force. The array of sector n lies in Upper Face region 8 + n. -/
def State.riddleSource (s : State) (t : Nat) (i : Nat) : Bool :=
  if i = 0 then s.startupHold
  else if i = 1 then (s.region (8 + sectorOf t)).hold
  else (s.odNat 0x2A00 9).testBit (sectorOf t)

def State.riddle (s : State) (t : Nat) : Bool := s.riddleSource t 0 || s.riddleSource t 1 || s.riddleSource t 2

/-- ARR_STATUS (R80). DESIGN CHOICE: log entry 152. -/
def Arr.statusReg (a : Arr) : W64 :=
  placeB a.poison 27 ||| placeB a.satInt 26 ||| placeB a.infOut 25 ||| placeB a.nanOut 24 ||| place a.queued.length 16 3 |||
  placeB (a.ramp == 4) 9 |||
  (match a.stat with | some w => place (fmtClass w.wFmt) 6 3 ||| place w.mode 2 4 ||| placeB (!a.error) 1 | none => 0) |||
  placeB a.busy 0

def State.rampReg (s : State) (t : Nat) : W64 :=
  let a := s.arr t
  placeB a.token 15 ||| placeB a.urgent 14 ||| placeB (s.riddle t) 13 ||| place a.ramp 8 3 ||| place a.blocks 0 4

/-- TILE_DMA_STATUS: the head descriptor is the first that has not issued all its requests (R139). -/
def Tile.dmaStatusReg (x : Tile) (m : Nat) : W64 :=
  let q := x.mover m
  let wait := match q.find? (fun e => !e.issued) with
    | some e => if !e.started && !e.dd.tagsReady x.sb e.op then some (e.dd.waitTag x.sb e.op) else none
    | none => none
  place (wait.getD 0) 8 6 ||| placeB wait.isSome 7 ||| placeB (q.any (fun e => e.started)) 6 ||| place q.length 0 5

def Tge.statusReg (g : Tge) : W64 :=
  place g.slots.length 32 7 ||| placeB g.deadRead 7 ||| placeB g.satInt 6 ||| placeB g.nanOut 5 ||| placeB g.infOut 4 |||
  placeB g.kern.isSome 1 ||| (match g.kern with | some k => placeB k.kl.maskedZero 0 | none => 0)

def Dbg.statusReg (d : Dbg) : W64 :=
  place d.halts 32 32 ||| placeB d.notHalted 18 ||| placeB d.dead 17 ||| placeB d.drainLate 16 ||| place d.bpHit 8 2 |||
  place d.cause 4 4 ||| place d.state 0 3

/-- A register of the tile control block. DBG_RDATA has a row of its own and reads zero here. -/
def State.tileReg (s : State) (t o : Nat) : W64 :=
  let x := s.tile t
  if o = 0x0000 then s.tileIdReg t
  else if o = 0x0008 then s.tileStatusReg t
  else if o = 0x0010 then x.rate
  else if o = 0x0018 then place x.vbSpares 40 8 ||| place (x.vbBad0 + x.vbBad1) 16 14 ||| place x.vbWidth 8 2 ||| placeB x.vbPaused 0
  else if o = 0x0100 then x.core.fault
  else if o = 0x0108 then x.core.faultPc
  else if o = 0x0110 then place x.core.timeout 0 32
  else if o = 0x0200 then tagMask x.sb SbReg.isWrite
  else if o = 0x0208 then tagMask x.sb SbReg.isRead
  else if o = 0x0210 then BitVec.ofNat 64 ((List.range 64).foldl (fun a g => if hasClaim x.sb g then a + 2 ^ g else a) 0)
  else if 0x0300 ≤ o ∧ o < 0x0320 ∧ o % 8 = 0 then x.dmaStatusReg ((o - 0x300) / 8)
  else if o = 0x0400 then x.arr.statusReg
  else if o = 0x0408 then place x.arr.stallCount 32 32 ||| place x.arr.waveCount 0 32
  else if o = 0x0410 then BitVec.ofNat 64 x.arr.stallSteps
  else if o = 0x0418 then s.rampReg t
  else if o = 0x0420 then place x.arr.tokenWait 32 32 ||| place x.arr.entries 16 16 ||| place x.arr.ramps 0 16
  else if o = 0x0800 then x.tge.statusReg
  else if o = 0x0808 then x.tge.fault
  else if o = 0x0810 then x.tge.faultPc
  else if o = 0x0818 then BitVec.ofNat 64 x.tge.issued
  else if o = 0x0820 then place x.tge.hits 32 32 ||| place x.tge.portStalls 0 32
  else if o = 0x1000 then x.dbg.ctl
  else if o = 0x1008 then x.dbg.statusReg
  else if 0x1010 ≤ o ∧ o < 0x1030 ∧ o % 8 = 0 then SMap.get 0 x.dbg.bp ((o - 0x1010) / 8)
  else if o = 0x1030 then x.dbg.rsel
  else if o = 0x1040 then BitVec.ofNat 64 x.dbg.busy
  else if o = 0x1048 then BitVec.ofNat 64 x.dbg.array
  else if o = 0x1050 then BitVec.ofNat 64 x.dbg.stall
  else if o = 0x1058 then place x.dbg.corrected 32 32 ||| place x.dbg.uncorrected 0 32
  else 0

/-- Whether an offset of the tile block below 0x1000 is a register; the others are reserved (R115). -/
def tileRegExists (o : Nat) : Bool :=
  [0x0000, 0x0008, 0x0010, 0x0018, 0x0100, 0x0108, 0x0110, 0x0200, 0x0208, 0x0210, 0x0300, 0x0308, 0x0310, 0x0318,
   0x0400, 0x0408, 0x0410, 0x0418, 0x0420, 0x0800, 0x0808, 0x0810, 0x0818, 0x0820].contains o

/-! Bedrock and HBM. -/

/-- Banks of a slice with an operation in progress or queued. -/
def State.banksBusy (s : State) (n : Nat) : Nat :=
  (s.bed.banks.filter (fun b => b.1 / 64 == n && (b.2.busy || !b.2.queue.isEmpty))).length

def State.sliceReg (s : State) (n o : Nat) : W64 :=
  let k := s.slice n
  if o = 0x000 then
    place k.missPeak 32 10 ||| place k.misses.length 12 10 ||| placeB (s.noAlloc n) 2 ||| placeB k.thrash 1 ||| placeB s.hasLlc 0
  else if o = 0x008 then place k.winMiss 32 32 ||| place k.winLook 0 32
  else if o = 0x010 then place k.hits 32 32 ||| place k.missCount 0 32
  else if o = 0x018 then place k.joins 32 32 ||| place k.pinDenied 0 32
  else if o = 0x020 then place k.hoistFills 32 32 ||| place k.rereads 0 32
  else if o = 0x100 then
    placeB k.ropStuck 17 ||| placeB k.ropOverflow 16 ||| place k.submit.length 8 7 ||| place (s.banksBusy n) 0 7
  else if o = 0x108 then place k.ops 32 32 ||| place k.ropCorrected 0 32
  else if o = 0x110 then place k.ropPoison 32 32 ||| place k.windowWaits 0 32
  else if o = 0x200 then place k.bucket 32 16 ||| placeB k.sweepDone 0
  else if o = 0x208 then place k.corrected 32 32 ||| place k.uncorrected 0 32
  else if o = 0x210 then k.lastCe
  else 0

def State.pinHintAt (s : State) (n : Nat) : Pin := SMap.get Pin.init s.bed.pins n

/-- The device block of Bedrock; a read of BDR_IMM_FENCE has its answer when the fence has completed. -/
def State.bedReg (s : State) (o : Nat) : W64 :=
  if o < 0x200 then
    let p := s.pinHintAt (o / 0x20)
    if o % 0x20 = 0 then p.base
    else if o % 0x20 = 8 then p.limit
    else if o % 0x20 = 0x10 then placeB p.valid 63 ||| placeB p.walk 62
    else 0
  else if o = 0x200 then placeB s.bed.pinBad 1 ||| placeB s.bed.pinWhile 0
  else if o = 0x300 then BitVec.ofNat 64 s.bedLosc
  else if o = 0x308 then BitVec.ofNat 64 s.lfLosc
  else if o = 0x310 then BitVec.ofNat 64 s.ufLosc
  else if o = 0x318 then BitVec.ofNat 64 s.marks
  else if o = 0x320 then BitVec.ofNat 64 s.markLf
  else if o = 0x328 then BitVec.ofNat 64 s.markUf
  else 0

def State.hbmReg (s : State) (n o : Nat) : W64 :=
  let k := s.stack n
  if o = 0x00 then place k.bucket 32 16 ||| placeB k.fillBusy 2 ||| placeB k.sweepDone 1 ||| placeB k.good 0
  else if o = 0x08 then k.fenced
  else if o = 0x10 then place k.corrected 32 32 ||| place k.uncorrected 0 32
  else if o = 0x18 then BitVec.ofNat 64 k.die
  else if o = 0x20 then k.lastCe
  else if o = 0x28 then k.pattern
  else 0

/-! Ports (R304–R318). -/

def Port.reg (p : Port) (o : Nat) : W64 :=
  if o = 0x0000 then placeB p.lock 0
  else if o = 0x0008 then place p.windows 32 32 ||| placeB p.stuck 8 ||| place p.masked.length 0 8
  else if o = 0x0010 then p.quota
  else if o = 0x0018 then place p.lastMid 32 10 ||| place p.fired 0 32
  else if 0x100 ≤ o ∧ o < 0x280 then
    let i := (o - 0x100) / 0x18
    let f := (o - 0x100) % 0x18
    if f = 0 then BitVec.ofNat 64 (SMap.get 0 p.grants i)
    else if f = 8 then BitVec.ofNat 64 (SMap.get 0 p.waits i)
    else place (SMap.get 0 p.longest i) 0 32
  else if 0x1000 ≤ o ∧ o < 0x17E0 then
    let m := (o - 0x1000) / 8
    if midReserved m then 0 else place (BitVec.ofInt 24 (p.remainOf m)).toNat 32 24 ||| place (p.budgetOf m) 0 23
  else 0

/-! Access tables. -/

def ActTable.reg (t : ActTable) (o : Nat) : W64 :=
  if o < 0x2000 then
    let e := SMap.get { base := 0, limit := 0, ctrl := 0 : ActEntry } t.entries (o / 0x20)
    if o % 0x20 = 0 then e.base
    else if o % 0x20 = 8 then e.limit ||| 0xFFF
    else if o % 0x20 = 0x10 then e.ctrl
    else 0
  else if o = 0x2000 then placeB t.lock 0
  else if o = 0x2008 then placeB t.badEntry 1 ||| placeB t.whileValid 0
  else if o = 0x2018 then BitVec.ofNat 64 t.denyCount
  else 0

/-! Fabric and Hild. -/

def Link.ctlReg (l : Link) : W64 := placeB l.enable 0
def Link.statusReg (l : Link) : W64 :=
  place l.partnerDev 40 12 ||| place l.partnerLink 32 6 ||| place l.polarity 28 4 ||| placeB l.reversed 27 |||
  placeB l.urgent 26 ||| place (if l.state = 4 then l.version else 0) 16 4 ||| place l.heldCode 8 8 ||| place l.state 0 3
def Link.countReg (l : Link) (i : Nat) : W64 :=
  if i = 0 then BitVec.ofNat 64 l.tx
  else if i = 1 then BitVec.ofNat 64 l.rx
  else if i = 2 then place l.fec 32 32 ||| place l.bad 0 32
  else place l.replays 32 32 ||| place l.downs 0 32

def YBar.reg (b : YBar) (o : Nat) : W64 :=
  if o = 0 then (b.ctrl &&& 0xC01F_0FFF_0000_0000) ||| place b.arrived 16 16
  else BitVec.ofNat 64 (leNat ((List.range 4).flatMap (fun i => leBytes 2 (b.childId ((o - 8) / 2 + i)))))

def State.fabReg (s : State) (c : Nat) : W64 :=
  if c < 0x804_0000 then
    let l := s.link ((c - 0x800_0000) / 0x1000)
    let o := c % 0x1000
    if o = 0 then l.ctlReg else if o = 8 then l.statusReg else if 0x10 ≤ o ∧ o < 0x30 then l.countReg ((o - 0x10) / 8) else 0
  else if c < 0x810_0000 then 0
  else if c < 0x811_0000 then
    let r := s.route ((c - 0x810_0000) / 0x10)
    if c % 0x10 = 0 then r.mask else placeB r.valid 63
  else if c < 0x812_0000 then 0
  else
    let o := (c - 0x812_0000) % 0x40
    if o < 0x28 then (s.ybar ((c - 0x812_0000) / 0x40)).reg o else 0

def State.hldReg (s : State) (o : Nat) : W64 :=
  let l := s.link hildLink
  if o = 0 then l.ctlReg
  else place s.hild.dir.length 20 21 ||| place (if l.state = 4 then l.version else 0) 16 4 ||| place l.heldCode 8 8 |||
    placeB l.urgent 3 ||| place l.state 0 3

/-! Power, thermal. -/

def Region.reg (r : Region) : W64 :=
  place r.current 48 16 ||| place r.volt 24 12 ||| placeB r.hold 7 ||| placeB r.urgent 6 ||| placeB r.degraded 5 ||| place r.state 0 3

def s16 (x : Int) : Nat := (BitVec.ofInt 16 x).toNat

def ThGroup.reg (g : ThGroup) (o : Nat) : W64 :=
  if o = 0 then
    place (s16 g.eff) 48 16 ||| place (s16 g.meas) 32 16 ||| place (s16 g.rate) 16 16 ||| place g.hist.length 9 7 |||
    placeB g.suspect 8 ||| placeB g.rateThr 7 ||| placeB g.rateWarn 6 ||| place g.level 0 3
  else place (s16 g.inferred) 0 16

def State.thGroup (s : State) (g : Nat) : ThGroup := SMap.get ThGroup.init s.thm.groups g

/-- The value of the 64-bit register at an aligned control-space offset, outside the dictionary's mirror and windows
(WO fields read zero). -/
def State.regImage (s : State) (c : Nat) : W64 :=
  if c < 0x90_0000 then s.tileReg (c / 0x1_0000) (c % 0x1_0000)
  else if 0x400_0000 ≤ c ∧ c < 0x408_0000 then s.sliceReg ((c - 0x400_0000) / 0x1_0000) (c % 0x1_0000)
  else if 0x408_0000 ≤ c ∧ c < 0x408_0400 then s.bedReg (c - 0x408_0000)
  else if 0x500_0000 ≤ c ∧ c < 0x508_0000 then s.hbmReg ((c - 0x500_0000) / 0x1_0000) (c % 0x1_0000)
  else if 0x600_0000 ≤ c ∧ c < 0x65A_0000 then (s.port ((c - 0x600_0000) / 0x1_0000)).reg (c % 0x1_0000)
  else if 0x700_0000 ≤ c ∧ c < 0x714_0000 then (s.table ((c - 0x700_0000) / 0x1_0000)).reg (c % 0x1_0000)
  else if 0x800_0000 ≤ c ∧ c < 0x812_0800 then s.fabReg c
  else if 0x900_0000 ≤ c ∧ c < 0x900_0010 then s.hldReg (c - 0x900_0000)
  else if 0xA00_0000 ≤ c ∧ c < 0xA00_01A0 then (if c % 0x10 = 0 then (s.region ((c - 0xA00_0000) / 0x10)).reg else 0)
  else if 0xB00_0000 ≤ c ∧ c < 0xB00_0400 then (s.thGroup ((c - 0xB00_0000) / 0x10)).reg (c % 0x10)
  else if 0x9000_0000 ≤ c ∧ c < 0x9002_0000 then (if c % 0x2000 = 0 then SMap.get 0 s.od.sel ((c - 0x9000_0000) / 0x2000) else 0)
  else if 0x9100_0000 ≤ c ∧ c < 0x9100_07E0 then SMap.get 0 s.od.last ((c - 0x9100_0000) / 8)
  else 0

/-! Synchronisation window (R198). -/

/-- The state words of the objects, by offset in the window. -/
def State.syncImage (s : State) (o : Nat) : W64 :=
  if o < 0x10_0000 then (if o % 16 < 8 then SMap.get 0 s.sync.ctr (o / 16) else s.attr .ctr (o / 16))
  else if 0x100_0000 ≤ o ∧ o < 0x110_0000 then SMap.get 0 s.sync.ctr ((o - 0x100_0000) / 16)
  else if 0x200_0000 ≤ o ∧ o < 0x202_0000 then
    let n := (o - 0x200_0000) / 16
    if o % 16 < 8 then
      let l := s.lockOf n
      let w := (s.sync.waits.filter (fun w => w.on .lock n)).length
      placeB l.owner.isSome 63 ||| placeB l.abandoned 62 ||| place (min w 0xFFFF) 32 16 |||
      (match l.owner with | some (who, lane) => place (who.waiter lane).toNat 0 22 | none => 0)
    else s.attr .lock n
  else if 0x300_0000 ≤ o ∧ o < 0x301_0000 then
    let n := (o - 0x300_0000) / 16
    if o % 16 < 8 then
      place (min (s.sync.waits.filter (fun w => w.on .evt n)).length 0xFFFF) 32 16 ||| placeB (s.evtSet n) 0
    else s.attr .evt n
  else if 0x400_0000 ≤ o ∧ o < 0x400_0800 then
    let x := s.chanOf ((o - 0x400_0000) / 0x40)
    let f := o % 0x40 / 8
    let mask := fun (p : Nat → Bool) (w : Nat) =>
      BitVec.ofNat 64 ((List.range 64).foldl (fun a i => if p (64 * w + i) then a + 2 ^ i else a) 0)
    if f = 0 then x.cfg
    else if f = 1 then place x.round 32 32 ||| place x.members.length 8 8 ||| placeB x.sense 0
    else if f < 5 then mask (fun t => x.members.contains t) (f - 2)
    else mask (fun t => x.members.contains t && x.tileDone t) (f - 5)
  else if o / 8 = 0x500_0000 / 8 then s.sync.handObj
  else if o / 8 = 0x500_0008 / 8 then s.sync.handVal
  else 0

end Sys2Proof.Machine
end

