-- ==== Sys2Proof/Machine/DebugRead.lean ====
section
/-! DEFINITION. What a read of DBG_RDATA returns (R506). -/

namespace Sys2Proof.Machine

/-- The register that DBG_RSEL selects on a halted tile: its value, and whether a dead v register was read. -/
def State.rdataRead (s : State) (t : Nat) : W64 × Bool :=
  let x := s.tile t
  let sel := x.dbg.rsel
  let r := fld sel 0 7
  let slot := fld sel 50 6
  let lane := fld sel 45 5
  if fld sel 62 2 = 0 then
    (if r < 32 then x.core.reg r else if r = 32 then x.core.pc else 0, false)
  else match SMap.find x.tge.slots slot with
    | none => (0, false)
    | some g =>
      if fld sel 62 2 = 1 then
        (match g.vlive r lane with | some v => (BitVec.ofNat 64 v.toNat, false) | none => (0, true))
      else if fld sel 62 2 = 2 then (if r < 64 then g.ureg r else 0, false)
      else
        (if r = 0 then g.pc
         else if r = 1 then BitVec.ofNat 64 g.active
         else if 2 ≤ r ∧ r ≤ 9 then BitVec.ofNat 64 (g.preg (r - 2)).toNat
         else if r = 10 then BitVec.ofNat 64 g.stack.length
         else 0, false)

/-- The selected register's stored word is read as R291 says; one that is uncorrectable returns the bits that it holds.
DESIGN CHOICE: log entry 141. -/
def State.rdataCheck (s : State) (t : Nat) : State :=
  let sel := (s.dbg t).rsel
  let slot := fld sel 50 6
  match SMap.find (s.tge t).slots slot with
  | none => s
  | some g =>
    let c := if fld sel 62 2 = 1 then g.check [vKey (fld sel 0 7) (fld sel 45 5)] []
      else if fld sel 62 2 = 2 ∧ fld sel 0 7 < 64 then g.check [] [fld sel 0 7] else g.check [] []
    (s.updTge t (fun x => x.updSlot slot (fun _ => c.g))).regEvents t (Who.waiter .debug 0) c.evs

/-- A read of DBG_RDATA (R506). -/
def State.rdata (s : State) (t : Nat) : W64 × State :=
  if (s.dbg t).state = 2 then
    let s := s.rdataCheck t
    let (v, dead) := s.rdataRead t
    (v, if dead then s.updDbg t (fun d => { d with dead := true }) else s)
  else (0, s.updDbg t (fun d => { d with notHalted := true }))

end Sys2Proof.Machine
end

