-- ==== Sys2Proof/Machine/Dict.lean ====
section
/-! DEFINITION. The object dictionary (R366–R384): entries, values, checks and their records. -/

namespace Sys2Proof.Machine

def OD_OK : Nat := 0x00
def OD_NO_OBJECT : Nat := 0x06
def OD_RANGE : Nat := 0x07
def OD_ACCESS : Nat := 0x08
def DEALE_VERSION : Nat := 0x01
def DEALE_COMMAND : Nat := 0x02
def DEALE_SESSION : Nat := 0x03
def DEALE_SEQ : Nat := 0x04
def DEALE_ROLE : Nat := 0x05
def DEALE_LENGTH : Nat := 0x09
def DEALE_BUSY : Nat := 0x0A

/-- The entry of an index and subindex: a row of the object tables, or a board-defined one (R378). -/
def State.odEntry (s : State) (idx sub : Nat) : Option OdEntry :=
  if 0x8000 ≤ idx ∧ idx < 0x9000 then
    (SMap.find s.od.board (odKey idx sub)).map (fun b =>
      { idx := idx, lo := sub, hi := sub, type := b.type, access := b.access, stop := 0, stored := b.stored,
        dflt := b.default.toNat, min := (b.lo : Int), max := (b.hi : Int), size := b.size })
  else odFind idx sub

def OdEntry.scalar (e : OdEntry) : Bool := decide (e.type ≤ 9)

/-- Read and write roles of an index (R369): 0 monitor, 1 operator, 2 owner. -/
def odRoles (idx : Nat) : Nat × Nat :=
  if 0x2F00 ≤ idx ∧ idx ≤ 0x2FFF then (1, 2)
  else if (0x1100 ≤ idx ∧ idx ≤ 0x11FF) ∨ (0x1F00 ≤ idx ∧ idx ≤ 0x1FFF) ∨ (0x2200 ≤ idx ∧ idx ≤ 0x22FF) ∨
      (0x2700 ≤ idx ∧ idx ≤ 0x27FF) ∨ (0x2E00 ≤ idx ∧ idx ≤ 0x2EFF) then (0, 2)
  else (0, 1)

/-- Whether the right permits a read or a write, the stopped block apart (R368). -/
def OdEntry.readable (e : OdEntry) : Bool := e.access != 2
def OdEntry.writable (e : OdEntry) : Bool := e.access == 1 || e.access == 2 || e.access == 3

/-- The descriptor word (R379). -/
def OdEntry.descriptor (e : OdEntry) : W64 :=
  place e.size 32 32 ||| placeB true 23 ||| placeB e.stored 22 |||
  place (if e.writable then (odRoles e.idx).2 else 3) 20 2 ||| place (odRoles e.idx).1 18 2 |||
  place (if e.access = 3 then e.stop else 0) 8 8 ||| place e.access 4 4 ||| place e.type 0 4

/-! Values that the device computes. -/

def State.activeTiles (s : State) : List Nat := allTiles.filter (fun t => (s.tile t).role == 0)

/-- The service state (R476). -/
def State.serviceState (s : State) : Nat :=
  if s.rel.fatal then 4
  else if (List.range 8).any (fun p => (s.part p).fatal) then 3
  else if s.rel.degraded then 2 else 0

def State.halfBundles (s : State) : Nat := (allTiles.filter (fun t => (s.tile t).vbWidth == 1 || (s.tile t).vbWidth == 2)).length
def State.fencedPcs (s : State) : Nat := (List.range 8).foldl (fun a n => a + popCount 64 (s.stack n).fenced.toNat) 0
def State.goodStacks (s : State) : Nat := (List.range 8).foldl (fun a n => if (s.stack n).good then a + 2 ^ n else a) 0
def State.linksUp (s : State) : Nat := popCount 64 s.upMask.toNat

/-- OD 0x2D30.03. -/
def State.capacity (s : State) : W64 :=
  place s.activeTiles.length 0 8 ||| place (popCount 8 s.goodStacks) 8 8 ||| place (min s.fencedPcs 255) 16 8 |||
  place s.halfBundles 24 8 ||| place s.linksUp 32 8 |||
  place (if s.rel.dead then 0 else if s.rel.standby then 2 else 1) 40 2 |||
  place ((s.pwr.rails.filter (fun r => decide (2 ≤ r.2.lost) || r.2.off)).length) 42 8 |||
  place (min (s.bed.banks.filter (fun b => b.2.stuck)).length 255) 50 8

/-- The backed bytes of HBM: 1 GiB per pseudo-channel that is not fenced, on good stacks. -/
def State.backedHbm (s : State) : Nat :=
  (List.range 8).foldl (fun a n => if (s.stack n).good then a + (64 - popCount 64 (s.stack n).fenced.toNat) * 0x4000_0000 else a) 0

/-- The counter of an array that a subindex of OD 0x2A00 sums (R81, R114). -/
def Arr.count (a : Arr) (sub : Nat) : Nat :=
  if sub = 2 then a.waveCount else if sub = 3 then a.stallCount else if sub = 4 then a.stallSteps else a.entries

/-- The sum of a counter over the arrays of the active tiles since cold reset. -/
def State.sumActive (s : State) (sub : Nat) : Nat :=
  s.activeTiles.foldl (fun n t => n + (s.arr t).count sub + SMap.get 0 (s.tile t).kept sub) 0

/-- The default quota of an input 12–15 of a port kind (OD 0x2601). -/
def quotaDefault (kind : Nat) : Nat :=
  if kind = 0 then 1024 else if kind = 1 then 4096 else if kind = 2 then 128 else if kind = 3 then 256
  else if kind = 4 then 16 else 128

/-- A value the device computes, where it computes one for the entry. DEDUCED: log entry 85. DESIGN CHOICE: log entry 153. -/
def State.odComputed (s : State) (idx sub : Nat) : Option W64 :=
  let n := BitVec.ofNat 64
  if idx = 0x2700 ∧ sub = 3 then some (n ((List.range 20).foldl (fun a t => a + (s.table t).denyCount) 0))
  else if idx = 0x2A00 ∧ (2 ≤ sub ∧ sub ≤ 4 ∨ sub = 0x0A) then some (n (s.sumActive sub))
  else if idx = 0x6010 then some (s.tileReg sub 0)
  else if idx = 0x6011 then some (s.tileReg sub 8)
  else if idx = 0x6012 then some (s.tileReg sub 0x818)
  else if idx = 0x6013 then some (s.tileReg sub 0x10)
  else if idx = 0x6014 then some (s.tileReg sub 0x18)
  else if idx = 0x6015 then some (n (s.tile sub).baseline)
  else if idx = 0x6016 then some (n (s.tile sub).trend)
  else if idx = 0x6017 then some (n (s.tile sub).lifeMin)
  else if idx = 0x6018 then some (s.tileReg sub 0x1040)
  else if idx = 0x6019 then some (s.tileReg sub 0x1048)
  else if idx = 0x601A then some (s.tileReg sub 0x1050)
  else if idx = 0x601B then some (s.tileReg sub 0x1058)
  else if 0x2B00 ≤ idx ∧ idx ≤ 0x2B07 ∧ sub = 6 then some (n (s.part (idx - 0x2B00)).state)
  else if 0x2B00 ≤ idx ∧ idx ≤ 0x2B07 ∧ sub = 0x0A then some (n (s.part (idx - 0x2B00)).ctx)
  else if idx = 0x2C01 then some (n (s.entriesUsed sub))
  else if idx = 0x2401 then some (s.sliceReg sub 0)
  else if idx = 0x2410 ∧ sub = 2 then some (n ((List.range 8).foldl (fun a k => a + (s.slice k).ops) 0))
  else if idx = 0x2411 then some (s.sliceReg sub 0x100)
  else if idx = 0x2500 ∧ sub = 1 then some (n s.goodStacks)
  else if idx = 0x2500 ∧ sub = 2 then some (n s.backedHbm)
  else if idx = 0x2501 then some (s.stack sub).fenced
  else if idx = 0x2502 then some (n (s.stack sub).lap)
  else if idx = 0x2504 then some (s.stack sub).overflow
  else if idx = 0x2421 then some (n (s.slice sub).lap)
  else if idx = 0x2D01 then some (n (s.stack sub).bucket)
  else if idx = 0x2D02 then some (n (s.slice sub).bucket)
  else if idx = 0x2D03 then some (n (SMap.get 0 s.bed.sectorBucket sub))
  else if idx = 0x2601 then some (match SMap.find s.od.val (odKey idx sub) with | some v => v | none => n (quotaDefault (sub / 4)))
  else if idx = 0x2800 ∧ sub = 1 then some (n ((List.range 64).foldl (fun a l => if (s.link l).enable then a + 2 ^ l else a) 0))
  else if idx = 0x7000 then some (n (s.link sub).state)
  else if idx = 0x7001 then some (place (s.link sub).partnerDev 0 12 ||| place (s.link sub).partnerLink 16 6)
  else if idx = 0x1100 ∧ sub = 1 then some s.fuses.mac
  else if idx = 0x1000 ∧ sub = 7 then some (n s.bup.fwVersion.toNat)
  else if idx = 0x2310 ∧ sub = 6 then some (n s.halfBundles)
  else if idx = 0x2000 ∧ sub = 0x0E then
    some (n ((List.range 13).foldl (fun a r => a + min (SMap.get Rail.init s.pwr.rails r).lost 15 * 2 ^ (4 * r)) 0))
  else if idx = 0x2001 then some (s.region sub).reg
  else if idx = 0x2101 then some ((s.thGroup sub).reg 0)
  else if idx = 0x2102 then some (n (SMap.get 0 s.thm.power sub))
  else if idx = 0x2200 ∧ sub = 1 then some (n s.bup.state)
  else if idx = 0x2200 ∧ sub = 2 then some (n s.bup.stage)
  else if idx = 0x2200 ∧ sub = 5 then some (n s.bup.cause)
  else if idx = 0x2200 ∧ sub = 9 then some (n s.bup.recovery)
  else if idx = 0x2202 then some (n (SMap.get 0 s.bup.trained sub))
  else if idx = 0x2300 ∧ sub = 1 then some (n s.activeTiles.length)
  else if idx = 0x2300 ∧ sub = 2 then some (n (allTiles.filter (fun t => (s.tile t).role == 2)).length)
  else if idx = 0x2301 then some (n ((allTiles.find? (fun t => (s.tile t).logical == sub)).getD 0xFF))
  else if idx = 0x2302 then some (place (s.tile sub).causes 8 8 ||| place (s.tile sub).role 0 2)
  else if idx = 0x2210 ∧ sub = 5 then some (n s.bup.lastReset.toNat)
  else if idx = 0x2D00 ∧ sub = 0x20 then some (n s.serviceState)
  else if idx = 0x2D20 then some (n s.rel.spoilSeq)
  else if idx = 0x2D30 ∧ sub = 3 then some s.capacity
  else if idx = 0x2F00 ∧ sub = 1 then some (n s.fuses.svnFloor)
  else if idx = 0x2F00 ∧ sub = 4 then some (place s.fuses.debugLock 0 2 ||| placeB s.sec.unlocked 7)
  else if idx = 0x2F01 ∧ sub = 3 then some (placeB s.sec.endorsed 0)
  else if idx = 0x2F10 ∧ sub = 4 then some (n s.sec.repState)
  else if idx = 0x2E01 ∧ sub = 4 then some (n s.traceTypes)
  else if idx = 0x2E01 ∧ sub = 7 then some (n s.trc.ringPos)
  else if idx = 0x2212 ∧ sub = 1 then some (n s.pins.levels)
  else if idx = 0x2212 ∧ sub = 2 then some (n s.pins.straps)
  else if idx = 0x2212 ∧ sub = 3 then some (n s.pins.cages)
  else if idx = 0x2212 ∧ sub = 4 then some (n s.pins.refSwitches)
  else if idx = 0x2211 then some (match SMap.find s.od.val (odKey idx sub) with | some v => v | none => n (SMap.get 0 s.fuses.pins sub))
  else none

/-- The value of a scalar entry, as its value word holds it. DEDUCED: log entry 85. -/
def State.odValue (s : State) (idx sub : Nat) : W64 :=
  match s.odComputed idx sub with
  | some v => v
  | none => match SMap.find s.od.val (odKey idx sub) with
    | some v => v
    | none => match s.odEntry idx sub with | some e => BitVec.ofNat 64 e.dflt | none => 0

/-- The bytes of an ASCII string, padded with zero bytes. -/
def asciiBytes (cs : List Nat) (n : Nat) : List Byte := (cs.map (BitVec.ofNat 8) ++ List.replicate n 0).take n

/-- A contents byte of a word-organised image. -/
def imgByte (f : Nat → W64) (i : Nat) : Byte := BitVec.ofNat 8 ((f (i / 8)).toNat >>> (8 * (i % 8)))

/-- The 64 bytes of an error record, with its number (R477). -/
def Rec.bytes (r : Rec) (seq : Nat) : List Byte :=
  leBytes 1 r.cls ++ leBytes 1 r.code ++ leBytes 1 r.sev ++ leBytes 1 r.layer ++ leBytes 4 r.source.toNat ++
  leBytes 4 r.object.toNat ++ leBytes 4 r.waiter.toNat ++ leBytes 8 r.address.toNat ++ leBytes 8 seq ++
  leBytes 4 r.losc.toNat ++ leBytes 2 r.ctx.toNat ++ leBytes 26 r.detail.toNat

/-- Byte i of a DOMAIN or VSTRING entry. -/
def State.odByte (s : State) (idx sub i : Nat) : Byte :=
  let at_ := fun (bs : List Byte) => bs.getD i 0
  if idx = 0x2701 then imgByte (fun w => (s.table sub).reg (8 * w)) i
  else if idx = 0x2503 then imgByte (fun w => (s.stack sub).repair.getD w 0) i
  else if idx = 0x2602 then imgByte (fun m => if midReserved m then 0 else BitVec.ofNat 64 ((s.port sub).budgetOf m)) i
  else if idx = 0x2603 then imgByte (fun w => (s.port sub).reg (0x100 + 8 * w)) i
  else if idx = 0x2802 then
    imgByte (fun w => if w % 2 = 0 then (s.route (w / 2)).mask else placeB (s.route (w / 2)).valid 63) i
  else if idx = 0x2803 then (if i < 0x28 then imgByte (fun w => (s.ybar sub).reg (8 * w)) i else 0)
  else if idx = 0x7002 then at_ (s.link sub).serial
  else if idx = 0x7003 then imgByte (fun w => (s.link sub).countReg w) i
  else if idx = 0x1000 ∧ sub = 2 then at_ (asciiBytes [0x47, 0x58, 0x31, 0x2D, 0x34, 0x38, 0x4D] 16)
  else if idx = 0x1000 ∧ sub = 3 then at_ (asciiBytes [0x41, 0x31] 4)
  else if idx = 0x1000 ∧ sub = 4 then at_ s.fuses.serial
  else if idx = 0x2100 then at_ s.thm.lastShut
  else if idx = 0x2200 ∧ sub = 8 then SMap.get 0xFF s.bup.image (s.odNat 0x2200 7 % 256 * 65536 + i)
  else if idx = 0x2D21 then
    let slot := 1024 * sub + i / 64
    match s.rel.spoil.find? (fun e => e.1 % 4096 == slot) with
    | some e => (e.2.bytes e.1).getD (i % 64) 0
    | none => 0
  else if idx = 0x2F02 ∧ sub = 1 then at_ s.sec.chain
  else if idx = 0x2F02 ∧ sub = 2 then at_ (s.sec.log.flatMap (fun e => leBytes 8 e.1 ++ takeAt e.2 0 64))
  else if idx = 0x2F10 ∧ sub = 3 then at_ s.sec.report
  else if idx = 0x2E01 ∧ sub = 3 then
    (match SMap.find s.od.blob (odKey idx sub) with | some bs => bs.getD i 0 | none => 0xFF)
  else match SMap.find s.od.blob (odKey idx sub) with | some bs => bs.getD i 0 | none => 0

def State.odBytes (s : State) (idx sub off len : Nat) : List Byte := (List.range len).map (fun i => s.odByte idx sub (off + i))

/-! Checks (R370, R371). -/

/-- Every partition STOPPED, every tile idle, and no profile change in progress (R368, R412). -/
def State.computeStopped (s : State) : Bool :=
  (List.range 8).all (fun p => (s.part p).state == 2) && allTiles.all (fun t => s.tileIdle t) && !s.pwr.changing

def State.fabricStopped (s : State) : Bool :=
  (List.range 64).all (fun l => (s.link l).state != 2 && (s.link l).state != 3 && (s.link l).state != 4)

/-- The partition of a sector in a partition map. -/
def mapPart (m : W64) (sector : Nat) : Nat := fld m (4 * sector) 4

/-- Whether the stopped block of an RWS entry is stopped, for a write of v (R368). -/
def State.blockStopped (s : State) (e : OdEntry) (v : W64) : Bool :=
  if e.stop = 0x01 then s.computeStopped
  else if e.stop = 0x02 then s.fabricStopped
  else if e.stop = 0x03 then !s.hildUp
  else if 0x10 ≤ e.stop ∧ e.stop < 0x18 then (s.part (e.stop - 0x10)).state == 2
  else if e.stop = 0x20 then
    let old := s.odGet 0x2B20 1
    (List.range 8).all (fun n => mapPart old n == mapPart v n ||
      ((s.part (mapPart old n)).state == 2 && (decide (7 < mapPart v n) || (s.part (mapPart v n)).state == 2)))
  else true

/-- The type rules of R367 and the width rule of the mirror (R371). -/
def typeOk (type : Nat) (v : W64) : Bool :=
  if type = 0 then decide (v.toNat ≤ 1)
  else if type = 1 then decide (v.toNat < 2 ^ 8)
  else if type = 2 then decide (v.toNat < 2 ^ 16)
  else if type = 3 then decide (v.toNat < 2 ^ 32)
  else if type = 5 then v == sext64 8 v
  else if type = 6 then v == sext64 16 v
  else if type = 7 then v == sext64 32 v
  else if type = 9 then decide (v.toNat < 2 ^ 32) && !(fmtFP32.decode v.toNat).isNan
  else true

/-- A value as the number its range is stated in. -/
def odNumber (type : Nat) (v : W64) : Int := if 5 ≤ type ∧ type ≤ 8 then sgn 64 v.toNat else v.toNat

def isPow2 (n : Nat) : Bool := decide (n ≠ 0) && decide (2 ^ Nat.log2 n = n)

/-- A Hild-window address in the sense of R357 of n bytes, aligned to al. -/
def hildRange (a n al : Nat) : Bool :=
  natFld a 56 8 == 0 && decide (natFld a 0 44 % al = 0) && decide (0x200_0000_0000 ≤ natFld a 0 44) &&
  decide (natFld a 0 44 + n ≤ 0x300_0000_0000)

/-- The Range column where it is no interval, and the constraints between entries (R371). -/
def State.odSpecial (s : State) (idx sub : Nat) (v : W64) : Bool :=
  let n := v.toNat
  let g := fun i k => s.odNat i k
  let inHbm := fun (a : Nat) => decide (a ≤ 0x7F_FFFF_FFFF)
  if idx = 0x2700 ∧ sub = 1 then !(n == 0xFFF && g 0x2700 2 == 1)
  else if idx = 0x2A00 ∧ sub = 6 then n % 8 == 0
  else if idx = 0x2700 ∧ sub = 2 then !(n == 1 && g 0x2700 1 == 0xFFF)
  else if 0x2B00 ≤ idx ∧ idx ≤ 0x2B07 then
    (if sub = 1 then natFld n 56 8 == 0 && decide (natFld n 0 44 % 128 = 0) &&
        (let o := natFld n 0 44; inHbm o || decide (0x100_0000_0000 ≤ o ∧ o ≤ 0x100_FFFF_FFFF))
     else if sub = 2 then isPow2 n
     else if sub = 3 then n != g idx 4
     else if sub = 4 then n != g idx 3
     else true)
  else if idx = 0x2B20 ∧ sub = 1 then (List.range 8).all (fun k => decide (mapPart v k ≤ 7))
  else if idx = 0x2400 ∧ sub = 4 then decide (g 0x2400 5 < n)
  else if idx = 0x2400 ∧ sub = 5 then decide (n < g 0x2400 4)
  else if idx = 0x2600 ∧ sub = 4 then decide (g 0x2600 5 < n)
  else if idx = 0x2600 ∧ sub = 5 then decide (n < g 0x2600 4)
  else if idx = 0x2800 ∧ sub = 4 then decide (6 * g 0x2800 3 + 30 ≤ n)
  else if idx = 0x2800 ∧ sub = 3 then decide (6 * n + 30 ≤ g 0x2800 4)
  else if idx = 0x2900 ∧ sub = 1 then inHbm n && decide (n % 0x4000_0000 = 0)
  else if idx = 0x2900 ∧ sub = 0x10 then decide (n = 0) || hildRange n (g 0x2900 0x11 * 64) 64
  else if idx = 0x2900 ∧ sub = 0x11 then
    isPow2 n && (g 0x2900 0x10 == 0 || hildRange (g 0x2900 0x10) (n * 64) 64)
  else if idx = 0x2900 ∧ sub = 0x12 then n != g 0x2900 0x13
  else if idx = 0x2900 ∧ sub = 0x13 then n != g 0x2900 0x12
  else if idx = 0x2900 ∧ sub = 0x17 then decide (n = 0) || hildRange n 8 8
  else if idx = 0x1200 then decide (n = 0)
  else if idx = 0x1F00 ∧ sub = 1 then n == 0x65766173 || n == 0x746C6664
  else if idx = 0x2000 ∧ sub = 1 then decide (g 0x2000 2 ≤ (if n = 1 then 2600 else 1500))
  else if idx = 0x2000 ∧ sub = 2 then decide (n ≤ (if g 0x2000 1 = 1 then 2600 else 1500))
  else if idx = 0x2100 ∧ sub = 1 then decide (n < g 0x2100 2)
  else if idx = 0x2100 ∧ sub = 2 then decide (g 0x2100 1 < n)
  else if idx = 0x2100 ∧ sub = 0x0A then decide (0x3C23D70A ≤ n ∧ n ≤ 0x3F800000)
  else if idx = 0x2200 ∧ sub = 6 then n == 0x76636572 || n == 0x73617265 || n == 0x746D6F63
  else if idx = 0x2210 ∧ sub = 1 then n == 0x6D726177
  else if idx = 0x7004 then n == 1
  else if idx = 0x2F00 ∧ sub = 2 then n == 0x626E7673
  else if idx = 0x2F00 ∧ sub = 3 then n == 0x75676264
  else if idx = 0x2F10 ∧ sub = 2 then n == 0x74707461
  else if idx = 0x2E01 ∧ sub = 2 then decide (n &&& 0xFFFE0001 = 0)
  else if idx = 0x2E01 ∧ sub = 5 then inHbm n && decide (n % 256 = 0)
  else if idx = 0x2E01 ∧ sub = 6 then decide (n = 0) || decide (4096 ≤ n ∧ n ≤ 0x8000_0000 ∧ n % 256 = 0)
  else if idx = 0x2E10 ∧ sub = 3 then decide (n ≤ 127) || n == 0xFF
  else if idx = 0x2E10 ∧ sub = 5 then inHbm n && decide (n % 256 = 0)
  else if idx = 0x2E10 ∧ sub = 6 then decide (n % 256 = 0)
  else true

/-- Check 4 of R370 for a scalar. -/
def State.odRangeOk (s : State) (e : OdEntry) (sub : Nat) (v : W64) : Bool :=
  typeOk e.type v && decide (e.min ≤ odNumber e.type v ∧ odNumber e.type v ≤ e.max) && s.odSpecial e.idx sub v

/-- A read of a scalar or of bytes, after its role check: OK or the status. -/
def State.odCheckRead (s : State) (idx sub : Nat) (block : Bool) (off len : Nat) : Nat :=
  match s.odEntry idx sub with
  | none => OD_NO_OBJECT
  | some e =>
    if !e.readable then OD_ACCESS
    else if block then (if e.scalar then OD_ACCESS else if e.size < off + len then OD_RANGE else OD_OK)
    else OD_OK

/-- Reasons other than the right and the stopped block for which a write is refused with OD_ACCESS: a store command in
progress (R376), RESUME of a fatal partition or of one without a sector (R475, R194), a warm reset under severity 4
(R475), STANDBY while compute runs (R418), dump name under the debug lock (R510). -/
def State.odBusy (s : State) (idx sub : Nat) (v : W64) : Bool :=
  if idx = 0x1F00 ∧ sub = 1 then s.od.busy.isSome
  else if 0x2B00 ≤ idx ∧ idx ≤ 0x2B07 ∧ sub = 7 ∧ v = 2 then
    (s.part (idx - 0x2B00)).fatal ||
      !((List.range 8).any (fun n => mapPart (s.odGet 0x2B20 1) n == idx - 0x2B00))
  else if idx = 0x2210 ∧ sub = 1 then s.rel.fatal
  else if idx = 0x2000 ∧ sub = 3 ∧ v = 1 then !s.computeStopped
  else if idx = 0x2E10 ∧ sub = 1 then decide (s.fuses.debugLock ≠ 0) && !s.sec.unlocked
  else false

/-- The checks of a scalar write: OK or the status. -/
def State.odCheckWrite (s : State) (idx sub : Nat) (v : W64) : Nat :=
  match s.odEntry idx sub with
  | none => OD_NO_OBJECT
  | some e =>
    if !e.writable || !e.scalar || (e.access == 3 && !s.blockStopped e v) || s.odBusy idx sub v then OD_ACCESS
    else if s.odRangeOk e sub v then OD_OK else OD_RANGE

/-- The address of an entry's value word (R39, R379). -/
def mirrorOff (idx sub : Nat) : Nat := 0x103_8000_0000 + idx * 0x1000 + sub * 0x10

/-- The path of an access, for its record (R531), with the offset accessed. -/
inductive OdPath where
  | mirror (who : Who) (addr : Nat)
  | port (who : Who) (addr : Nat)
  | deale (mac session : Nat)
  | load
  deriving DecidableEq, Repr

/-- The record of class 0x11 about an entry (R531). -/
def State.odRec (s : State) (code : Nat) (p : OdPath) (idx sub : Nat) (write : Bool) : State :=
  let object : W32 := BitVec.ofNat 32 (idx * 256 + sub)
  let (waiter, addr, path, det) : W32 × Nat × Nat × BitVec 208 :=
    match p with
    | .mirror w a => (BitVec.ofNat 32 w.mid, a, 0, 0)
    | .port w a => (BitVec.ofNat 32 w.mid, a, 1, 0)
    | .deale mac ses => (noUnit, 0, 2, detField 40 6 mac ||| detField 46 2 ses)
    | .load => (noUnit, 0, 3, 0)
  s.report (s.mkRec 0x11 code 0 0 noUnit object waiter (if addr = 0 then 0 else s.globalOf addr) none
    (detByte 38 path ||| detByte 39 (if write then 1 else 0) ||| det))

/-- MGT_OD_LAST of a master after an access (R380). -/
def State.odLast (s : State) (mid idx sub : Nat) (write : Bool) (status : Nat) : State :=
  let old := SMap.get (0 : W64) s.od.last mid
  let v := place (fld old 48 16 + 1) 48 16 ||| place idx 24 16 ||| place sub 16 8 ||| placeB write 8 ||| place status 0 8
  { s with od := { s.od with last := SMap.put s.od.last mid v } }

/-- The end of an access of a path: its status to the master, and a record of a refusal. -/
def State.odEnd (s : State) (p : OdPath) (idx sub : Nat) (write : Bool) (status : Nat) : State :=
  let s := match p with
    | .mirror w _ => s.odLast w.mid idx sub write status
    | .port w _ => s.odLast w.mid idx sub write status
    | _ => s
  if status = OD_OK then s else s.odRec status p idx sub write

/-- A read of a value word or descriptor word through the mirror at an offset (R379, R380). -/
def State.mirrorRead (s : State) (who : Who) (addr idx sub : Nat) (desc : Bool) : W64 × State :=
  if desc then
    match s.odEntry idx sub with
    | some e => (e.descriptor, s.odEnd (.mirror who addr) idx sub false OD_OK)
    | none => (0, s.odEnd (.mirror who addr) idx sub false OD_NO_OBJECT)
  else
    let st := s.odCheckRead idx sub false 0 0
    let v := match s.odEntry idx sub with | some e => if e.scalar then s.odValue idx sub else 0 | none => 0
    (if st = OD_OK then v else 0, s.odEnd (.mirror who addr) idx sub false st)

/-- A read of bytes through a block port window (R381): the entry and offset of its selector. -/
def State.portRead (s : State) (who : Who) (k off len : Nat) : List Byte × State :=
  let sel := SMap.get (0 : W64) s.od.sel k
  let idx := fld sel 0 16
  let sub := fld sel 16 8
  let o := fld sel 32 24 + off
  let st := s.odCheckRead idx sub true o len
  let p := OdPath.port who (0x103_9000_0000 + k * 0x2000 + 0x1000 + off)
  (if st = OD_OK then s.odBytes idx sub o len else List.replicate len 0, s.odEnd p idx sub false st)

/-! Reads of the control space and the synchronisation window. -/

/-- Clear the RC field of the register word w, MISS_PEAK or LONGEST, after a read of its bytes from `lo` up to `hi` that
returned a byte of the field (R7). DEDUCED: log entry 32. -/
def State.readClear (s : State) (w lo hi : Nat) : State :=
  if 0x400_0000 ≤ w ∧ w < 0x408_0000 ∧ w % 0x1_0000 = 0 ∧ lo < 6 ∧ 4 < hi then
    s.updSlice ((w - 0x400_0000) / 0x1_0000) (fun k => { k with missPeak := 0 })
  else if 0x600_0000 ≤ w ∧ w < 0x65A_0000 ∧ 0x100 ≤ w % 0x1_0000 ∧ w % 0x1_0000 < 0x280 ∧ (w % 0x1_0000 - 0x100) % 0x18 = 0x10 ∧
      lo < 4 ∧ lo < hi then
    s.updPort ((w - 0x600_0000) / 0x1_0000) (fun p => { p with longest := SMap.put p.longest ((w % 0x1_0000 - 0x100) / 0x18) 0 })
  else s

/-- The register word w, of whose bytes a read returns those from `lo` up to `hi`, and the state after it. -/
def State.readReg (s : State) (w lo hi : Nat) : W64 × State :=
  if w < 0x90_0000 ∧ w % 0x1_0000 = 0x1038 then s.rdata (w / 0x1_0000) else (s.regImage w, s.readClear w lo hi)

/-- Whether a read of the mirror is one that R379 permits: aligned, of at most 8 bytes, in one word. DEDUCED: log entry 32. -/
def mirrorAligned (c len : Nat) : Bool := decide (c % 8 + len ≤ 8) && (!isPow2 len || decide (c % len = 0))

/-- The bytes that a unit reads at a control-space offset, and the state after the read. Other reads of the mirror than those
of R379 return zero with OD_ACCESS. DEDUCED: log entry 32. -/
def State.ctrlRead (s : State) (who : Who) (c len : Nat) : List Byte × State :=
  if 0x8000_0000 ≤ c ∧ c < 0x9000_0000 then
    let o := c - 0x8000_0000
    if mirrorAligned c len then
      let (v, s) := s.mirrorRead who (0x103_0000_0000 + c) (o / 0x1000) (o % 0x1000 / 0x10) (decide (8 ≤ o % 0x10))
      (takeAt (leBytes 8 v.toNat) (c % 8) len, s)
    else (List.replicate len 0, s.odEnd (.mirror who (0x103_0000_0000 + c)) (o / 0x1000) (o % 0x1000 / 0x10) false
      (if (s.odEntry (o / 0x1000) (o % 0x1000 / 0x10)).isNone then OD_NO_OBJECT else OD_ACCESS))
  else if 0x9000_0000 ≤ c ∧ c < 0x9002_0000 ∧ 0x1000 ≤ c % 0x2000 then
    s.portRead who ((c - 0x9000_0000) / 0x2000) (c % 0x2000 - 0x1000) len
  else
    let (bs, s) := (List.range (wordSpan c len)).foldl (fun (a : List Byte × State) i =>
      let w := (c / 8 + i) * 8
      let (v, s) := a.2.readReg w (max c w - w) (min (c + len) (w + 8) - w)
      (a.1 ++ leBytes 8 v.toNat, s)) ([], s)
    ((bs.drop (c % 8)).take len, s)

/-- The bytes at an offset of the synchronisation window. -/
def State.syncRead (s : State) (o len : Nat) : List Byte := (List.range len).map (fun i => imgByte (fun w => s.syncImage (8 * w)) (o + i))

/-- Whether a request reads the control space or the synchronisation window of this device. DEDUCED: log entry 32. -/
def State.regRead (s : State) (r : Req) : Bool :=
  r.kind == .load && s.isLocal r.addr &&
  (match regionOf (addrOffset r.addr) with | some .ctrl => true | some .sync => true | _ => false)

/-- The runs of bytes that a read of registers names: offset from its address, and length. -/
def Req.runs (r : Req) : List (Nat × Nat) := if r.mask.isEmpty then [(0, r.len)] else maskRuns 0 r.mask

/-- The offsets of the 64-bit words that a read of registers touches. -/
def Req.words (r : Req) : List Nat :=
  r.runs.flatMap (fun e => (List.range (wordSpan (addrOffset r.addr + e.1) e.2)).map (fun i => ((addrOffset r.addr + e.1) / 8 + i) * 8))

/-- Whether a read of a word is held: of BDR_IMM_FENCE while the fence runs (R264), of a dictionary while no management core serves
it, of ACT_SYNC while earlier requests are pending. -/
def State.readHeld (s : State) (off : Nat) : Bool :=
  (off == 0x103_0408_0208 && s.bed.fence) || (decide (0x103_8000_0000 ≤ off ∧ off < 0x103_9002_0000) && !s.firmware) ||
  (inCtrl isActSync off && s.fencePending (actTargetAt off))

/-- Perform a read request of registers or objects, the bytes that it names. DEDUCED: log entry 32. -/
def State.performReg (s : State) (id : Nat) : State :=
  match s.findReq id with
  | none => s
  | some r =>
    if !(s.regRead r && r.st == .sent && s.noOlder r && s.inTurn r) || r.words.any s.readHeld then s
    else
      let (s, here) := s.atPort id
      if !here then s
      else
      let off := addrOffset r.addr
      let (bs, s) := r.runs.foldl (fun (a : List Byte × State) e =>
        let pad := a.1 ++ List.replicate (e.1 - a.1.length) 0
        match regionOf off with
        | some .sync => (pad ++ a.2.syncRead (off - 0x102_0000_0000 + e.1) e.2, a.2)
        | _ =>
          let (bs, s) := a.2.ctrlRead r.who (off - 0x103_0000_0000 + e.1) e.2
          (pad ++ bs, s)) ([], s)
      s.finishReq id (clean bs)

end Sys2Proof.Machine
end

