-- ==== Sys2Proof/Machine/Direct.lean ====
section
/-! DEFINITION. Reads that a unit makes for itself: instruction fetches and descriptor reads (R119, R149, R272). -/

namespace Sys2Proof.Machine

/-- The class under which a failed load is reported: Hild for the Hild window, the fabric otherwise, a strict dead-discard
refusal in class 0x03. -/
def State.failClass (s : State) (r : Req) (code : Nat) : Nat × Nat :=
  if s.toHild r then (0x0A, code) else if code = ST_DEAD_REREAD ∧ s.isLocal r.addr then (0x03, 0x02) else (0x09, code)

/-- What has become of a unit's direct read. -/
inductive Fetch where
  | wait
  | denied (code : Nat) (target : Option Nat)
  | failed (cls code : Nat)
  | bytes (bs : List PByte)
  deriving DecidableEq, Repr

/-- A request of a local home is performed, where it may be. -/
def State.tryPerform (s : State) (id : Nat) : State :=
  match s.reqAt id .hbm (fun _ => true), s.reqAt id .scratch (fun _ => true), s.reqAt id .store (fun _ => true) with
  | some r, _, _ => s.served r (fun s => s.lineAccess r)
  | _, some r, _ => s.served r (fun s => s.performScratch r)
  | _, _, some r => s.served r (fun s => s.performPlace r)
  | _, _, _ => s.performReg id

/-- How a direct read stands. -/
def State.directState (s : State) (id : Nat) : Fetch :=
  match s.findReq id with
  | none => .wait
  | some r => match r.st with
    | .done => .bytes r.data
    | .failed c => let k := s.failClass r c; .failed k.1 k.2
    | _ => .wait

/-- Whether a request is a unit's direct read of a kind. -/
def Req.directOf (r : Req) (who : Who) (op : Nat) : Bool := r.direct && r.who == who && r.op == op

/-- A unit's direct read of bytes: it is checked and sent, and served at once where its home can. What has come stays until the
unit drops it. One that has ended and is no longer asked for is dropped. DESIGN CHOICE: log entry 25. -/
def State.directPeek (s : State) (who : Who) (ctx : Nat) (right : Right) (a len op hint : Nat) : State × Fetch :=
  let s := { s with reqs := s.reqs.filter (fun r => !(r.directOf who op && r.addr != a && r.st.ended)) }
  match s.reqs.find? (fun r => r.directOf who op) with
  | some r =>
    if r.addr ≠ a then (s, .wait)
    else
      let s := s.tryPerform r.id
      (s, s.directState r.id)
  | none =>
    match s.checkAccess who.mid ctx right a len with
    | .error (c, tg) => (s, .denied c tg)
    | .ok ok =>
      let (s, id) := s.issue { newReq who ctx .load a len [] 0 with direct := true, op := op, hint := hint } ok
      let s := s.tryPerform id
      (s, s.directState id)

/-- The unit takes what its direct read has brought. -/
def State.dropDirect (s : State) (who : Who) (op : Nat) : State :=
  { s with reqs := s.reqs.filter (fun r => !(r.directOf who op && r.st.ended)) }

/-- A direct read whose data the unit takes when it has come. -/
def State.directRead (s : State) (who : Who) (ctx : Nat) (right : Right) (a len op : Nat) : State × Fetch :=
  let (s, f) := s.directPeek who ctx right a len op 0
  (s.dropDirect who op, f)

end Sys2Proof.Machine
end

