-- ==== Sys2Proof/Machine/Flags.lean ====
section
/-! DEFINITION. The sticky flags of the array (R80) and of the thread-group engine (R175), and the comparisons of the
branch and compare instructions. -/

namespace Sys2Proof.Machine

/-- The sticky flags of the array after a result is written (R80): NAN_OUT and INF_OUT report FP32 and BF16 results.
DESIGN CHOICE: log entry 151. -/
def Arr.noteResult (a : Arr) (r : ResultOut) (poison : Bool) : Arr :=
  { a with poison := a.poison || poison, satInt := a.satInt || r.sat, nanOut := a.nanOut || r.nan, infOut := a.infOut || r.inf }

/-- The sticky flags of the engine after an instruction (R175). -/
def Tge.note (g : Tge) (sat nan inf dead : Bool) : Tge :=
  { g with satInt := g.satInt || sat, nanOut := g.nanOut || nan, infOut := g.infOut || inf, deadRead := g.deadRead || dead }

/-- Signed and unsigned order of two words of n bits. -/
def sltNat (n a b : Nat) : Bool := decide (sgn n a < sgn n b)

/-- The condition codes of the branch class (R123): EQ, NE, LT, GE, LTU, GEU. -/
def brCond (c : Nat) (a b : W64) : Bool :=
  if c = 0 then a == b
  else if c = 1 then a != b
  else if c = 2 then sltNat 64 a.toNat b.toNat
  else if c = 3 then !sltNat 64 a.toNat b.toNat
  else if c = 4 then decide (a.toNat < b.toNat)
  else !decide (a.toNat < b.toNat)

end Sys2Proof.Machine
end

