-- ==== Sys2Proof/Machine/Array.lean ====
section
/-! DEFINITION. The matrix array and its ramp controller: weight loads, rows, results, errors, ramps, Riddle mode
(R70–R79, R98–R112). -/

namespace Sys2Proof.Machine

/-! Ramp controller. -/

/-- An array in OFF whose queue holds a pass starts: in RIDDLE where a request holds, else it waits for a token (R103,
R111). DEDUCED: log entry 150. -/
def Arr.startOff (a : Arr) (riddle : Bool) : Arr :=
  if a.ramp ≠ 0 ∨ a.stuck ∨ a.passes.isEmpty then a
  else if riddle then { a with ramp := 4, blocks := 8, entries := a.entries + 1, want := 0, urgent := false }
  else { a with want := 1 }

/-- A wait for a ramp token that ends without one counts its steps too. DESIGN CHOICE: log entry 149. -/
def State.waitEnded (s : State) (t : Nat) (old : Arr) : State :=
  if old.want = 0 ∨ (s.arr t).want ≠ 0 then s
  else
    let (v, s) := s.fresh
    s.updArr t (fun a => { a with tokenWait := satAdd 32 a.tokenWait v.toNat })

/-- The ramp after a descriptor has been accepted: it cancels a ramp-off that has not begun (R104). DEDUCED: log entry 24. -/
def Arr.accepted (a : Arr) (riddle : Bool) : Arr :=
  let a := if a.ramp = 2 ∧ a.want = 2 then { a with want := 0 } else a
  a.startOff riddle

/-- Whether the work of a pass has begun: its weight load, or its rows. -/
def Pass.begun (p : Pass) : Bool := p.st != .queued

/-- The points at which a Riddle request or its end takes effect (R104, R108, R111). DEDUCED: log entries 23, 150. -/
def Arr.riddlePoint (a : Arr) (riddle : Bool) : Arr :=
  if a.ramp = 2 then (if riddle && a.passes.isEmpty then { a with want := 2 } else a)
  else if a.ramp = 4 && !(a.passes.any Pass.begun) && (a.passes.isEmpty || !riddle) then
    { a with ramp := 0, blocks := 0 }.startOff riddle
  else a

/-- Tokens taken in the Upper Face region of a tile's sector. -/
def State.tokensTaken (s : State) (n : Nat) : Nat := (allTiles.filter (fun t => sectorOf t == n && (s.arr t).token)).length

/-- RAMP_TOKEN_GRANT (R102): the lowest waiting array of the region takes a free token and starts its ramp.
DEDUCED: log entry 23. -/
def execRampTokenGrant (t : Fin 144) (waited : Nat) (s : State) : Out :=
  .next (
    let a := s.arr t.val
    let first := !((List.range t.val).any (fun u => sectorOf u == sectorOf t.val && (s.arr u).want != 0))
    if a.want = 0 ∨ ¬ first ∨ s.odNat 0x2A00 8 ≤ s.tokensTaken (sectorOf t.val) then s
    else s.updArr t.val (fun a =>
      let a := { a with token := true, urgent := a.urgent || (s.region (8 + sectorOf t.val)).urgent, tokenWait := satAdd 32 a.tokenWait waited }
      if a.want = 1 then { a with want := 0, ramp := 1, blocks := 1 } else { a with want := 0, ramp := 3, blocks := 7 }))

/-- RAMP_STEP (R100): the next row block, or the end of the ramp. DEDUCED: log entry 150. -/
def execRampStep (t : Fin 144) (s : State) : Out :=
  .next (
    let riddle := s.riddle t.val
    s.updArr t.val (fun a =>
      if a.ramp = 1 then
        if a.blocks < 8 then { a with blocks := a.blocks + 1 }
        else { a with ramp := 2, token := false, ramps := wrapAdd 16 a.ramps 1 }.riddlePoint riddle
      else if a.ramp = 3 then
        if 0 < a.blocks then { a with blocks := a.blocks - 1 }
        else { a with ramp := 0, token := false, urgent := false }.startOff riddle
      else a))

/-- IDLE_HOLD_EXPIRY (R104). -/
def execIdleHoldExpiry (t : Fin 144) (s : State) : Out :=
  .next (s.updArr t.val (fun a => if a.ramp = 2 ∧ a.passes.isEmpty then { a with want := 2 } else a))

/-- RIDDLE_REQUEST_CHANGE (R107, R111): the array meets the request as its sources now give it. -/
def execRiddleRequestChange (t : Fin 144) (_source : Fin 3) (s : State) : Out :=
  .next (s.updArr t.val (fun a => a.riddlePoint (s.riddle t.val)))

/-! Errors (R79). -/

/-- An array error of a code: the record, the abort, stall reload for the next pass, and nothing that a KEEP pass could keep
(R74). -/
def State.arrError (s : State) (t code sev addr abort : Nat) : State :=
  let s := s.report (s.mkRec 0x07 code sev 2 (BitVec.ofNat 32 t) noUnit ((Who.array t).waiter 0)
    (if addr = 0 then 0 else s.globalOf addr) (s.tileCtx t) 0)
  (s.updArr t (fun a => { a with error := true, lastKeep := none })).abortTask t abort

/-- The store-window address of the first poisoned word of bytes read from a store offset. -/
def firstPoison (t base : Nat) (bs : List PByte) : Option Nat :=
  (bs.findIdx? (fun p => p.2)).map (fun i => storeBase t + (base + i) / 8 * 8)

/-- Read store bytes for the array; an uncorrectable word is an ARR_POISON_IN (R79). DEDUCED: log entry 31. -/
def State.arrRead (s : State) (t off len : Nat) : List PByte × State :=
  let (bs, s) := s.memRead (.store t off) len ((Who.array t).waiter 0)
  match firstPoison t off bs with
  | some a => (bs, s.arrError t 0x08 1 a codeTaskFault)
  | none => (bs, s)

/-! Weight load (R72, R73). -/

/-- Same class of the formats of two passes (R72). -/
def Pd.sameClass (a b : Pd) : Bool :=
  a.mode == b.mode && fmtClass a.wFmt == fmtClass b.wFmt && fmtClass a.aFmt == fmtClass b.aFmt

/-- The passes before one, and it: the first that has not begun. -/
def Arr.nextLoad (a : Arr) : Option (List Pass × Pass) :=
  match a.passes.find? (fun p => p.st == .queued) with
  | some p => some (a.passes.filter (fun q => decide (q.op < p.op)), p)
  | none => none

/-- Whether rows and loads may go on: in ON, or in RIDDLE. -/
def Arr.works (a : Arr) : Bool := !a.stuck && (a.ramp == 2 || a.ramp == 4)

/-- Whether a pass that has not begun may begin (R103, R111, R501). -/
def State.passMayBegin (s : State) (t : Nat) : Bool :=
  let x := s.tile t
  x.arr.works && x.dbg.mayBegin && !x.aborting && (x.arr.ramp == 2 || s.riddle t)

def Arr.setPass (a : Arr) (p : Pass) : Arr := { a with passes := a.passes.map (fun q => if q.op == p.op then p else q) }

/-- WEIGHT_LOAD_START (R73): wavefront beside a pass that streams (R72), else a stall reload once the last row before it
has entered. The weights and scales are read from the store here. DEDUCED: log entry 18. -/
def execWeightLoadStart (t : Fin 144) (s : State) : Out :=
  .next (
    let x := s.tile t.val
    match x.arr.nextLoad with
    | none => s
    | some (before, p) =>
      let prev := before.getLast?
      let wave := match prev with
        | some q => p.pd.reload == 0 && s.odGet 0x2A00 1 == 1 && q.pd.sameClass p.pd && !x.arr.error && x.arr.ramp != 4
        | none => false
      let placeOk := match prev with
        | some q => if wave then q.st == .streaming || q.st == .draining else q.st == .draining
        | none => true
      if !s.passMayBegin t.val || p.pd.keep || p.cut || !placeOk || !mayRead x.sb p.op p.pd.tagW false then s
      else
        let (w, s) := match p.pd.rangeW with | some r => s.arrRead t.val r.1 r.2 | none => ([], s)
        let (sc, s) := match p.pd.rangeWS with | some r => s.arrRead t.val r.1 r.2 | none => ([], s)
        let ws : WSet := { mode := p.pd.mode, wFmt := p.pd.wFmt, aFmt := p.pd.aFmt, bscale := p.pd.bscale,
                           intScale := p.pd.intScale, kBlocks := p.pd.kBlocks, w := w, s := sc }
        s.updArr t.val (fun a =>
          { a.setPass { p with st := .loading, wset := some ws } with
            waveCount := if wave then wrapAdd 32 a.waveCount 1 else a.waveCount,
            stallCount := if wave then a.stallCount else wrapAdd 32 a.stallCount 1 }))

/-- SHADOW_LOAD_COMPLETE (R73): TAG_W is released. -/
def execShadowLoadComplete (t : Fin 144) (s : State) : Out :=
  .next (
    match (s.arr t.val).passes.find? (fun p => p.st == .loading) with
    | none => s
    | some p =>
      if (s.arr t.val).stuck then s
      else (s.updArr t.val (fun a => { a.setPass { p with st := .loaded } with error := a.error && (s.tile t.val).aborting })).release
        t.val p.op .shadow)

/-! Rows (R70, R75). -/

/-- Columns of a row that have been written. -/
def Pass.colsDone (p : Pass) (row : Nat) : Nat := SMap.get 0 p.colsOut row

/-- The range of result (m, n). -/
def Pd.outAt (d : Pd) (m n : Nat) : Nat × Nat := (d.outAddr + m * d.outStride + n * d.outSize, d.outSize)

/-- The results of a pass, by row and column, that overlap a range of the store. Its rows never overlap (R68). -/
def Pd.resultsAt (d : Pd) (r : Nat × Nat) : List (Nat × Nat) :=
  let lo := (r.1 - d.outAddr) / d.outStride
  let hi := (r.1 + r.2 - 1 - d.outAddr) / d.outStride
  (List.range (hi - lo + 1)).flatMap (fun i =>
    let m := lo + i
    let a := (r.1 - (d.outAt m 0).1) / d.outSize
    let b := (r.1 + r.2 - 1 - (d.outAt m 0).1) / d.outSize
    ((List.range (b - a + 1)).map (fun j => (m, a + j))).filter (fun e =>
      decide (e.1 < d.m ∧ e.2 < d.nCols) && overlap (d.outAt e.1 e.2) r))

/-- The results at a range of the store that a pass has still to write; a pass cut by an abort writes its admitted rows. -/
def Pass.pending (p : Pass) (r : Nat × Nat) : List (Nat × Nat) :=
  (p.pd.resultsAt r).filter (fun e => decide (p.colsDone e.1 ≤ e.2) && (!p.cut || decide (e.1 < p.rowsIn)))

def Arr.before (a : Arr) (op : Nat) : List Pass := a.passes.filter (fun q => decide (q.op < op))

/-- The accumulate interlock for a range of previous values (R75). -/
def Arr.interlockFree (a : Arr) (p : Pass) (r : Nat × Nat) : Bool := (a.before p.op).all (fun q => (q.pending r).isEmpty)

/-- Whether row m of an accumulating pass may enter (R75): the value of column n is read S′ × n steps later, so that an earlier
pass's result (m₁, n₁) there may still be out by that many of its own diagonals. DEDUCED: log entry 17. -/
def Arr.rowFree (a : Arr) (p : Pass) (m : Nat) : Bool :=
  !p.pd.accumulate || (List.range p.pd.nCols).all (fun n => (a.before p.op).all (fun q => (q.pending (p.pd.outAt m n)).all (fun e =>
    let d := e.1 + e.2 - n * p.pd.steps / q.pd.steps
    decide (d - min e.1 d < q.colsDone (min e.1 d)))))

/-- Where the previous bytes of result (m, n) are kept. -/
def prevKey (m n : Nat) : Nat := m * 256 + n

/-- The results of the admitted rows of an accumulating pass whose previous values lie in a range and have not been read. -/
def Pass.unread (p : Pass) (r : Nat × Nat) : List (Nat × Nat) :=
  if p.pd.accumulate then
    (p.pending r).filter (fun e => decide (e.1 < p.rowsIn) && (SMap.find p.prevs (prevKey e.1 e.2)).isNone)
  else []

/-- Admit the next row of a pass: its A bytes and A scales are read as it enters. DEDUCED: log entries 17, 18. -/
def State.admitRow (s : State) (t : Nat) (p : Pass) (held : Nat) : State :=
  let m := p.rowsIn
  let (a, s) := s.arrRead t (p.pd.aAddr + m * p.pd.aStride) p.pd.rb
  let (sc, s) := if p.pd.bscale then s.arrRead t (p.pd.aScaleAddr + m * p.pd.aScaleStride) p.pd.kBlocks else ([], s)
  let last := decide (m + 1 = p.pd.m)
  let s := s.updTile t (fun x => { x with
    arr := { x.arr.setPass { p with rows := SMap.put p.rows m (a, sc), rowsIn := m + 1,
                                    st := if last then .draining else .streaming } with
             stallSteps := wrapAdd 64 x.arr.stallSteps held },
    dbg := { x.dbg with array := wrapAdd 64 x.dbg.array 1 } })
  if last then s.release t p.op .lastRow else s

/-- The head of the queue: the first pass with rows to admit. -/
def Arr.head (a : Arr) : Option Pass := a.passes.find? (fun p => decide (p.rowsIn < p.pd.m))

/-- PASS_START (R70): row 0 of the head pass enters. DEDUCED: log entry 17. -/
def execPassStart (t : Fin 144) (held : Nat) (s : State) : Out :=
  .next (
    let x := s.tile t.val
    match x.arr.head with
    | none => s
    | some p =>
      let loaded := p.st == .loaded || (p.pd.keep && p.st == .queued && x.arr.stat.isSome)
      let riddleOk := x.arr.ramp == 2 || p.st == .loaded || s.riddle t.val
      let tags := mayRead x.sb p.op p.pd.tagA false && (p.pd.keep || mayRead x.sb p.op p.pd.tagW false) &&
        mayWrite x.sb p.op p.pd.tagOut true && (!p.pd.accumulate || mayRead x.sb p.op p.pd.tagOut true)
      if p.rowsIn ≠ 0 ∨ ¬ loaded ∨ p.noStart ∨ p.cut ∨ ¬ riddleOk ∨ ¬ x.arr.works ∨ ¬ x.dbg.mayBegin ∨ x.aborting ∨ ¬ tags
          ∨ ¬ x.arr.rowFree p 0 then s
      else
        let ws := if p.pd.keep then x.arr.stat else p.wset
        (s.updArr t.val (fun a => { a with stat := ws })).admitRow t.val { p with wset := ws } held)

/-- ROW_ADMIT (R75): the next row of the streaming pass enters. DEDUCED: log entry 17. -/
def execRowAdmit (t : Fin 144) (held : Nat) (s : State) : Out :=
  .next (
    let x := s.tile t.val
    match x.arr.head with
    | none => s
    | some p =>
      if p.st ≠ .streaming ∨ p.cut ∨ ¬ x.arr.works ∨ x.aborting
          ∨ ¬ x.arr.rowFree p p.rowsIn then s
      else s.admitRow t.val p held)

/-! Results (R61, R71, R85–R92). -/

/-- Bytes of a sub-list, with their marks. -/
def pslice (bs : List PByte) (i n : Nat) : List PByte := (bs.drop i).take n

/-- The bytes of column n of the weights, for every k: the byte that holds each element. -/
def WSet.colBytes (w : WSet) (n : Nat) : List PByte :=
  let nb := fmtBits w.wFmt
  (List.range (w.kBlocks * 32)).flatMap (fun k => if nb = 4 then pslice w.w (k * 128 + n / 2) 1 else pslice w.w (k * 256 * (nb / 8) + n * (nb / 8)) (nb / 8))

/-- The element codes of column n. -/
def WSet.colCodes (w : WSet) (n : Nat) : List Nat :=
  let nb := fmtBits w.wFmt
  (List.range (w.kBlocks * 32)).map (fun k =>
    if nb = 4 then natFld ((vals (pslice w.w (k * 128 + n / 2) 1)).getD 0 0).toNat (4 * (n % 2)) 4
    else leNat (vals (pslice w.w (k * 256 * (nb / 8) + n * (nb / 8)) (nb / 8))))

/-- The scale bytes of column n: one per block, or the column scale. -/
def WSet.colScales (w : WSet) (n : Nat) : List PByte :=
  if w.intScale then pslice w.s (4 * n) 4
  else if w.bscale then (List.range w.kBlocks).flatMap (fun b => pslice w.s (b * 256 + n) 1) else []

/-- The operands of result (m, n), with the previous bytes of OUT. -/
def Pass.resultIn (p : Pass) (w : WSet) (row : List PByte × List PByte) (n : Nat) (prev : List Byte) : ResultIn :=
  let sc := vals (w.colScales n)
  { mode := p.pd.mode, wFmt := p.pd.wFmt, aFmt := p.pd.aFmt, outFmt := p.pd.outFmt, bscale := p.pd.bscale,
    intScale := p.pd.intScale, accumulate := p.pd.accumulate, arg := p.pd.modeArg, kBlocks := p.pd.kBlocks,
    a := (List.range (p.pd.kBlocks * 32)).map (elemCode (vals row.1) (fmtBits p.pd.aFmt)), w := w.colCodes n,
    sa := (vals row.2).map (fun b => b.toNat), sw := if w.intScale then [] else sc.map (fun b => b.toNat),
    colScale := if w.intScale then sgn 32 (leNat sc) else 1, prev := prev }

/-- Whether the row above, and the same column of every earlier pass, have been written: results complete in this order
(R71). DEDUCED: log entry 19. -/
def Arr.columnFree (a : Arr) (p : Pass) (m n : Nat) : Bool :=
  (m == 0 || decide (n < p.colsDone (m - 1) ∨ p.pd.nCols ≤ p.colsDone (m - 1))) &&
  (a.before p.op).all (fun q =>
    let l := (if q.cut then q.rowsIn else q.pd.m) - 1
    q.rowsIn == 0 || decide (n < q.colsDone l ∨ q.pd.nCols ≤ q.colsDone l))

/-- The previous values of earlier passes that a write of pass `op` to a range would change are read before it (R75).
DEDUCED: log entry 18. -/
def State.readPrevs (s : State) (t op : Nat) (r : Nat × Nat) : State :=
  ((s.arr t).before op).foldl (fun s q => (q.unread r).foldl (fun s e =>
    let out := q.pd.outAt e.1 e.2
    let (bs, s) := s.arrRead t out.1 out.2
    s.updArr t (fun a => { a with passes := a.passes.map (fun p =>
      if p.op = q.op then { p with prevs := SMap.put p.prevs (prevKey e.1 e.2) bs } else p) })) s) s

/-- OUT_RESULT_WRITTEN (R71): the next column of an admitted row is written.
DEDUCED: log entries 18, 19. DESIGN CHOICE: log entry 151. -/
def execOutResultWritten (t : Fin 144) (pass : Nat) (row : Nat) (s : State) : Out :=
  .next (
    let x := s.tile t.val
    match x.arr.passes.find? (fun p => p.op == pass) with
    | none => s
    | some p =>
      match p.wset, SMap.find p.rows row with
      | some w, some r =>
        let n := p.colsDone row
        let out := p.pd.outAt row n
        let early := (x.arr.before p.op).all (fun q => (q.unread out).all (fun e => x.arr.interlockFree q (q.pd.outAt e.1 e.2)))
        if ¬ x.arr.works ∨ p.pd.nCols ≤ n ∨ ¬ x.arr.columnFree p row n ∨ ¬ early
            ∨ (p.pd.accumulate ∧ ¬ x.arr.interlockFree p out) then s
        else
          let s := s.readPrevs t.val p.op out
          let (prev, s) :=
            if p.pd.accumulate then
              match SMap.find p.prevs (prevKey row n) with | some bs => (bs, s) | none => s.arrRead t.val out.1 out.2
            else ([], s)
          let res := passResult (p.resultIn w r n (vals prev))
          let parity := p.parity.any (fun e => e.1 == n && decide (e.2 ≤ row))
          let bad := poisoned r.1 || poisoned r.2 || poisoned (w.colBytes n) || poisoned (w.colScales n) || poisoned prev || parity
          let s := s.memWrite (.store t.val out.1) (res.bytes.map (fun b => some (b, bad))) ((Who.array t.val).waiter 0)
          let p' := { p with colsOut := SMap.put p.colsOut row (n + 1), prevs := SMap.drop p.prevs (prevKey row n),
                             rows := if n + 1 = p.pd.nCols then SMap.drop p.rows row else p.rows }
          s.updArr t.val (fun a => (a.setPass p').noteResult res bad)
      | _, _ => s)

/-- Every result of the pass's admitted rows has been written. -/
def Pass.allOut (p : Pass) : Bool :=
  p.rows.isEmpty && p.begun && (if p.cut then true else decide (p.rowsIn = p.pd.m))

/-- PASS_DONE (R71): the oldest pass with all results written releases TAG_OUT; an aborted pass releases nothing (R78).
DESIGN CHOICE: log entry 20. -/
def execPassDone (t : Fin 144) (s : State) : Out :=
  .next (
    match (s.arr t.val).passes.find? Pass.allOut with
    | none => s
    | some p =>
      let s := s.updArr t.val (fun a => { a with passes := a.passes.filter (fun q => q.op != p.op) })
      let s := if p.cut then s
        else
          let (steps, s) := s.fresh
          (s.release t.val p.op .results).trace (srcArray t.val) 0x03 2 (s.tileCtx t.val)
            (leBytes 8 0 ++ leBytes 4 p.no ++ leBytes 4 steps.toNat)
      s.updArr t.val (fun a => a.riddlePoint (s.riddle t.val)))

/-- A parity error with no row left to use the weight (R79): the weights become invalid. -/
def Arr.dropWeights (a : Arr) : Arr := { a with stat := none, lastKeep := none }

/-- Whether a pass has admitted rows whose results are not all written. -/
def Pass.live (p : Pass) : Bool := (p.st == .streaming || p.st == .draining) && !p.rows.isEmpty

/-- The passes that keep the weights of the pass before them are affected from their first row. -/
def parityKept (col : Nat) : List Pass → List Pass
  | [] => []
  | p :: ps => if p.pd.keep then { p with parity := p.parity ++ [(col, 0)] } :: parityKept col ps else p :: ps

/-- The passes after an active-weight parity error in column col that the admitted row `row`, counted over the passes in the
array, is the first to reach: the row's pass is affected from that row on, and the passes that keep its weights.
DEDUCED: log entry 22. -/
def parityMark (col : Nat) : Nat → List Pass → List Pass
  | _, [] => []
  | row, p :: ps =>
    if !p.live then p :: parityMark col row ps
    else if row < p.rowsIn then { p with parity := p.parity ++ [(col, row)] } :: parityKept col ps
    else p :: parityMark col (row - p.rowsIn) ps

/-- ARR_PARITY (R79). DEDUCED: log entry 22. -/
def execArrParity (t : Fin 144) (shadow : Bool) (col : Fin 256) (row : Nat) (s : State) : Out :=
  .next (
    let a := s.arr t.val
    let err := fun (s : State) => s.arrError t.val 0x09 1 0 codeTaskFault
    if a.blocks = 0 ∨ a.stuck then s
    else if shadow then
      match a.passes.find? (fun p => p.st == .loading || p.st == .loaded) with
      | some p => err (s.updArr t.val (fun a => a.setPass { p with noStart := true }))
      | none => (err s).updArr t.val Arr.dropWeights
    else if a.passes.any Pass.live then err (s.updArr t.val (fun a => { a with passes := parityMark col.val row a.passes }))
    else (err s).updArr t.val Arr.dropWeights)

/-- ARR_STUCK (R79, R414): no further results; the blocks are held disabled and the token is released. DEDUCED: log entry 21. -/
def execArrStuck (t : Fin 144) (s : State) : Out :=
  .next (
    if (s.arr t.val).stuck ∨ (s.arr t.val).blocks = 0 then s
    else
      let old := s.arr t.val
      let s := s.updArr t.val (fun a => { a with stuck := true, ramp := 0, blocks := 0, token := false, want := 0, urgent := false })
      (s.waitEnded t.val old).arrError t.val 0x0A 2 0 0x13)

end Sys2Proof.Machine
end

