-- ==== Sys2Proof/Machine/Hoist.lean ====
section
/-! DEFINITION. The Hoist: declarations, prefetches, the end of detected streams (R76, R258–R262). -/

namespace Sys2Proof.Machine

/-- The tiles that have joined a stream. -/
def Slice.joined (k : Slice) (key : Nat) : List Nat := (k.members.filter (fun m => m.1 == key)).map (fun m => m.2.1)

/-- Replace the stream that has advanced least recently where the table is full (R258). -/
def State.hoistRoom (s : State) (n : Nat) : State :=
  let k := s.slice n
  if k.streams.length < 256 then s
  else match k.streams.foldl (fun (o : Option HStream) x => match o with
      | none => some x | some y => if x.age < y.age then some x else some y) none with
    | some d => (s.updSlice n (fun k => k.endStream d.key)).odInc 0x2400 0x16
    | none => s

/-- The stream declaration of an accepted pass (R76, R258). -/
def State.declareStream (s : State) (t : Nat) (d : Pd) : State :=
  if d.streamLines = 0 then s
  else
    let n := sectorOf t
    let ctx := (s.tile t).ctx
    let base := d.streamBase.toNat
    match (s.slice n).streams.find? (fun h => !h.detected && h.base == base && h.stride == d.lineStride && h.ctx == ctx) with
    | some h =>
      s.updSlice n (fun k => { k with
        streams := k.streams.map (fun x => if x.key == h.key then
          { x with lines := max x.lines d.streamLines, lastUse := max x.lastUse d.lastUse } else x),
        members := if (k.joined h.key).contains t then k.members else k.members ++ [(h.key, t, [])] })
    | none =>
      (s.hoistRoom n).updSlice n (fun k => { k with
        streams := k.streams ++ [{ key := k.nextKey, tile := t, mid := t, ctx := ctx, base := base, stride := d.lineStride,
                                   lines := d.streamLines, pos := 0, asked := [], lastUse := d.lastUse,
                                   remote := !(s.isLocal base), detected := false, age := k.age + 1 }],
        members := k.members ++ [(k.nextKey, t, [])], nextKey := k.nextKey + 1, age := k.age + 1 })

/-- A tile whose task reaches a final state leaves its streams; a stream without a tile ends (R262). -/
def State.leaveStreams (s : State) (t : Nat) : State :=
  s.updSlice (sectorOf t) (fun k =>
    let ms := k.members.filter (fun m => m.2.1 != t)
    { k with members := ms, streams := k.streams.filter (fun h => ms.any (fun m => m.1 == h.key)) })

/-- The address of a stream's line. -/
def HStream.lineAt (h : HStream) (i : Nat) : Nat := h.base + i * h.stride * 256

/-- The next line of a stream to prefetch: the lowest from the position on that has no prefetch yet, within the lookahead
and the stream, and whose home slice is not under stream no-allocate (R244, R259). DEDUCED: log entry 55. -/
def State.nextPrefetch (s : State) (h : HStream) : Option Nat :=
  ((List.range (s.odNat 0x2400 8)).map (fun d => h.pos + d)).find? (fun i =>
    (h.detected || decide (i < h.lines)) && !h.asked.contains i && !s.noAlloc (sliceOf (s.lineKey (h.lineAt i)).1))

/-- HOIST_PREFETCH (R259, R260): the next line of a stream, where its place is one that is prefetched; none
to a slice under stream no-allocate (R244), none without an LLC (R238). DEDUCED: log entry 55. -/
def execHoistPrefetch (slice : Fin 8) (key : Nat) (s : State) : Out :=
  .next (
    let k := s.slice slice.val
    match k.streams.find? (fun h => h.key == key) with
    | none => s
    | some h =>
      match s.nextPrefetch h with
      | none => s
      | some i =>
        let a := h.lineAt i
        let mid := (k.joined key).foldl min 0xFFFF
        if !s.hasLlc then s else
        let s := s.updSlice slice.val (fun k => { k with
          streams := k.streams.map (fun x => if x.key == key then { x with asked := x.asked ++ [i] } else x) })
        let local_ := s.isLocal a
        let imm := match s.checkAccess mid h.ctx .R a 256 with | .ok ok => ok.imm | .error _ => true
        if 2 ^ 64 ≤ a ∨ (local_ ∧ regionOf (addrOffset a) ≠ some .hbm ∧ (regionOf (addrOffset a)).isSome)
            ∨ (!local_ && !imm) then s
        else (s.access { newReq (.master mid) h.ctx .prefetch a 256 [] 0 with op := key } .R).1)

/-- DETECTED_STREAM_IDLE (R262). -/
def execDetectedStreamIdle (slice : Fin 8) (key : Nat) (s : State) : Out :=
  .next (
    if (s.slice slice.val).streams.any (fun h => h.key == key && h.detected) then
      s.updSlice slice.val (fun k => k.endStream key)
    else s)

end Sys2Proof.Machine
end

