-- ==== Sys2Proof/Machine/Operands.lean ====
section
/-! DEFINITION. Operands of the control core's instruction words (R123): fields, immediates, reserved bits, and the
functions of the ALU. -/

namespace Sys2Proof.Machine

def insGen (w : W32) : Nat := fld w 30 2
def insClass (w : W32) : Nat := fld w 26 4
/-- The registers at bits 25:21, 20:16 and 15:11. -/
def insRd (w : W32) : Nat := fld w 21 5
def insRa (w : W32) : Nat := fld w 16 5
def insRb (w : W32) : Nat := fld w 11 5
/-- A sign-extended n-bit immediate at bit 0. -/
def insImm (n : Nat) (w : W32) : W64 := BitVec.ofInt 64 (sgn n w.toNat)

/-- The function of an instruction: at the place its class gives it. -/
def insFunc (w : W32) : Nat :=
  match insClass w with
  | 0x0 => fld w 0 6
  | 0x1 => fld w 12 4
  | 0x3 => fld w 13 3
  | 0x4 => fld w 23 3
  | 0x7 => fld w 0 6
  | 0x8 => fld w 12 4
  | 0x9 => fld w 22 4
  | 0xA => fld w 22 4
  | _ => 0

/-- Whether class and function are defined (check 2 of R124). -/
def insDefined (w : W32) : Bool :=
  let f := insFunc w
  match insClass w with
  | 0x0 => decide (f < 16)
  | 0x1 => decide (f < 9)
  | 0x2 => true
  | 0x3 => true
  | 0x4 => decide (f < 6)
  | 0x5 => true
  | 0x6 => true
  | 0x7 => decide (0x08 ≤ f ∧ f ≤ 0x16 ∧ f ≠ 0x0A)
  | 0x8 => decide (f < 4)
  | 0x9 => decide (f < 5)
  | 0xA => decide (f < 6)
  | _ => false

/-- The must-be-zero bits of an instruction (check 3 of R124): reserved fields and fields that a function does not use. For
the SYNC class see `syncReserved`. -/
def insReserved (w : W32) : W32 :=
  let f := insFunc w
  match insClass w with
  | 0x0 => 0x0000_07C0
  | 0x1 => if 4 ≤ f ∧ f ≤ 6 then 0x0000_0FC0 else 0
  | 0x2 => 0x001C_0000
  | 0x6 => 0x0000_FFFF
  | 0x7 => syncReserved f
  | 0x8 => 0x03E0_01FF ||| (if f = 2 then (if bitOf w 9 then 0x0000_0C00 else 0) else 0x0000_0E00)
  | 0x9 => 0x0000_07FF ||| (if f = 4 then 0 else 0x0000_F800)
  | 0xA => 0x0001_F000 ||| (if f = 1 ∨ f = 2 then 0 else 0x003E_0FFF)
  | _ => 0
where
  /-- SYNC: bits 10:6 are reserved, and rb is a field only where the operation takes one (R203). -/
  syncReserved (f : Nat) : W32 := if f = 0x09 ∨ f = 0x0B then 0x0000_07C0 else 0x0000_FFC0

/-- The functions of the ALU class (R123). -/
def aluOp (f : Nat) (a b : W64) : W64 :=
  let sh := fld b 0 6
  match f with
  | 0x0 => a + b
  | 0x1 => a - b
  | 0x2 => a &&& b
  | 0x3 => a ||| b
  | 0x4 => a ^^^ b
  | 0x5 => BitVec.ofNat 64 (a.toNat <<< sh)
  | 0x6 => BitVec.ofNat 64 (a.toNat >>> sh)
  | 0x7 => a.sshiftRight sh
  | 0x8 => if sltNat 64 a.toNat b.toNat then 1 else 0
  | 0x9 => if a.toNat < b.toNat then 1 else 0
  | 0xA => a * b
  | 0xB => BitVec.ofNat 64 (a.toNat * b.toNat / 2 ^ 64)
  | 0xC => if sltNat 64 b.toNat a.toNat then b else a
  | 0xD => if sltNat 64 a.toNat b.toNat then b else a
  | 0xE => if b.toNat < a.toNat then b else a
  | _ => if a.toNat < b.toNat then b else a

/-- The ALU function of each ALUI function (R123). -/
def aluiFunc (f : Nat) : Nat :=
  match f with
  | 0 => 0x0 | 1 => 0x2 | 2 => 0x3 | 3 => 0x4 | 4 => 0x5 | 5 => 0x6 | 6 => 0x7 | 7 => 0x8 | _ => 0x9

/-- Bytes of a MEM access (R123). -/
def memSize (f : Nat) : Nat := 2 ^ (f % 4)

end Sys2Proof.Machine
end

