-- ==== Sys2Proof/Machine/RegWrite.lean ====
section
/-! DEFINITION. Writes to register fields that have no row of their own (R7, R9), the debug registers of a tile and the
reads that clear. -/

namespace Sys2Proof.Machine

/-- A flag after a write of 1 to clear it at bit i of a covered word. -/
def w1c (v : W64) (i : Nat) (b : Bool) : Bool := b && !bitOf v i

/-- A write of the bits v of a mask m to a register of the tile block below 0x1000, under its access code: W1C bits clear,
SYN_TIMEOUT has a row of its own, everything else is read only. -/
def State.tileRegWrite (s : State) (t o : Nat) (v : W64) : State :=
  if o = 0x0100 then s.updCore t (fun c => { c with fault := if bitOf v 63 then c.fault &&& (0x7FFF_FFFF_FFFF_FFFF : W64) else c.fault })
  else if o = 0x0400 then
    s.updArr t (fun a => { a with poison := w1c v 27 a.poison, satInt := w1c v 26 a.satInt, infOut := w1c v 25 a.infOut,
                                  nanOut := w1c v 24 a.nanOut })
  else if o = 0x0800 then
    s.updTge t (fun g => { g with deadRead := w1c v 7 g.deadRead, satInt := w1c v 6 g.satInt, nanOut := w1c v 5 g.nanOut,
                                  infOut := w1c v 4 g.infOut })
  else if o = 0x0808 then s.updTge t (fun g => { g with fault := if bitOf v 63 then g.fault &&& (0x7FFF_FFFF_FFFF_FFFF : W64) else g.fault })
  else s

/-! Debug registers (R500–R506). -/

/-- A write to DBG_RDATA (R506): it makes a v register live. -/
def State.rdataWrite (s : State) (t : Nat) (v : W64) : State :=
  if (s.dbg t).state ≠ 2 then s.updDbg t (fun d => { d with notHalted := true })
  else
    let sel := (s.dbg t).rsel
    let r := fld sel 0 7
    let slot := fld sel 50 6
    let lane := fld sel 45 5
    if fld sel 62 2 = 0 then
      (if r < 32 then s.updCore t (fun c => c.setReg r v) else if r = 32 then s.updCore t (fun c => { c with pc := v }) else s)
    else s.updGrp t slot (fun g =>
      if fld sel 62 2 = 1 then g.setMain r lane (BitVec.ofNat 32 v.toNat)
      else if fld sel 62 2 = 2 then (if r < 64 then g.setU r v else g)
      else if r = 0 then { g with pc := v }
      else if 2 ≤ r ∧ r ≤ 9 then g.setP (r - 2) (BitVec.ofNat 32 v.toNat)
      else g)

/-- A step of a halted tile begins (R504): kind 1 the control core, 2 the group named in DBG_CTL. -/
def State.startStep (s : State) (t kind : Nat) : State :=
  let x := s.tile t
  if x.dbg.state ≠ 2 then s.updDbg t (fun d => { d with notHalted := true })
  else
    s.setTile t { x with
      dbg := { x.dbg with state := 3, step := kind, cause := 0 },
      core := if kind = 1 then { x.core.unhalt with skipBp := x.dbg.stoppedAt x.core.pc } else x.core,
      tge := if kind = 2 then x.tge.syncDone (fld x.dbg.ctl 8 6) else x.tge }

/-- A write to DBG_CTL: the fields that it covers, then the commands among its bits (R500, R503, R504). -/
def State.dbgCtl (s : State) (t : Nat) (w : WrIn) : State :=
  let v := w.value &&& w.mask
  let s := s.updDbg t (fun d => { d with ctl := w.merge d.ctl &&& 0x1_3F00 })
  let s := if bitOf v 0 then s.startHalt t 1 0 else s
  let s := if bitOf v 1 then s.resume t else s
  let s := if bitOf v 2 then s.startStep t 1 else s
  if bitOf v 3 then s.startStep t 2 else s

/-- A write to a debug register other than DBG_CTL and DBG_RDATA. -/
def State.dbgWrite (s : State) (t o : Nat) (w : WrIn) : State :=
  if o = 0x1008 then
    let v := w.value &&& w.mask
    s.updDbg t (fun d => { d with notHalted := w1c v 18 d.notHalted, dead := w1c v 17 d.dead, drainLate := w1c v 16 d.drainLate })
  else if 0x1010 ≤ o ∧ o < 0x1030 then
    s.updDbg t (fun d => { d with bp := SMap.upd 0 d.bp ((o - 0x1010) / 8) (fun b => w.merge b &&& 0xFFFF_FFFF_FFFF_FFFD) })
  else if o = 0x1030 then s.updDbg t (fun d => { d with rsel := w.merge d.rsel &&& 0xC0FF_E000_0000_007F })
  else s

/-! The other blocks. -/

/-- Budgets and quota of a port: LOCK makes them ignore writes, for masters 0x090–0x0FB (R310). -/
def State.portWrite (s : State) (n o : Nat) (w : WrIn) : State :=
  let p := s.port n
  let v := w.value &&& w.mask
  if o = 0x0000 then s.setPort n { p with lock := p.lock || bitOf v 0 }
  else if o = 0x0008 then s.setPort n { p with stuck := w1c v 8 p.stuck }
  else if o = 0x0010 then (if p.lock then s else s.setPort n { p with quota := w.merge p.quota })
  else if 0x1000 ≤ o ∧ o < 0x17E0 then
    let m := (o - 0x1000) / 8
    if midReserved m || (p.lock && decide (0x90 ≤ m)) then s
    else s.setPort n { p with budget := SMap.put p.budget m (fld (w.merge (BitVec.ofNat 64 (p.budgetOf m))) 0 23) }
  else s

/-- A write that has reached a register with no row of its own. -/
def State.regWrite (s : State) (c : Nat) (w : WrIn) : State :=
  let v := w.value &&& w.mask
  let o := c / 8 * 8
  if o < 0x90_0000 then
    let t := o / 0x1_0000
    let r := o % 0x1_0000
    if r = 0x1000 then s.dbgCtl t w
    else if 0x1000 < r then s.dbgWrite t r w
    else s.tileRegWrite t r v
  else if 0x400_0000 ≤ o ∧ o < 0x408_0000 ∧ o % 0x1_0000 = 0x100 then
    s.updSlice ((o - 0x400_0000) / 0x1_0000) (fun k =>
      { k with ropStuck := w1c v 17 k.ropStuck, ropOverflow := w1c v 16 k.ropOverflow })
  else if o = 0x408_0200 then { s with bed := { s.bed with pinBad := w1c v 1 s.bed.pinBad, pinWhile := w1c v 0 s.bed.pinWhile } }
  else if 0x500_0000 ≤ o ∧ o < 0x508_0000 ∧ o % 0x1_0000 = 0x28 then
    s.updStack ((o - 0x500_0000) / 0x1_0000) (fun k => { k with pattern := w.merge k.pattern })
  else if 0x600_0000 ≤ o ∧ o < 0x65A_0000 then s.portWrite ((o - 0x600_0000) / 0x1_0000) (o % 0x1_0000) w
  else if 0x700_0000 ≤ o ∧ o < 0x714_0000 ∧ o % 0x1_0000 = 0x2000 then
    s.updTable ((o - 0x700_0000) / 0x1_0000) (fun t => { t with lock := t.lock || bitOf v 0 })
  else if 0x700_0000 ≤ o ∧ o < 0x714_0000 ∧ o % 0x1_0000 = 0x2008 then
    s.updTable ((o - 0x700_0000) / 0x1_0000) (fun t => { t with badEntry := w1c v 1 t.badEntry, whileValid := w1c v 0 t.whileValid })
  else if 0x9000_0000 ≤ o ∧ o < 0x9002_0000 ∧ o % 0x2000 = 0 then
    { s with od := { s.od with sel := SMap.upd 0 s.od.sel ((o - 0x9000_0000) / 0x2000) (fun x => w.merge x &&& 0x00FF_FFFF_00FF_FFFF) } }
  else s

/-- Offsets of the control space whose writes have a row of their own. -/
def ownRow (c : Nat) : Bool :=
  let o := c / 8 * 8
  (decide (o < 0x90_0000) && (o % 0x1_0000 == 0x110 || o % 0x1_0000 == 0x1038)) ||
  (decide (0x400_0000 ≤ o ∧ o < 0x408_0000) && o % 0x1_0000 == 0x118) ||
  decide (0x408_0000 ≤ o ∧ o < 0x408_0200 ∧ o % 0x20 < 0x18) || o == 0x408_0208 ||
  (decide (0x500_0000 ≤ o ∧ o < 0x508_0000) && o % 0x1_0000 == 0x30) ||
  isActEntry (fun i => decide (i < 3)) o || isActSync o ||
  decide (0x800_0000 ≤ o ∧ o < 0x804_0000 ∧ o % 0x1000 < 8) || o == 0x900_0000 ||
  decide (0x810_0000 ≤ o ∧ o < 0x811_0000) || decide (0x812_0000 ≤ o ∧ o < 0x812_0800 ∧ o % 0x40 < 0x28) ||
  decide (0x8000_0000 ≤ o ∧ o < 0x9000_0000) || (decide (0x9000_0000 ≤ o ∧ o < 0x9002_0000) && decide (0x1000 ≤ o % 0x2000))

/-- Where a plain register write may go: the control space outside the rows of their own, and the hand-set operands of the
synchronisation window. -/
def plainReg (off : Nat) : Bool :=
  inCtrl (fun c => !ownRow c) off || decide (0x102_0500_0000 ≤ off ∧ off < 0x102_0500_0010)

/-- REGISTER_WRITE: the field takes the value under its access code; reserved fields ignore it. -/
def execRegisterWrite (w : Wr) (s : State) : Out :=
  .next (match s.takeWr w plainReg with
    | (s, none) => s
    | (s, some x) =>
      if x.off / 8 = 0x102_0500_0000 / 8 then s.updSync (fun y => { y with handObj := x.merge y.handObj &&& 0xFFFF_FFFF })
      else if x.off / 8 = 0x102_0500_0008 / 8 then s.updSync (fun y => { y with handVal := x.merge y.handVal })
      else s.regWrite (x.off - 0x103_0000_0000) x)

/-- Whether a control-space offset holds a field with access code RC. -/
def isRc (c : Nat) : Bool :=
  (decide (0x400_0000 ≤ c ∧ c < 0x408_0000) && c % 0x1_0000 / 8 == 0) ||
  (decide (0x600_0000 ≤ c ∧ c < 0x65A_0000 ∧ 0x100 ≤ c % 0x1_0000 ∧ c % 0x1_0000 < 0x280) && (c % 0x1_0000 - 0x100) % 0x18 / 8 == 2)

/-- A read by a master outside the tiles: its check, and its answer in `resp`. DESIGN CHOICE: log entry 6. -/
def State.masterRead (s : State) (mid a len : Nat) (read : State → List Byte × State) : State :=
  if mid < 0x98 || !midIssued mid || (mid == 0x0FB && s.debugLocked) then s
  else
    let who := whoOfMid mid
    match s.checkAccess mid 0 .R a len with
    | .error (c, t) => s.refuse who 0 c t a
    | .ok g =>
      let (s, here) := s.enter who g.cls a ((len + 63) / 64)
      if !here then s
      else
      let (bs, s) := read s
      { s with resp := s.resp ++ [{ who := who, ctx := 0, code := 0, addr := a, data := clean bs }] }

/-- RC_REGISTER_READ: the value is returned, and the field reads zero from then on (R7). -/
def execRcRegisterRead (mid : Mid) (addr : W64) (s : State) : Out :=
  .next (
    let a := addr.toNat
    match ctrlOf (addrOffset a) with
    | some c => if s.isLocal a && isRc c then s.masterRead mid.toNat a 8 (fun s => s.ctrlRead (whoOfMid mid.toNat) (c / 8 * 8) 8) else s
    | none => s)

/-! Debug rows. -/

/-- A DBG_CTL write with one of its command bits. -/
def State.dbgCommand (s : State) (w : Wr) (bit : Nat) : State :=
  match s.takeWr w (inCtrl (fun c => decide (c < 0x90_0000) && c % 0x1_0000 / 8 == 0x1000 / 8)) with
  | (s', some x) => if bitOf (x.value &&& x.mask) bit then s'.dbgCtl ((x.off - 0x103_0000_0000) / 0x1_0000) x else s
  | (s', none) => s'

def execHalt (w : Wr) (s : State) : Out := .next (s.dbgCommand w 0)
def execDbgResume (w : Wr) (s : State) : Out := .next (s.dbgCommand w 1)
def execStepCore (w : Wr) (s : State) : Out := .next (s.dbgCommand w 2)
def execStepGroup (w : Wr) (s : State) : Out := .next (s.dbgCommand w 3)

/-- DBG_RDATA_READ (R506). -/
def execDbgRdataRead (t : Fin 144) (mid : Mid) (s : State) : Out :=
  .next (
    let off := 0x103_0000_1038 + t.val * 0x1_0000
    s.masterRead mid.toNat (s.globalOf off).toNat 8 (fun s => let (v, s) := s.rdata t.val; (leBytes 8 v.toNat, s)))

/-- DBG_RDATA_WRITE (R506). -/
def execDbgRdataWrite (w : Wr) (s : State) : Out :=
  .next (match s.takeWr w (inCtrl (fun c => decide (c < 0x90_0000) && c % 0x1_0000 / 8 == 0x1038 / 8)) with
    | (s, none) => s
    | (s, some x) =>
      let t := (x.off - 0x103_0000_0000) / 0x1_0000
      s.rdataWrite t (x.merge (s.rdataRead t).1))

end Sys2Proof.Machine
end

