-- ==== Sys2Proof/Machine/CoreOps.lean ====
section
/-! DEFINITION. The control core's shared operations: fetch, the checks of R124, faults (R125), the acceptance of work
(R127). -/

namespace Sys2Proof.Machine

/-- The instruction word at an address in a cache of 64-byte lines. -/
def cachedWord (ic : SMap (List PByte)) (pc : W64) : Option (List PByte) :=
  (SMap.find ic (pc.toNat / 64)).map (fun l => (l.drop (pc.toNat % 64 / 4 * 4)).take 4)

/-- The word of instruction bytes. -/
def insWord (bs : List PByte) : W32 := BitVec.ofNat 32 (leNat (vals bs))

/-- The instruction word at the core's PC, zero where it has not been fetched. -/
def Core.word (c : Core) : W32 := match cachedWord c.icache c.pc with | some bs => insWord bs | none => 0

/-- TILE_FAULT and TILE_FAULT_PC take a fault; the core enters state 5 (R125). -/
def State.faultRegs (s : State) (t cls code : Nat) : State :=
  let s := s.odInc 0x2B80 2
  (s.updCore t (fun c => { c with
    fault := placeB true 63 ||| place c.word.toNat 16 32 ||| place cls 8 8 ||| place code 0 8, faultPc := c.pc,
    st := 5, wait := none, issue := none })).coreDone t

/-- A precise fault of the control core (R125): the record with PC and instruction word, the registers, the abort. -/
def State.coreFault (s : State) (t cls code : Nat) (addr : W64) : State :=
  let c := s.core t
  let layer := if cls = 0x07 then 2 else 1
  let det := detField 38 8 c.pc.toNat ||| detField 46 4 c.word.toNat
  let s := s.report (s.mkRec cls code 1 layer (BitVec.ofNat 32 t) (faultObj cls addr.toNat) ((Who.core t).waiter 0) addr
    (s.tileCtx t) det)
  let s := if cls = 0x05 ∧ 6 ≤ code ∧ code ≤ 0x0C then s.odInc 0x2B80 3 else s
  let s := if cls = 0x07 then s.odInc 0x2A00 5 else s
  (s.faultRegs t cls code).abortTask t codeTaskFault

/-- Whether the core of a tile may execute: running, with a task placed that has not been aborted on the tile. -/
def Tile.coreRuns (x : Tile) : Bool := x.core.st == 1 && x.task.isSome && !x.aborting

/-- The fault of checks 4 and 5 of R124 on a word that has passed the others: its code and address. -/
def State.operandFault (s : State) (t : Nat) (w : W32) : Option (Nat × W64) :=
  let c := s.core t
  let cls := insClass w
  let f := insFunc w
  let off := (c.reg (insRa w)).toNat
  if cls = 0x8 ∧ f = 1 then (if insRa w = 8 ∨ insRa w = 16 ∨ insRa w = 24 then none else some (0x04, 0))
  else if cls = 0x8 then
    (if 0x5F_FFFF < off then some (0x04, s.globalOf (storeBase t + off))
     else if off % (if f = 0 then 64 else 32) ≠ 0 then some (0x05, s.globalOf (storeBase t + off)) else none)
  else if cls = 0xA ∧ (f = 1 ∨ f = 2) then (if 0x200 ≤ fld w 0 12 then some (0x04, 0) else none)
  else if cls = 0x3 then
    (let a := c.reg (insRa w) + insImm 13 w
     if a.toNat % memSize f ≠ 0 then some (0x05, a) else none)
  else if cls = 0x6 then (if off % 4 ≠ 0 then some (0x05, c.reg (insRa w)) else none)
  else none

/-- A poisoned instruction word faults with ECC_POISON once it has passed the checks of R124. -/
def State.poisonedWord (s : State) (t : Nat) (w : W32) : State :=
  if w &&& insReserved w ≠ 0 then s.coreFault t 0x05 0x03 0
  else match s.operandFault t w with
    | some (code, a) => s.coreFault t 0x05 code a
    | none => s.coreFault t 0x01 0x02 (s.core t).pc

/-- The line of the instruction cache that a fetch of the PC looks up: one whose tag has a parity error is invalidated (R292). -/
def State.icTags (s : State) (t : Nat) : State :=
  let c := s.core t
  let k := c.pc.toNat / 64
  if c.icPerr.contains k then
    (s.updCore t (fun c => { c with icache := SMap.drop c.icache k, icPerr := without c.icPerr k })).tagParity 0 1 t
  else s

/-- Execute the instruction at the PC as one of a class and function: breakpoint, the checks of R124 up to the
reserved bits, poison, then its effect. An instruction of another class or function is not this command's.
DESIGN CHOICE: log entry 25. -/
def State.coreExec (s : State) (t cls : Nat) (func : Option Nat) (body : State → W32 → State) : State :=
  let s := s.icTags t
  let x := s.tile t
  match cachedWord x.core.icache x.core.pc with
  | none => s
  | some bs =>
    let w := insWord bs
    if !x.coreRuns then s
    else match (if x.core.skipBp then none else x.dbg.bpAt x.core.pc) with
      | some i => s.startHalt t 3 i
      | none =>
        if insGen w ≠ 0 then s.coreFault t 0x05 0x01 0
        else if !insDefined w then s.coreFault t 0x05 0x02 0
        else if poisoned bs then s.poisonedWord t w
        else if insClass w != cls || (match func with | some f => insFunc w != f | none => false) then s
        else if w &&& insReserved w ≠ 0 then s.coreFault t 0x05 0x03 0
        else body s w

/-- An instruction completes: the PC moves on. -/
def State.coreNext (s : State) (t : Nat) (pc : W64) : State := (s.updCore t (fun c => { c with pc := pc })).coreDone t

/-- The instruction writes rd and the PC moves to the next instruction. -/
def State.coreWrite (s : State) (t rd : Nat) (v : W64) : State :=
  (s.updCore t (fun c => c.setReg rd v)).coreNext t ((s.core t).pc + 4)

/-- The context that a tile's requests carry (R43). -/
def State.ctxOf (s : State) (t : Nat) : Nat := (s.tile t).ctx

/-- The core waits (state 3). -/
def State.coreWaits (s : State) (t : Nat) (w : CoreWait) : State := s.updCore t (fun c => { c with st := 3, wait := some w })

/-! Acceptance of work (R127). -/

/-- Acceptance at the head of the program order: the operation's number, its registrations, and the core goes on. -/
def State.acceptOp (s : State) (t : Nat) (regs : Nat → List SbReg) (f : Nat → Tile → Tile) : State :=
  let op := (s.core t).nextOp
  (s.updTile t (fun x =>
    let x := f op x
    { x with sb := x.sb ++ regs op,
             core := { x.core with nextOp := op + 1, issue := none, st := 1, pc := x.core.pc + 4 } })).coreDone t

/-- Whether the scoreboard can hold more registrations (R132). -/
def Tile.sbRoom (x : Tile) (n : Nat) : Bool := decide (x.sb.length + n ≤ 256)

/-- A pass in the queue. -/
def Pass.new (d : Pd) (op no : Nat) : Pass :=
  { pd := d, op := op, no := no, st := .queued, wset := none, rows := [], rowsIn := 0, colsOut := [], parity := [], prevs := [], cut := false,
    noStart := false }

/-- A pass descriptor passes its checks (R68), or faults; it is accepted once the queue and the scoreboard have room. -/
def State.offerPass (s : State) (t : Nat) (ws : List W64) (addr : W64) : State :=
  let x := s.tile t
  let d := Pd.ofWords ws
  match d.check x.arr.lastKeep with
  | some c => s.coreFault t 0x07 c addr
  | none =>
    let regs := fun op => mergeNamings op (.array t) true d.namings
    if 4 ≤ x.arr.queued.length ∨ ¬ x.sbRoom (regs 0).length then s
    else
      let riddle := s.riddle t
      let s := (s.acceptOp t regs (fun op x =>
        { x with passNo := x.passNo + 1, arr := ({ x.arr with passes := x.arr.passes ++ [Pass.new d op x.passNo],
                                                              lastKeep := some d }).accepted riddle })).declareStream t d
      let s := s.waitEnded t x.arr
      (s.traceTile t 0x02 (leBytes 8 (ws.getD 0 0).toNat ++ leBytes 4 x.passNo)).dumpFire t d x.passNo

/-- The mover that a descriptor goes to: the one named, or the lowest-numbered with a free slot. DESIGN CHOICE: log entry 26. -/
def Tile.moverFor (x : Tile) (m : Option Nat) : Option Nat :=
  match m with
  | some m => if (x.mover m).length < 16 then some m else none
  | none => (List.range 4).find? (fun m => decide ((x.mover m).length < 16))

/-- A DMA descriptor (R129). -/
def State.offerDma (s : State) (t : Nat) (ws : List W64) (m : Option Nat) (addr : W64) : State :=
  let x := s.tile t
  let d := Dd.ofWords ws
  match d.check with
  | some c => s.coreFault t 0x05 c addr
  | none =>
    match x.moverFor m with
    | none => s
    | some m =>
      let regs := fun op => mergeNamings op (.mover t m) false d.namings
      if x.sbRoom (regs 0).length then
        s.acceptOp t regs (fun op x =>
          { x with movers := SMap.put x.movers m (x.mover m ++ [{ dd := d, op := op, started := false, issued := false,
                                                                  row := 0, off := 0, rops := 0 }]) })
      else s

/-- A kernel launch descriptor (R130). -/
def State.offerKernel (s : State) (t : Nat) (ws : List W64) (addr : W64) : State :=
  let x := s.tile t
  let k := Kl.ofWords ws
  match k.check with
  | some c => s.coreFault t 0x05 c addr
  | none =>
    let regs := fun op => mergeNamings op (.l1 t) false k.namings
    if 4 ≤ x.tge.kq.length + (if x.tge.kern.isSome then 1 else 0) ∨ ¬ x.sbRoom (regs 0).length then s
    else s.acceptOp t regs (fun op x => { x with tge := { x.tge with kq := x.tge.kq ++ [(k, op)] } })

/-- Bytes of the descriptor of an ISSUE function. -/
def descBytes (f : Nat) : Nat := if f ≤ 1 then 64 else 32

/-- A stalled ISSUE goes as far as it can (R121, R127): its descriptor is read once every earlier store has been
performed; a poisoned word faults; then its checks, and acceptance where there is room. -/
def State.tryAccept (s : State) (t : Nat) : State :=
  let c := s.core t
  match c.issue with
  | none => s
  | some i =>
    if c.st ≠ 2 ∨ ¬ s.storesDone (fun w => w == .core t) then s
    else
      let a := s.globalOf (storeBase t + i.addr)
      let (got, s) := match i.words with
        | some ws => (some ws, s)
        | none =>
          let (bs, s) := s.memRead (.store t i.addr) (descBytes i.func) ((Who.core t).waiter 0)
          if poisoned bs then (none, s)
          else (some ((List.range (descBytes i.func / 8)).map (fun k => word64At (vals bs) (8 * k))), s)
      match got with
      | none => s.coreFault t 0x01 0x02 a
      | some ws =>
        let s := s.updCore t (fun c => { c with issue := some { i with words := some ws } })
        if i.func = 0 then s.offerPass t ws a
        else if i.func = 1 then s.offerPass t ws 0
        else if i.func = 2 then s.offerDma t ws i.mover a
        else s.offerKernel t ws a

/-- An ISSUE instruction stalls the core in state 2 and is accepted at once where it can be. -/
def State.startIssue (s : State) (t : Nat) (i : Issue) : State :=
  (s.updCore t (fun c => { c with st := 2, issue := some i })).tryAccept t

/-- The descriptor offset of an ISSUE instruction: checks 4 and 5 of R124. DEDUCED: log entry 27. -/
def State.issueAt (s : State) (t : Nat) (w : W32) (func al : Nat) (mover : Option Nat) : State :=
  let off := ((s.core t).reg (insRa w)).toNat
  let addr := s.globalOf (storeBase t + off)
  if 0x5F_FFFF < off then s.coreFault t 0x05 0x04 addr
  else if off % al ≠ 0 then s.coreFault t 0x05 0x05 addr
  else s.startIssue t { func := func, mover := mover, addr := off, words := none }

end Sys2Proof.Machine
end

