-- ==== Sys2Proof/Machine/GroupDecode.lean ====
section
/-! DEFINITION. Group instruction words (R150): fields, the operands of each operation, the checks of R151. -/

namespace Sys2Proof.Machine

/-- DEDUCED: log entry 39. -/
def gGen (w : W64) : Nat := fld w 62 2
def gCls (w : W64) : Nat := fld w 58 4
def gOp (w : W64) : Nat := fld w 52 6
def gPen (w : W64) : Bool := bitOf w 51
def gPneg (w : W64) : Bool := bitOf w 50
def gPred (w : W64) : Nat := fld w 47 3
def gVd (w : W64) : Nat := fld w 40 7
def gVa (w : W64) : Nat := fld w 33 7
def gVb (w : W64) : Nat := fld w 26 7
def gVc (w : W64) : Nat := fld w 19 7
def gLu (w : W64) : Nat := fld w 16 3
def gImm (w : W64) : Nat := fld w 0 16

/-- What an operand field names: nothing, a v register, n v registers at a multiple of `al`, a u register, a predicate
register, an add-to-line format. -/
inductive GOpd where
  | none | v | vs (n al : Nat) | u | p | fmt
  deriving DecidableEq, Repr

/-- How an operation uses the fields: its operands, the IMM bits that it uses, whether PEN, PNEG and PRED predicate it, and
whether PNEG and PRED give its condition. -/
structure GUse where
  vd : GOpd
  va : GOpd
  vb : GOpd
  vc : GOpd
  imm : Nat
  pred : Bool
  cond : Bool
  deriving DecidableEq, Repr

def pair : GOpd := .vs 2 2

/-- An operand that USEL bit i may turn to a u register. -/
def uselOpd (w : W64) (i : Nat) : GOpd := if bitOf w i then .u else .v

/-- The use of an integer operation on lanes or on u registers. -/
def gUseInt (op : Nat) (va vb vd : GOpd) (selA selB : Nat) (pred : Bool) : Option GUse :=
  let m (imm : Nat) (vd vb : GOpd) : Option GUse := some { vd := vd, va := va, vb := vb, vc := .none, imm := imm, pred := pred, cond := false }
  if op < 0x0F then m (selA + selB) vd vb
  else if op = 0x0F then m (0x1FFF + selA) vd .none
  else if op = 0x10 then m (7 + selA + selB) .p vb
  else if op = 0x11 then m selA vd .none
  else none

/-- The use of a word's operation; none where class or operation is undefined (check 2 of R151). -/
def gUse (w : W64) : Option GUse :=
  let op := gOp w
  let mk (vd va vb vc : GOpd) (imm : Nat) (pred : Bool) : Option GUse :=
    some { vd := vd, va := va, vb := vb, vc := vc, imm := imm, pred := pred, cond := false }
  let a := uselOpd w 13
  let b := uselOpd w 14
  let c := uselOpd w 15
  match gCls w with
  | 0x0 => if op = 0x10 ∧ 6 ≤ fld w 0 3 then none else gUseInt op a b .v 0x2000 0x4000 true
  | 0x1 =>
    if op = 3 then mk .v a b c 0xE000 true
    else if op < 6 then mk .v a b .none 0x6000 true
    else if op = 6 ∨ op = 7 then mk .v a .none .none 0x2000 true
    else if op = 8 then mk .p a b .none 0x6003 true
    else none
  | 0x2 =>
    if op = 0 ∨ op = 4 then mk .v .v .none .none 0xFFFF true
    else if op = 1 ∨ op = 5 then mk pair .v .none .none 0xFFFF true
    else if op = 2 ∨ op = 6 then mk .none .v .v .none 0xFFFF true
    else if op = 3 ∨ op = 7 then mk .none .v pair .none 0xFFFF true
    else none
  | 0x3 =>
    if op = 1 ∨ op = 0xA then mk pair .v pair .none 0xFFFF true
    else if op = 0xB then mk .v .v .v .v 0xFFFF true
    else if op < 0xB then mk .v .v .v .none 0xFFFF true
    else if op = 0xC then
      let f := gVd w % 16
      if f = 6 ∨ f = 7 ∨ 12 ≤ f then none else mk .fmt .v (if f = 3 then pair else .v) .none 0xFFFF true
    else none
  | 0x4 =>
    if op < 3 then mk .none .none .none .none 0 false
    else if op = 0x08 then mk pair .v .none .none 0xFFFF true
    else if op = 0x09 then mk .v .v .v .v 0xFFFF true
    else if op = 0x0B then mk .v .v pair .none 0xFFFF true
    else if (0x0C ≤ op ∧ op ≤ 0x11) ∨ (0x14 ≤ op ∧ op ≤ 0x16) then mk .v .v .none .none 0xFFFF true
    else none
  | 0x5 =>
    let ct (imm : Nat) (cond : Bool) : Option GUse :=
      some { vd := .none, va := .none, vb := .none, vc := .none, imm := imm, pred := false, cond := cond }
    if op = 0 ∨ op = 0xA ∨ op = 0xB then ct 0xFFFF true
    else if op = 4 ∨ op = 7 then ct 0 true
    else if op = 1 ∨ op = 5 ∨ op = 9 then ct 0xFFFF false
    else if op = 2 ∨ op = 3 ∨ op = 6 ∨ op = 8 then ct 0 false
    else if op = 0xC then mk .u .none .none .none 0xFFFF false
    else if op = 0xD then mk .none .u .none .none 0 false
    else none
  | 0x6 => if op = 0x10 ∧ 6 ≤ fld w 0 3 then none else gUseInt op .u .u .u 0 0 false
  | 0x7 =>
    if op < 3 then mk .p .p .p .none 0 false
    else if op = 3 then mk .p .p .none .none 0 false
    else if op = 4 ∨ op = 5 then mk .p .none .none .none 0 false
    else if op = 6 then mk .u .p .none .none 0 false
    else none
  | 0x8 =>
    if op = 0 then mk (.vs 8 8) (.vs 4 4) (.vs 4 4) (.vs 8 8) 0 false
    else if op = 1 then mk (.vs 8 8) (.vs 2 2) (.vs 2 2) (.vs 8 8) 3 false
    else if op = 2 then mk (.vs 8 8) (.vs 2 2) (.vs 2 2) (.vs 8 8) 0 false
    else none
  | 0x9 =>
    if op = 0 then mk .v .v .v .none 0 true
    else if op = 1 then mk .v .u .none .none 0 true
    else if op = 2 then mk .u .v .none .none 0 true
    else none
  | _ => none

/-- The reserved bits of an operand field with its value. -/
def GOpd.reservedOk : GOpd → Nat → Bool
  | .none, x => x == 0
  | .u, x => decide (x < 64)
  | .p, x => decide (x < 8)
  | .fmt, x => decide (x < 16)
  | _, _ => true

/-- Whether an operand may carry a last-use mark. -/
def GOpd.isV : GOpd → Bool
  | .v => true
  | .vs _ _ => true
  | _ => false

/-- Check 4 of R151 for one operand. -/
def GOpd.rangeOk : GOpd → Nat → Bool
  | .vs _ al, x => x % al == 0
  | _, _ => true

/-- The v registers that an operand names. -/
def GOpd.regs : GOpd → Nat → List Nat
  | .v, x => [x]
  | .vs n _, x => (List.range n).map (fun i => x + i)
  | _, _ => []

/-- Check 3 of R151. DEDUCED: log entry 39. -/
def GUse.reservedOk (u : GUse) (w : W64) : Bool :=
  let lu := gLu w
  u.vd.reservedOk (gVd w) && u.va.reservedOk (gVa w) && u.vb.reservedOk (gVb w) && u.vc.reservedOk (gVc w) &&
  (gImm w &&& (0xFFFF - u.imm)) == 0 &&
  (!lu.testBit 0 || u.va.isV) && (!lu.testBit 1 || u.vb.isV) && (!lu.testBit 2 || u.vc.isV) &&
  (if u.pred then gPen w || (!gPneg w && gPred w == 0)
   else if u.cond then !gPen w
   else !gPen w && !gPneg w && gPred w == 0)

/-- Check 4 of R151. -/
def GUse.rangeOk (u : GUse) (w : W64) : Bool :=
  u.vd.rangeOk (gVd w) && u.va.rangeOk (gVa w) && u.vb.rangeOk (gVb w) && u.vc.rangeOk (gVc w)

/-- Checks 1 to 4 of R151: the code of class 0x06. DEDUCED: log entry 39. -/
def gCheck (w : W64) : Option Nat :=
  if gGen w ≠ 0 then some 1
  else match gUse w with
    | none => some 2
    | some u => if !u.reservedOk w then some 3 else if !u.rangeOk w then some 4 else none

end Sys2Proof.Machine
end

