-- ==== Sys2Proof/Machine/GroupAlu.lean ====
section
/-! DEFINITION. The arithmetic of group instructions: integers, FP32, atomics, matrix fragments (R150, R152, R161–R163,
R170). -/

namespace Sys2Proof.Machine

/-- The integer operations on n bits (32 in lanes, 64 on u registers). DESIGN CHOICE: log entry 156. -/
def gIntOp (n op a b : Nat) : Nat :=
  let m := 2 ^ n
  let sh := b % n
  (match op with
   | 0x00 => a + b
   | 0x01 => a + (m - b % m)
   | 0x02 => a * b
   | 0x03 => ((sgn n a * sgn n b) / (m : Int)).emod m |>.toNat
   | 0x04 => a * b / m
   | 0x05 => a &&& b
   | 0x06 => a ||| b
   | 0x07 => a ^^^ b
   | 0x08 => a <<< sh
   | 0x09 => a >>> sh
   | 0x0A => (sgn n a / (2 ^ sh : Nat)).emod m |>.toNat
   | 0x0B => if sltNat n b a then b else a
   | 0x0C => if sltNat n a b then b else a
   | 0x0D => if b < a then b else a
   | 0x0E => if a < b then b else a
   | 0x0F => a + b
   | _ => a) % m

/-- The conditions of ICMP (R150). -/
def gCond (n c a b : Nat) : Bool :=
  if c = 0 then a == b
  else if c = 1 then a != b
  else if c = 2 then sltNat n a b
  else if c = 3 then !sltNat n a b
  else if c = 4 then decide (a < b)
  else !decide (a < b)

/-- An FP32 value as a signed 32-bit integer, nearest even, saturating; NaN gives 0 (R152). -/
def f2i (x : W32) : W32 :=
  match decFP32 x with
  | .nan => 0
  | .inf neg => if neg then 0x80000000 else 0x7FFFFFFF
  | .fin _ d =>
    let y := Dy.roundHalfEven d
    BitVec.ofInt 32 (if y < -(2 ^ 31) then -(2 ^ 31) else if 2 ^ 31 - 1 < y then 2 ^ 31 - 1 else y)

/-- The VFP operations 0x00–0x07 (R152). -/
def gFpOp (op : Nat) (a b c : W32) : W32 :=
  let x := decFP32 a
  let y := decFP32 b
  match op with
  | 0 => encFP32 (FVal.add x y)
  | 1 => encFP32 (FVal.add x y.neg)
  | 2 => encFP32 (FVal.mul x y)
  | 3 => encFP32 (FVal.add (FVal.mul x y) (decFP32 c))
  | 4 => fminmax false a b
  | 5 => fminmax true a b
  | 6 => encFP32 (FVal.ofDy (Dy.ofInt (sgn 32 a.toNat)))
  | _ => f2i a

/-- The conditions of FCMP: EQ, LT, LE, NE; only NE holds with a NaN. -/
def gFpCond (c : Nat) (a b : W32) : Bool :=
  let x := decFP32 a
  let y := decFP32 b
  if c = 0 then FVal.eqv x y
  else if c = 1 then FVal.lt x y
  else if c = 2 then FVal.lt x y || FVal.eqv x y
  else !FVal.eqv x y

/-- The new value of a returning atomic (R150, R170). -/
def atomOp (op old b c : Nat) : Nat :=
  match op with
  | 0x0 => (old + b) % 2 ^ 32
  | 0x1 => (old + b) % 2 ^ 64
  | 0x2 => gIntOp 32 0x0B old b
  | 0x3 => gIntOp 32 0x0C old b
  | 0x4 => gIntOp 32 0x0D old b
  | 0x5 => gIntOp 32 0x0E old b
  | 0x6 => old &&& b
  | 0x7 => old ||| b
  | 0x8 => old ^^^ b
  | 0x9 => b
  | 0xA => b
  | _ => if old = b then c else old

/-- Bytes of an atomic. -/
def atomSize (op : Nat) : Nat := if op = 1 ∨ op = 0xA then 8 else 4

/-! Matrix fragments (R161). `f reg lane` is the value of a register in a lane; `live` the lanes whose elements count. -/

/-- The element code (r, c) of an A or B fragment at a base register. -/
def fragCode (bf16 : Bool) (f : Nat → Nat → Nat) (live : Nat) (base r c : Nat) : Nat :=
  let lane := 2 * r + c / 8
  let s := c % 8
  if !live.testBit lane then 0
  else if bf16 then natFld (f (base + s / 2) lane) (16 * (s % 2)) 16
  else natFld (f (base + s / 4) lane) (8 * (s % 4)) 8

/-- One D element of a GMX operation (R163): the 32-bit result and the flags SAT, NaN, Inf. -/
def gmxElem (op immAB : Nat) (f : Nat → Nat → Nat) (live va vb vc r c : Nat) : W32 × Bool × Bool × Bool :=
  let cin := f (vc + c % 8) (2 * r + c / 8)
  let as := (List.range 16).map (fun k => fragCode (op == 0) f live va r k)
  let bs := (List.range 16).map (fun k => fragCode (op == 0) f live vb k c)
  if op = 2 then
    let sum := (List.zipWith (fun a b => sgn 8 a * sgn 8 b) as bs).foldl (· + ·) 0
    let (y, sat) := satInt 32 (sgn 32 cin + sum)
    (BitVec.ofInt 32 y, sat, false, false)
  else
    let fa := if op = 0 then fmtBF16 else if immAB.testBit 0 then fmtE5M2 else fmtE4M3
    let fb := if op = 0 then fmtBF16 else if immAB.testBit 1 then fmtE5M2 else fmtE4M3
    let blk := macBlock (as.map fa.decode) (bs.map fb.decode) 0x7F 0x7F
    let y := encFP32 (FVal.add (decFP32 (BitVec.ofNat 32 cin)) blk)
    (y, false, (decFP32 y).isNan, (decFP32 y).isInf)

end Sys2Proof.Machine
end

