-- ==== Sys2Proof/Machine/GroupOps.lean ====
section
/-! DEFINITION. Shared operations of the thread-group engine: faults, the checks and bookkeeping of every group
instruction, the register caches, the mask stack (R145–R160, R172). -/

namespace Sys2Proof.Machine

/-- The lines of the shared instruction cache that a fetch of a PC looks up: one whose tag has a parity error is invalidated.
DEDUCED: log entry 140. -/
def State.gicTags (s : State) (t : Nat) (pc : W64) : State :=
  let k := pc.toNat / 64
  if (s.tge t).gicPerr.contains k then
    (s.updTge t (fun x => { x with gic := SMap.drop x.gic k, gicPerr := without x.gicPerr k })).tagParity 0 1 t
  else s

/-- The group instruction bytes at an address in the shared instruction cache. -/
def cachedGWord (ic : SMap (List PByte)) (pc : W64) : Option (List PByte) :=
  (SMap.find ic (pc.toNat / 64)).map (fun l => (l.drop (pc.toNat % 64 / 8 * 8)).take 8)

def gWordOf (bs : List PByte) : W64 := BitVec.ofNat 64 (leNat (vals bs))

/-- The instruction word of a group at its PC; zero where it has not been fetched. -/
def State.gWordAt (s : State) (t : Nat) (g : Grp) : W64 :=
  match cachedGWord (s.tge t).gic g.pc with | some bs => gWordOf bs | none => 0

/-- TGE_FAULT and TGE_FAULT_PC take a fault (R172, R174); the group issues no more instructions. -/
def State.groupFaultRegs (s : State) (t slot cls code lane mask : Nat) (pc : W64) : State :=
  let s := s.odInc 0x2B81 2
  let s := s.updTge t (fun x => { x with
    fault := placeB true 63 ||| place lane 56 5 ||| place slot 50 6 ||| place cls 40 8 ||| place code 32 8 ||| place mask 0 32,
    faultPc := pc })
  (s.updGrp t slot (fun g => { g with stopped := true })).groupDone t slot

/-- A precise group fault (R172): the record with PC, active mask and instruction word, the registers, the abort. -/
def State.groupFaultAt (s : State) (t slot cls code lane mask : Nat) (pc word addr : W64) : State :=
  let det := detField 38 8 pc.toNat ||| detField 46 4 mask ||| detField 50 8 word.toNat
  let s := s.report (s.mkRec cls code 1 1 (BitVec.ofNat 32 t) (faultObj cls addr.toNat) ((Who.group t slot).waiter lane) addr (s.tileCtx t) det)
  let s := if cls = 6 ∧ code = 6 then s.odInc 0x2B81 3 else s
  (s.groupFaultRegs t slot cls code lane mask pc).abortTask t codeTaskFault

/-- A fault of the instruction at the group's PC. -/
def State.groupFault (s : State) (t slot cls code lane : Nat) (addr : W64) : State :=
  match s.grp t slot with
  | none => s
  | some g => s.groupFaultAt t slot cls code lane g.active g.pc (s.gWordAt t g) addr

/-- An access of the instruction that its target refuses: the target's record, then the engine's registers. -/
def State.groupRefuse (s : State) (t slot code : Nat) (target : Option Nat) (lane addr : Nat) : State :=
  match s.grp t slot with
  | none => s
  | some g =>
    (s.refuse (.group t slot) (s.tile t).ctx code target addr).groupFaultRegs t slot 0x0B code lane g.active g.pc

/-- The lowest lane of a set. -/
def lowLane (m : Nat) : Nat := (onesFrom 32 0 m).headD 0

/-- The lanes of a set, ascending. -/
def lanesOf (m : Nat) : List Nat := onesFrom 32 0 m

/-- The complement of a lane set. -/
def notMask (m : Nat) : Nat := 0xFFFF_FFFF ^^^ (m &&& 0xFFFF_FFFF)

/-- The lanes where p[PRED], inverted when PNEG = 1, is 1. -/
def Grp.condMask (g : Grp) (w : W64) : Nat :=
  let p := (g.preg (gPred w)).toNat
  if gPneg w then notMask p else p

/-- The lanes in which a predicated instruction acts (R152). -/
def Grp.acting (g : Grp) (w : W64) : Nat := if gPen w then g.active &&& g.condMask w else g.active

/-- A v register of a lane; a dead one reads zero (R154). -/
def Grp.v32 (g : Grp) (r lane : Nat) : W32 := (g.vlive r lane).getD 0

/-- Whether the stored word of a live v register is poisoned. -/
def Grp.vPoisoned (g : Grp) (r lane : Nat) : Bool := g.live.testBit (vKey r lane) && (g.vword (vKey r lane)).syn == 0x7F

/-- A 64-bit value in a register pair, low word first. -/
def Grp.v64 (g : Grp) (r lane : Nat) : Nat := (g.v32 r lane).toNat + (g.v32 (r + 1) lane).toNat * 2 ^ 32

/-- An operand of a lane: a v register, or the low word of a u register. DESIGN CHOICE: log entry 156. -/
def Grp.opd (g : Grp) (o : GOpd) (x lane : Nat) : W32 :=
  match o with
  | .u => BitVec.ofNat 32 (g.ureg x).toNat
  | _ => g.v32 x lane

/-- The registers of the source operands of a word. -/
def GUse.sources (u : GUse) (w : W64) : List Nat := u.va.regs (gVa w) ++ u.vb.regs (gVb w) ++ u.vc.regs (gVc w)
def GUse.dests (u : GUse) (w : W64) : List Nat := u.vd.regs (gVd w)

/-- The source registers that carry a last-use mark. -/
def GUse.lastUses (u : GUse) (w : W64) : List Nat :=
  (if (gLu w).testBit 0 then u.va.regs (gVa w) else []) ++ (if (gLu w).testBit 1 then u.vb.regs (gVb w) else []) ++
  (if (gLu w).testBit 2 then u.vc.regs (gVc w) else [])

/-- The lanes that read sources: RDLANE reads in the lowest acting lane only (R150). DEDUCED: log entry 139. -/
def readLanes (w : W64) (lanes : Nat) : Nat :=
  if gCls w = 9 ∧ gOp w = 2 then (if lanes = 0 then 0 else 1 <<< ((onesFrom 32 0 lanes).headD 0)) else lanes

/-- The lane whose VA a lane reads: for SHFL the one that its VB names (R150). -/
def Grp.vaLane (g : Grp) (w : W64) (l : Nat) : Nat :=
  if gCls w = 9 ∧ gOp w = 0 then (g.v32 (gVb w) l).toNat % 32 else l

/-- The source registers that are dead where a lane reads them (R154). DEDUCED: log entry 139. -/
def Grp.deadSrcs (g : Grp) (u : GUse) (w : W64) (l : Nat) : List Nat :=
  (u.va.regs (gVa w)).filter (fun r => (g.vlive r (g.vaLane w l)).isNone) ++
  (u.vb.regs (gVb w) ++ u.vc.regs (gVc w)).filter (fun r => (g.vlive r l).isNone)

/-- The lanes in which the last-use mark of VA makes its registers dead: those that act and those that are read. -/
def Grp.vaLanes (g : Grp) (w : W64) (lanes : Nat) : Nat :=
  (onesFrom 32 0 (readLanes w lanes)).foldl (fun m l => natSetBit m (g.vaLane w l) true) lanes

/-- A source register that an instruction reads: its number, the lanes, whether it carries a last-use mark. -/
structure SrcRead where
  reg   : Nat
  lanes : Nat
  lu    : Bool
  deriving DecidableEq, Repr

/-- The source registers that an instruction reads in the lanes where it acts, in the order VA, VB, VC.
DEDUCED: log entry 139. -/
def Grp.srcReads (g : Grp) (u : GUse) (w : W64) (lanes : Nat) : List SrcRead :=
  let rl := readLanes w lanes
  let at_ := (onesFrom 32 0 rl).foldl (fun m l => natSetBit m (g.vaLane w l) true) 0
  (u.va.regs (gVa w)).map (fun r => { reg := r, lanes := at_, lu := (gLu w).testBit 0 }) ++
  (u.vb.regs (gVb w)).map (fun r => { reg := r, lanes := rl, lu := (gLu w).testBit 1 }) ++
  (u.vc.regs (gVc w)).map (fun r => { reg := r, lanes := rl, lu := (gLu w).testBit 2 })

/-- The u registers that an instruction reads: operands, and the base of an address. -/
def GUse.uReads (u : GUse) (w : W64) (lanes : Nat) : List Nat :=
  if lanes = 0 then []
  else
    (if u.va = .u then [gVa w] else []) ++ (if u.vb = .u then [gVb w] else []) ++ (if u.vc = .u then [gVc w] else []) ++
    (if gCls w = 2 ∨ gCls w = 3 ∨ (gCls w = 4 ∧ 8 ≤ gOp w) then [fld w 10 6] else [])

/-- Whether the word is an add-to-line reduction, whose poisoned operand poisons its target (R298). -/
def isRed (w : W64) : Bool := gCls w == 3 && gOp w == 0x0C

/-- The stored words that an instruction reads. -/
def Grp.checkSources (g : Grp) (u : GUse) (w : W64) (lanes : Nat) : RegCheck :=
  g.check ((g.srcReads u w lanes).flatMap (fun e => (onesFrom 32 0 e.lanes).map (fun l => vKey e.reg l))) (u.uReads w lanes)

/-- The lowest lane in which an instruction reads a poisoned register. DESIGN CHOICE: log entry 158. -/
def RegCheck.poisonLane (c : RegCheck) (u : GUse) (w : W64) (lanes : Nat) : Option Nat :=
  let bad := if isRed w then c.bad.filter (fun k => (u.va.regs (gVa w)).contains (k / 32)) else c.bad
  if c.badU then (onesFrom 32 0 lanes).head?
  else (List.range 32).find? (fun l => bad.any (fun k => k % 32 == l))

/-- The registers with last-use marks become dead (R154). DEDUCED: log entry 139. -/
def Tge.killLast (x : Tge) (slot : Nat) (g : Grp) (u : GUse) (w : W64) (lanes : Nat) : Tge :=
  let kill := fun (x : Tge) (rs : List Nat) (m : Nat) => rs.foldl (fun x r => (onesFrom 32 0 m).foldl (fun x l => x.killV slot r l) x) x
  let x := if (gLu w).testBit 0 then kill x (u.va.regs (gVa w)) (g.vaLanes w lanes) else x
  let x := if (gLu w).testBit 1 then kill x (u.vb.regs (gVb w)) lanes else x
  if (gLu w).testBit 2 then kill x (u.vc.regs (gVc w)) lanes else x

/-- The registers that wait for a result: of outstanding loads, of the group matrix unit (R148). -/
def Grp.waiting (g : Grp) : List Nat :=
  g.loads.flatMap (fun l => if l.size = 8 then [l.vd, l.vd + 1] else [l.vd]) ++
  g.busyV.flatMap (fun b => (List.range b.2).map (fun i => b.1 + i))

/-- The source operands of an instruction pass through the register cache: hits, misses, and the engine after it. An operand is
a hit where every lane finds it in its cache. DEDUCED: log entry 41. -/
def Tge.readSources (x : Tge) (slot : Nat) (rs : List SrcRead) : Nat × Nat × Tge :=
  rs.foldl (fun a e =>
    let ls := onesFrom 32 0 e.lanes
    let hit := ls.all (fun l => rcHas (a.2.2.rcLine slot l) slot e.reg)
    let x := ls.foldl (fun x l => x.readV slot e.reg l e.lu) a.2.2
    if ls.isEmpty then a else if hit then (a.1 + 1, a.2.1, x) else (a.1, a.2.1 + 1, x)) (0, 0, x)

/-- The turn of the issue slots after an instruction that took 1 + held steps (R148). DEDUCED: log entry 159. -/
def Tge.passTurn (x : Tge) (slot held : Nat) : Tge :=
  let was := SMap.get (halfOf slot) x.turn (seqOf slot)
  { x with turn := SMap.put x.turn (seqOf slot) ((was + 1 + held) % 2) }

/-- An instruction issues: the counters of R155 and R174, the reads of its operands, the turn of the issue slots. -/
def State.groupIssue (s : State) (t slot : Nat) (u : GUse) (w : W64) (lanes : Nat) : State :=
  match s.grp t slot with
  | none => s
  | some g =>
    let s := s.updTge t (fun x =>
      let (h, m, x) := x.readSources slot (g.srcReads u w lanes)
      { (x.killLast slot g u w lanes).passTurn slot (m - 2) with
        issued := wrapAdd 64 x.issued 1, hits := wrapAdd 32 x.hits h, portStalls := wrapAdd 32 x.portStalls (m - 2) })
    let dead := (u.sources w).filter (fun r => (lanesOf (readLanes w lanes)).any (fun l => (g.deadSrcs u w l).contains r))
    let s := dead.foldl (fun s _ => s.odInc 0x2B81 4) s
    if dead.isEmpty then s else s.updTge t (fun x => { x with deadRead := true })

/-- The lowest acting lane that reads a dead source register. -/
def Grp.deadLane (g : Grp) (u : GUse) (w : W64) (lanes : Nat) : Option Nat :=
  (lanesOf (readLanes w lanes)).find? (fun l => !(g.deadSrcs u w l).isEmpty)

/-- The PC moves on after an instruction. DEDUCED: log entry 40. -/
def State.groupNext (s : State) (t slot : Nat) (pc : W64) : State :=
  (s.updGrp t slot (fun g => { g with pc := pc })).groupDone t slot

/-- Whether a group may issue: resident, its kernel running, not stopped, waiting for no synchronisation operation and no
fence. -/
def State.groupMayIssue (s : State) (t slot : Nat) (g : Grp) : Bool :=
  let x := s.tile t
  x.tge.kern.isSome && !g.stopped && !x.aborting && x.dbg.groupMayRun slot && g.sync.isNone && g.fence == 0

/-- Whether a group is ready (R148): its next instruction has been fetched, no register of it waits for a result, and the
group matrix unit takes another instruction where it needs it. DEDUCED: log entry 159. -/
def State.groupReady (s : State) (t slot : Nat) (g : Grp) : Bool :=
  s.groupMayIssue t slot g &&
  (match cachedGWord (s.tge t).gic g.pc with
   | none => false
   | some bs =>
     let w := gWordOf bs
     match gUse w with
     | none => true
     | some u => !((u.sources w ++ u.dests w).any (fun r => g.waiting.contains r)) &&
         (gCls w != 8 || decide ((SMap.get [] (s.tge t).gmx (seqOf slot)).length < 2)))

/-- Whether any group of half a sequencer is ready. -/
def State.halfReady (s : State) (t seqr half : Nat) : Bool :=
  (s.tge t).slots.any (fun e => seqOf e.1 == seqr && halfOf e.1 == half && s.groupReady t e.1 e.2)

/-- Whether the sequencer issues from this slot now (R148): no ready group of its issue slot started earlier, and where the other
issue slot has the turn it has no ready group. DEDUCED: log entry 159. -/
def State.groupTurn (s : State) (t slot : Nat) (g : Grp) : Bool :=
  (s.tge t).slots.all (fun e => !(issueSlot e.1 == issueSlot slot && decide (e.2.order < g.order) && s.groupReady t e.1 e.2)) &&
  (match SMap.find (s.tge t).turn (seqOf slot) with
   | some h => h == halfOf slot || !s.halfReady t (seqOf slot) h
   | none => true)

/-- After an issue: with no group of the sequencer ready, steps pass uncounted and the turn is not known.
DEDUCED: log entry 159. -/
def State.settleTurn (s : State) (t slot : Nat) : State :=
  if s.halfReady t (seqOf slot) 0 || s.halfReady t (seqOf slot) 1 then s
  else s.updTge t (fun x => { x with turn := SMap.drop x.turn (seqOf slot) })

/-- Execute the instruction at a group's PC as one of a class and of the operations `ok` accepts: the checks 1 to 4 of
R151, the readiness of its registers (R148), the strict dead-read rule (R154, before check 5: DESIGN CHOICE, log entry 157),
the stored words of its registers (R291), the empty active mask (R159); then `body` with the group as read, the word and the
acting lanes. The body's instruction has been issued. `always` marks the structure operations, which act with an empty mask.
`pre` prepares the instruction and may stop it before it issues: its second component. DESIGN CHOICE: log entry 157. -/
def State.groupRun (s : State) (t slot cls : Nat) (ok : Nat → Bool) (always : Bool)
    (pre : State → Grp → W64 → Nat → State × Bool) (body : State → Grp → W64 → Nat → State) : State :=
  match s.grp t slot with
  | none => s
  | some g =>
    if !s.groupMayIssue t slot g then s
    else if g.pc.toNat % 8 ≠ 0 then s.groupFault t slot 6 5 (lowLane g.active) g.pc
    else match cachedGWord (s.tge t).gic g.pc with
      | none => s
      | some bs =>
        let w := gWordOf bs
        if poisoned bs then s.groupFault t slot 0x01 0x02 (lowLane g.active) g.pc
        else match gCheck w, gUse w with
          | some c, _ => s.groupFault t slot 6 c (lowLane g.active) 0
          | none, none => s
          | none, some u =>
            if gCls w ≠ cls ∨ ¬ ok (gOp w) then s
            else if (u.sources w ++ u.dests w).any (fun r => g.waiting.contains r) then s
            else if g.active = 0 ∧ ¬ always then
              (s.updTge t (fun x => { x.passTurn slot 0 with issued := wrapAdd 64 x.issued 1 })).groupNext t slot (g.pc + 8)
            else
              let lanes := g.acting w
              let strict := match (s.tge t).kern with | some k => k.strict | none => false
              match (if strict then g.deadLane u w lanes else none) with
              | some l => s.groupFault t slot 6 7 l 0
              | none =>
                let c := g.checkSources u w lanes
                let s := if c.evs.isEmpty then s
                  else (s.setGrp t slot c.g).regEvents t ((Who.group t slot).waiter (lowLane lanes)) c.evs
                match c.poisonLane u w lanes with
                | some l => s.groupFault t slot 0x01 0x02 l 0
                | none =>
                  let p := pre s c.g w lanes
                  if p.2 then p.1 else body (p.1.groupIssue t slot u w lanes) c.g w lanes

/-- Issue the instruction at a group's PC where the sequencer issues from its slot now (R148). -/
def State.groupExec (s : State) (t slot cls : Nat) (ok : Nat → Bool) (always : Bool)
    (pre : State → Grp → W64 → Nat → State × Bool) (body : State → Grp → W64 → Nat → State) : State :=
  match s.grp t slot with
  | none => s
  | some g =>
    let s := s.gicTags t g.pc
    if s.groupTurn t slot g then (s.groupRun t slot cls ok always pre body).settleTurn t slot else s

/-- No check beyond those of every instruction. -/
def noPre (s : State) (_ : Grp) (_ : W64) (_ : Nat) : State × Bool := (s, false)

/-- A check that stops an instruction with a state, or lets it go on. -/
def stopAt (s : State) : Option State → State × Bool
  | some s' => (s', true)
  | none => (s, false)

/-- The instruction's results: the engine and its group after them; the PC moves on. -/
def State.groupResult (s : State) (t slot : Nat) (f : Tge → Tge) : State :=
  let s := s.updTge t f
  match s.grp t slot with
  | some g => s.groupNext t slot (g.pc + 8)
  | none => s

/-- Results of 32 bits of the lanes of a set, in one register. -/
def Tge.writeLanes (x : Tge) (slot r lanes : Nat) (f : Nat → W32) : Tge :=
  (lanesOf lanes).foldl (fun x l => x.writeV slot r l (f l)) x

/-- Whether a group has finished (R158): no lane that has not exited is left in the active mask or in an entry. -/
def Grp.finished (g : Grp) : Bool :=
  let left := fun (m : Nat) => m &&& notMask g.exited
  left g.active == 0 && g.stack.all (fun e => left e.saved == 0 && left e.els == 0)

/-- A group that has finished leaves its slot (R146, R156): its outstanding loads are dropped. -/
def State.groupFinish (s : State) (t slot : Nat) : State :=
  match s.grp t slot with
  | none => s
  | some g =>
    if !g.finished then s
    else
      let ids := g.loads.flatMap (fun l => l.reqs)
      let s := { s with reqs := s.reqs.filter (fun r => !(ids.contains r.id)) }
      s.updTge t (fun x => { (x.rcLeave slot) with
        slots := SMap.drop x.slots slot,
        gmx := SMap.mapVals (fun (q : List GmxOp) => q.map (fun o => if o.slot = slot then { o with slot := 64 } else o)) x.gmx })

end Sys2Proof.Machine
end

