-- ==== Sys2Proof/Machine/GroupMem.lean ====
section
/-! DEFINITION. The caches of the thread-group engine and the accesses of group instructions (R165–R170). -/

namespace Sys2Proof.Machine

/-- The address of a lane (R150): u[IMM 15:10] + sext(v[VA]) + sext(IMM 9:0). -/
def Grp.addr (g : Grp) (w : W64) (lane : Nat) : Nat :=
  (g.ureg (fld w 10 6) + BitVec.ofInt 64 (sgn 32 (g.v32 (gVa w) lane).toNat) + BitVec.ofInt 64 (sgn 10 (gImm w))).toNat

/-- The lanes with their addresses. -/
def Grp.addrs (g : Grp) (w : W64) (lanes : Nat) : List (Nat × Nat) := (lanesOf lanes).map (fun l => (l, g.addr w l))

/-- Whether a byte of a line is at hand: its sector is valid, or the byte itself is dirty. -/
def L1Line.has (l : L1Line) (o : Nat) : Bool := l.valid.testBit (o / 64) || l.dirty.testBit o

/-- The words of a new cache line: zero, with their check bytes. -/
def blankWords (n : Nat) : EccMem := { data := [], check := (List.range n).map (fun w => (w, checkByte 0)) }

/-- The account of the ECC events of a cached line at a global address: kind 3 in the L1, 4 in an L0 (R294, R295). -/
def State.lineEvents (s : State) (t kind base : Nat) (waiter : W32) (evs : List EccEvent) : State :=
  evs.foldl (fun s e => if e.ue then s.lfUe t waiter (BitVec.ofNat 64 (base + 8 * e.word)) e.syn kind else s.lfCe t) s

/-- Read bytes of an L1 line (R291). -/
def State.l1Read (s : State) (t L o n : Nat) (waiter : W32) : List PByte × State :=
  match (s.tge t).line L with
  | none => ([], s)
  | some l =>
    let (bs, m, evs) := l.mem.read o n
    (bs, (s.updTge t (fun x => x.putLine L { l with mem := m })).lineEvents t 3 (L * 256) waiter evs)

/-- Write bytes of an L1 line, a position that is none keeping its byte (R293). -/
def State.l1Write (s : State) (t L o : Nat) (us : List (Option PByte)) (waiter : W32) : State :=
  match (s.tge t).line L with
  | none => s
  | some l =>
    let (m, evs) := l.mem.writeMasked o us
    (s.updTge t (fun x => x.putLine L { l with mem := m })).lineEvents t 3 (L * 256) waiter evs

/-- The line leaves the L1. -/
def State.l1Drop (s : State) (t L : Nat) : State :=
  (s.updTge t (fun x => { x with l1 := SMap.drop x.l1 L })).spoilFills t (fun k => k == L)

/-- A line of the L1 whose tag has a parity error (R292): a clean one is invalidated, with a dirty one the task aborts. -/
def State.l1Lost (s : State) (t L : Nat) (l : L1Line) : State :=
  let s := s.l1Drop t L
  if l.dirty = 0 then s.tagParity 0 1 t else (s.tagParity 1 1 t).abortTask t codeTaskFault

/-- A lookup of a line in the L1 reads the tags of its set (R292). DEDUCED: log entry 140. -/
def State.l1Tags (s : State) (t L : Nat) : State :=
  (s.tge t).l1.foldl (fun s e => if e.1 % 64 == L % 64 && e.2.perr then s.l1Lost t e.1 e.2 else s) s

/-- The dirty bytes of a line leave as one masked write of the L1 (R166); the line keeps its valid sectors.
DEDUCED: log entry 36. -/
def State.l1Writeback (s : State) (t L : Nat) : State :=
  match (s.tge t).line L with
  | none => s
  | some l =>
    if l.perr then s.l1Lost t L l
    else if l.dirty = 0 then s
    else
      let dirty := onesFrom 256 0 l.dirty
      let lo := dirty.headD 0
      let hi := dirty.getLastD 0
      let n := hi - lo + 1
      let (bs, s) := s.l1Read t L lo n ((Who.l1 t).waiter 0)
      let s := s.updTge t (fun x => match x.line L with | some l => x.putLine L { l with dirty := 0 } | none => x)
      let s := s.spoilFills t (fun k => k == L)
      (s.access { newReq (.l1 t) (s.tile t).ctx .store (L * 256 + lo) n bs 0 with
                  mask := (List.range n).map (fun i => l.dirty.testBit (lo + i)) } .W).1

/-- Every dirty line of the L1 is written back. -/
def State.l1Flush (s : State) (t : Nat) : State := (s.tge t).l1.foldl (fun s e => s.l1Writeback t e.1) s

/-- The L0 of a sequencer. -/
def Tge.l0Of (x : Tge) (sq : Nat) : SMap L0Line := SMap.get [] x.l0 sq
def Tge.l0Line (x : Tge) (sq k : Nat) : Option L0Line := SMap.find (x.l0Of sq) k
def Tge.putL0 (x : Tge) (sq k : Nat) (l : L0Line) : Tge := { x with l0 := SMap.put x.l0 sq (SMap.put (x.l0Of sq) k l) }

/-- A lookup in an L0 reads the line's tag: with a parity error the way is invalidated (R292). -/
def State.l0Tags (s : State) (t sq k : Nat) : State :=
  match (s.tge t).l0Line sq k with
  | some l => if l.perr then (s.updTge t (fun x => { x with l0 := SMap.put x.l0 sq (SMap.drop (x.l0Of sq) k) })).tagParity 0 1 t else s
  | none => s

/-- Read bytes of an L0 line. -/
def State.l0Read (s : State) (t sq k o n : Nat) (waiter : W32) : List PByte × State :=
  match (s.tge t).l0Line sq k with
  | none => ([], s)
  | some l =>
    let (bs, m, evs) := l.mem.read o n
    (bs, (s.updTge t (fun x => x.putL0 sq k { l with mem := m })).lineEvents t 4 (k * 64) waiter evs)

/-- A line of 64 bytes enters an L0 of 512 lines. DESIGN CHOICE: log entry 35. -/
def State.l0Put (s : State) (t sq k : Nat) (bs : List PByte) : State :=
  let c := (s.tge t).l0Of sq
  let full := (SMap.find c k).isNone && decide (512 ≤ c.length)
  let (i, s) := if full then s.choose c.length else (0, s)
  let c := if full then (match (c.drop i).head? with | some e => SMap.drop c e.1 | none => c) else c
  s.updTge t (fun x => { x with l0 := SMap.put x.l0 sq (SMap.put c k { mem := ((blankWords 8).write 0 bs).1, perr := false }) })

/-- The line leaves every L0 of the tile. -/
def Tge.l0DropLine (x : Tge) (L : Nat) : Tge :=
  { x with l0 := x.l0.map (fun e => (e.1, e.2.filter (fun b => b.1 / 4 != L))) }

/-- Before a bypass access the L1 writes back and drops the line, and every L0 drops it (R166). -/
def State.bypassLine (s : State) (t L : Nat) : State :=
  ((s.l1Writeback t L).l1Drop t L).updTge t (fun x => x.l0DropLine L)

/-- Allocate a line in the L1 with no valid byte; a set of 16 lines gives up one, written back first.
DESIGN CHOICE: log entry 35. -/
def State.l1Alloc (s : State) (t L : Nat) : State :=
  match (s.tge t).line L with
  | some _ => s
  | none =>
    let set := (s.tge t).l1.filter (fun e => e.1 % 64 == L % 64)
    let (i, s) := if 16 ≤ set.length then s.choose set.length else (0, s)
    let s := if 16 ≤ set.length then (match set[i]? with | some e => (s.l1Writeback t e.1).l1Drop t e.1 | none => s) else s
    s.updTge t (fun x => { (x.putLine L { valid := 0, mem := blankWords 32, dirty := 0, age := x.l1age + 1, perr := false })
                           with l1age := x.l1age + 1 })

/-- A store of one lane reaches the L1, and the issuing sequencer's L0 where the line is present there (R166). -/
def State.l1Store (s : State) (t sq a : Nat) (data : List PByte) (waiter : W32) : State :=
  let L := a / 256
  let o := a % 256
  let s := ((s.l1Tags t L).l1Alloc t L).l1Write t L o (data.map some) waiter
  let s := s.updTge t (fun x => match x.line L with
    | some l => x.putLine L { l with dirty := (List.range data.length).foldl (fun m i => m ||| (1 <<< (o + i))) l.dirty }
    | none => x)
  let s := s.l0Tags t sq (a / 64)
  match (s.tge t).l0Line sq (a / 64) with
  | some b =>
    let (m, evs) := b.mem.write (a % 64) data
    (s.updTge t (fun x => x.putL0 sq (a / 64) { b with mem := m })).lineEvents t 4 (a / 64 * 64) waiter evs
  | none => s

/-- Whether an L0 or the L1 holds the bytes of a cacheable load. -/
def State.cacheHas (s : State) (t sq a n : Nat) : Bool :=
  ((s.tge t).l0Line sq (a / 64)).isSome ||
  (match (s.tge t).line (a / 256) with
   | some l => (List.range n).all (fun i => l.has (a % 256 + i))
   | none => false)

/-- The bytes of a cacheable load that an L0 or the L1 holds. -/
def State.cacheRead (s : State) (t sq a n : Nat) (waiter : W32) : List PByte × State :=
  if ((s.tge t).l0Line sq (a / 64)).isSome then s.l0Read t sq (a / 64) (a % 64) n waiter else s.l1Read t (a / 256) (a % 256) n waiter

/-- An L1 hit in a valid sector enters the L0. DEDUCED: log entry 36. -/
def State.l0Fill (s : State) (t sq a : Nat) (waiter : W32) : State :=
  match (s.tge t).l0Line sq (a / 64), (s.tge t).line (a / 256) with
  | none, some l =>
    if l.valid.testBit (a % 256 / 64) then
      let (bs, s) := s.l1Read t (a / 256) (a % 256 / 64 * 64) 64 waiter
      s.l0Put t sq (a / 64) bs
    else s
  | _, _ => s

/-- The tags that cacheable accesses of a tile read at some addresses (R292); whether a dirty line was lost. -/
def State.cacheTags (s : State) (t sq : Nat) (as : List Nat) : State × Bool :=
  let lost := (s.tge t).l1.any (fun e => e.2.perr && e.2.dirty != 0 && as.any (fun a => a / 256 % 64 == e.1 % 64))
  (as.foldl (fun s a => (s.l0Tags t sq (a / 64)).l1Tags t (a / 256)) s, lost)

/-- Data of a line request returns to the L1 and the L0: sectors that it covers, dirty bytes kept. DEDUCED: log entry 36. -/
def State.l1Return (s : State) (t sq a : Nat) (data : List PByte) (waiter : W32) : State :=
  let L := a / 256
  let s := (s.l1Tags t L).l1Alloc t L
  let i0 := a % 256 / 64
  let n := data.length / 64
  match (s.tge t).line L with
  | none => s
  | some l =>
    let us := (List.range data.length).map (fun j => if l.dirty.testBit (i0 * 64 + j) then none else data[j]?)
    let s := s.l1Write t L (i0 * 64) us waiter
    let s := s.updTge t (fun x => match x.line L with
      | some l => x.putLine L { l with valid := (List.range n).foldl (fun m i => m ||| (1 <<< (i0 + i))) l.valid }
      | none => x)
    (List.range n).foldl (fun s i =>
      let (bs, s) := s.l1Read t L ((i0 + i) * 64) 64 waiter
      s.l0Put t sq (L * 4 + i0 + i) bs) s

/-! Checks of an instruction's lanes before it takes effect. -/

/-- The first lane whose address is not a multiple of `n`. -/
def misaligned (n : Nat) (as : List (Nat × Nat)) : Option (Nat × Nat) := as.find? (fun e => e.2 % n != 0)

/-- The first lane whose access its target refuses: lane, address, status, target. -/
def State.firstRefused (s : State) (t : Nat) (r : Right) (n : Nat) (as : List (Nat × Nat)) : Option (Nat × Nat × Nat × Option Nat) :=
  as.findSome? (fun e => match s.checkAccess t (s.tile t).ctx r e.2 n with
    | .error (c, tg) => some (e.1, e.2, c, tg)
    | .ok _ => none)

/-- Alignment and access checks of the lanes; a failing one faults with no effect. -/
def State.lanesOk (s : State) (t slot : Nat) (r : Right) (n : Nat) (as : List (Nat × Nat)) (checked : Nat → Bool) : Option State :=
  match misaligned n as with
  | some e => some (s.groupFault t slot 6 5 e.1 (BitVec.ofNat 64 e.2))
  | none => match s.firstRefused t r n (as.filter (fun e => checked e.2)) with
    | some (lane, a, c, tg) => some (s.groupRefuse t slot c tg lane a)
    | none => none

/-- Lanes grouped by the 256-byte line of their addresses, in order of first appearance. -/
def byLine (as : List (Nat × Nat)) : List (Nat × List (Nat × Nat)) :=
  (as.foldl (fun (ks : List Nat) e => insertNew ks (e.2 / 256)) []).map (fun k => (k, as.filter (fun e => e.2 / 256 == k)))

/-- Bytes from i on of a list replaced. -/
def overlayP (bs : List PByte) (i : Nat) (ds : List PByte) : List PByte :=
  bs.take i ++ (ds.take (bs.length - i)) ++ bs.drop (i + ds.length)

/-- First and last byte past the end of accesses of n bytes. -/
def spanOf (n : Nat) (as : List (Nat × Nat)) : Nat × Nat :=
  let lo := as.foldl (fun m e => min m e.2) (as.headD (0, 0)).2
  let hi := as.foldl (fun m e => max m (e.2 + n)) 0
  (lo, hi)

/-- Whether a group has a load outstanding on a line. -/
def State.loadOn (s : State) (t slot L : Nat) : Bool :=
  s.reqs.any (fun r => r.who == .group t slot && r.kind == .load && decide (s.canonAddr r.addr / 256 = L))

/-- Issue one request of a group; its number joins the list. -/
def State.groupReq (s : State) (r : Req) (right : Right) (ids : List Nat) : State × List Nat :=
  match s.access r right with
  | (s, some id) => (s, ids ++ [id])
  | (s, none) => (s, ids)

/-- Whether a bypass store or a reduction of the tile's groups on a line is still to be performed: a fill issued meanwhile is
not kept, so that no later access of the lane finds an older value (R166). DEDUCED: log entry 160. -/
def State.bypassPending (s : State) (t L : Nat) : Bool :=
  s.reqs.any (fun r => (match r.who with | .group u _ => u == t | _ => false) && !(r.kind == .load) &&
    decide (s.canonAddr r.addr / 256 = L) && (r.st == .sent || r.st == .parked || r.st == .waitFill))

/-- The line requests of a cacheable load's misses: the sectors that the lanes need, one request per line. A line that
holds dirty bytes is written back first. DEDUCED: log entry 36. -/
def State.loadMisses (s : State) (t slot n : Nat) (as : List (Nat × Nat)) : State × List Nat :=
  (byLine as).foldl (fun (acc : State × List Nat) e =>
    let s := acc.1.l1Writeback t e.1
    let (lo, hi) := spanOf n e.2
    let lo := lo / 64 * 64
    let hi := (hi + 63) / 64 * 64
    s.groupReq { newReq (.group t slot) (s.tile t).ctx .load lo (hi - lo) [] 0 with
      aux := if s.bypassPending t e.1 then 1 else 0 } .R acc.2) (s, [])

/-- The bytes of a span that accesses of n bytes name; empty where they name all. -/
def spanMask (lo hi n : Nat) (as : List (Nat × Nat)) : List Bool :=
  let m := (List.range (hi - lo)).map (fun i => as.any (fun e => decide (e.2 ≤ lo + i ∧ lo + i < e.2 + n)))
  if m.all (fun b => b) then [] else m

/-- The requests of a bypass load: one per line (R165). -/
def State.bypassLoads (s : State) (t slot n : Nat) (as : List (Nat × Nat)) : State × List Nat :=
  (byLine as).foldl (fun (acc : State × List Nat) e =>
    let s := acc.1.bypassLine t e.1
    let (lo, hi) := spanOf n e.2
    s.groupReq { newReq (.group t slot) (s.tile t).ctx .load lo (hi - lo) [] 0 with
      aux := 1, byp := true, mask := if regWindow (e.1 * 256) then spanMask lo hi n e.2 else [] } .R acc.2) (s, [])

/-- The merged bytes of the lanes of one line, the highest-numbered lane's value last (R165). -/
def mergeLanes (lo len : Nat) (as : List (Nat × List PByte)) : List PByte × List Bool :=
  as.foldl (fun (acc : List PByte × List Bool) e =>
    (overlayP acc.1 (e.1 - lo) e.2,
     (List.range len).map (fun i => acc.2.getD i false || (decide (e.1 - lo ≤ i) && decide (i < e.1 - lo + e.2.length)))))
    (clean (List.replicate len 0), List.replicate len false)

/-- The requests of a bypass store: one per line, with the bytes of each lane (R165). -/
def State.bypassStores (s : State) (t slot : Nat) (as : List (Nat × Nat)) (n : Nat) (val : Nat → List PByte) : State :=
  (byLine as).foldl (fun s e =>
    let s := s.bypassLine t e.1
    let (lo, hi) := spanOf n e.2
    let (bs, m) := mergeLanes lo (hi - lo) (e.2.map (fun k => (k.2, val k.1)))
    (s.access { newReq (.group t slot) (s.tile t).ctx .store lo (hi - lo) bs 0 with mask := if m.all (fun b => b) then [] else m } .W).1) s

/-- Consecutive targets of a reduction's lanes, in lane order: the form in which it goes over the fabric. -/
def redRuns (tz : Nat) : List (Nat × List PByte) → List (Nat × List PByte)
  | [] => []
  | e :: es => match redRuns tz es with
    | (a, ds) :: rest => if e.1 + tz = a then (e.1, e.2 ++ ds) :: rest else e :: (a, ds) :: rest
    | [] => [e]

/-- The requests of an add-to-line reduction (R165, R170): one per line, its elements in ascending lane order; one to another
device leaves as one per run of consecutive targets. DEDUCED: log entry 160. -/
def State.redRequests (s : State) (t slot fmt os tz : Nat) (as : List (Nat × Nat)) (val : Nat → List PByte) : State :=
  (byLine as).foldl (fun s e =>
    let s := s.bypassLine t e.1
    let els := e.2.map (fun k => (k.2, val k.1))
    if s.isLocal (e.1 * 256) then
      let lo := els.foldl (fun m x => min m x.1) (e.1 * 256 + 255)
      (s.access { newReq (.group t slot) (s.tile t).ctx (.red fmt) lo os (els.flatMap (fun x => x.2)) 0 with
                  elems := els.map (fun x => x.1 - lo) } .A).1
    else (redRuns tz els).foldl (fun s x => (s.access (newReq (.group t slot) (s.tile t).ctx (.red fmt) x.1 x.2.length x.2 0) .A).1) s) s

/-! Fences (R168). -/

/-- FENCE.G is over for a group: its loads have returned and its bypass accesses are performed. -/
def State.fenceGOver (s : State) (t slot : Nat) : Bool :=
  match s.grp t slot with
  | some g => g.loads.isEmpty && s.storesDone (fun w => w == .group t slot)
  | none => true

/-- The L1's write-backs have been performed. -/
def State.l1Quiet (s : State) (t : Nat) : Bool := !(s.reqs.any (fun r => r.who == .l1 t))

def State.fenceDOver (s : State) (t slot : Nat) : Bool := s.fenceGOver t slot && s.l1Quiet t

/-- One fence instruction: it begins, and completes once its condition holds. -/
def State.fenceRow (s : State) (t slot op : Nat) (begin_ : State → State) (excess : State → Bool) (end_ : State → State) : State :=
  let finish := fun (s : State) =>
    if excess s then
      let s := (end_ s).updGrp t slot (fun g => { g with fence := 0 })
      match s.grp t slot with | some g => s.groupNext t slot (g.pc + 8) | none => s
    else s
  match s.grp t slot with
  | none => s
  | some g =>
    if g.fence = op + 1 ∧ ¬ g.stopped ∧ ¬ (s.tile t).aborting ∧ (s.dbg t).groupMayRun slot then finish s
    else s.groupExec t slot 0x4 (fun o => o == op) false noPre (fun s _ _ _ =>
      finish ((begin_ s).updGrp t slot (fun g => { g with fence := op + 1 })))

/-! Atomics (R170). -/

/-- A line of HBM is put into the LLC with the sectors of a mask, for a write that one lookup serves: absent ones are read from HBM;
they become dirty, and the line leaves the discard filter. A miss of a tile enters its history. -/
def State.lineForMask (s : State) (L need : Nat) (unit : Option (Nat × Nat)) : State :=
  let n := sliceOf L
  let note := fun (s : State) => match unit with | some (t, ctx) => s.noteMiss t ctx (s.globalOf (L * 256)).toNat | none => s
  if !s.hasLlc then (note s).unfilter n L
  else
    let s := s.llcTags n L
    let hit := s.lineHit n L false need
    let s := s.countLookup n L hit
    let s := if hit then s else note s
    let known := ((s.slice n).findLine L false).isSome
    let s := (s.unfilter n L).allocLine n L false
    let s := s.touchLine n L false
    let s := if known then s.pinLine n L else s
    match (s.slice n).findLine L false with
    | none => s
    | some l =>
      let lack := need &&& (15 ^^^ (l.valid &&& 15))
      let s := (List.range 4).foldl (fun s i => if lack.testBit i then
        let (bs, s) := s.memRead (.hbm (L * 256 + 64 * i)) 64 noUnit
        s.memWrite (s.linePlace n l (64 * i)) (bs.map some) noUnit else s) s
      s.updSlice n (fun k => k.setLine { l with valid := l.valid ||| need, dirty := l.dirty ||| need, dead := false })

/-- The line of HBM whose sectors the lanes of an atomic need is in the LLC: absent sectors are read from HBM and allocated.
DEDUCED: log entry 37. -/
def State.lineForAtomic (s : State) (t ctx n : Nat) (as : List (Nat × Nat)) : State :=
  match as with
  | [] => s
  | (_, a) :: _ =>
    if regionOf (addrOffset a) ≠ some .hbm then s
    else s.lineForMask (addrOffset a / 256) (as.foldl (fun m e => m ||| sectorMask (e.2 % 256) n) 0) (some (t, ctx))

/-- The place of a local HBM or scratch offset at its home. -/
def State.homePlace (s : State) (off : Nat) : Place :=
  match regionOf off with
  | some .hbm =>
    let L := off / 256
    (match (s.slice (sliceOf L)).findLine L false with
     | some l => if s.hasLlc then s.linePlace (sliceOf L) l (off % 256) else .hbm off
     | none => .hbm off)
  | _ => .bed (scratchPhys s.bed.nb (off - 0x100_0000_0000))

/-- A request of the tile's groups or L1 on a line that is still to be performed. -/
def State.lineBusy (s : State) (t L : Nat) : Bool :=
  s.reqs.any (fun r => (match r.who with | .group u _ => u == t | .l1 u => u == t | _ => false) &&
    decide (s.canonAddr r.addr / 256 = L) && (r.st == .sent || r.st == .parked || r.st == .waitFill))

/-- Whether a home cannot serve an atomic on an offset now: a fill of the line is in flight, its bank is closed. -/
def State.homeBusy (s : State) (off : Nat) : Bool :=
  match regionOf off with
  | some .hbm => ((s.slice (sliceOf (off / 256))).findMiss (off / 256) false).isSome
  | _ => !s.bankOpen (s.bankOf off)

/-- Write back and drop the lines of an atomic's lanes. -/
def State.bypassAll (s : State) (t : Nat) (as : List (Nat × Nat)) : State := (byLine as).foldl (fun s e => s.bypassLine t e.1) s

end Sys2Proof.Machine
end

