-- ==== Sys2Proof/Machine/CoreExec.lean ====
section
/-! DEFINITION. The control core's commands (R117–R137). -/

namespace Sys2Proof.Machine

/-- INSN_FETCH_RETURN (R119): the 64-byte line at the PC is asked for, and enters the instruction cache when it has come; a refused
fetch faults. DESIGN CHOICE: log entry 25. -/
def execInsnFetchReturn (t : Fin 144) (s : State) : Out :=
  .next (
    let s := s.icTags t.val
    let x := s.tile t.val
    let pc := x.core.pc
    if !x.coreRuns || (cachedWord x.core.icache pc).isSome then s
    else match (if x.core.skipBp then none else x.dbg.bpAt pc) with
      | some i => s.startHalt t.val 3 i
      | none =>
        let a := pc.toNat / 64 * 64
        match s.directRead (.core t.val) x.ctx .X a 64 0 with
        | (s, .wait) => s
        | (s, .denied c tg) => (s.refuse (.core t.val) x.ctx c tg a).faultRegs t.val 0x0B c
        | (s, .failed cls c) => s.faultRegs t.val cls c
        | (s, .bytes bs) => s.updCore t.val (fun c => { c with icache := SMap.put c.icache (pc.toNat / 64) bs }))

/-- ALU (R123). -/
def execAlu (t : Fin 144) (s : State) : Out :=
  .next (s.coreExec t.val 0x0 none (fun s w =>
    let c := s.core t.val
    s.coreWrite t.val (insRd w) (aluOp (insFunc w) (c.reg (insRa w)) (c.reg (insRb w)))))

/-- ALUI (R123). -/
def execAlui (t : Fin 144) (s : State) : Out :=
  .next (s.coreExec t.val 0x1 none (fun s w =>
    s.coreWrite t.val (insRd w) (aluOp (aluiFunc (insFunc w)) ((s.core t.val).reg (insRa w)) (insImm 12 w))))

/-- IMMW (R123): 16 bits of rd. -/
def execImmw (t : Fin 144) (s : State) : Out :=
  .next (s.coreExec t.val 0x2 none (fun s w =>
    let p := 16 * fld w 16 2
    let m : W64 := BitVec.ofNat 64 (0xFFFF <<< p)
    s.coreWrite t.val (insRd w) (((s.core t.val).reg (insRd w) &&& ~~~ m) ||| BitVec.ofNat 64 (fld w 0 16 <<< p))))

/-- The effective address of a MEM instruction. -/
def State.memAddr (s : State) (t : Nat) (w : W32) : W64 := (s.core t).reg (insRa w) + insImm 13 w

/-- CORE_LOAD (R120): checked, sent, and the core blocks. DEDUCED: log entry 28. -/
def execCoreLoad (t : Fin 144) (s : State) : Out :=
  .next (s.coreExec t.val 0x3 none (fun s w =>
    let f := insFunc w
    let a := s.memAddr t.val w
    if 4 ≤ f then s
    else if a.toNat % memSize f ≠ 0 then s.coreFault t.val 0x05 0x05 a
    else match s.checkAccess t.val (s.ctxOf t.val) .R a.toNat (memSize f) with
      | .error (c, tg) => (s.refuse (.core t.val) (s.ctxOf t.val) c tg a.toNat).faultRegs t.val 0x0B c
      | .ok ok =>
        let (s, id) := s.issue (newReq (.core t.val) (s.ctxOf t.val) .load a.toNat (memSize f) [] 0) ok
        s.coreWaits t.val (.load (insRd w) (memSize f) id)))

/-- CORE_LOAD_RETURN (R120): the data of the load that blocks the core. -/
def execCoreLoadReturn (t : Fin 144) (s : State) : Out :=
  .next (
    match (s.core t.val).wait with
    | some (.load rd size id) =>
      let s' := s.performReg id
      match s'.findReq id with
      | none => s
      | some r =>
        match r.st with
        | .done =>
          let s := s'.dropReq id
          if poisoned r.data then s.coreFault t.val 0x01 0x02 (BitVec.ofNat 64 r.addr)
          else (s.updCore t.val (fun c => c.endWait rd (BitVec.ofNat 64 (leNat ((vals r.data).take size))))).coreDone t.val
        | .failed code => let k := s'.failClass r code; (s'.dropReq id).faultRegs t.val k.1 k.2
        | _ => s'
    | _ => s)

/-- CORE_STORE (R120): checked and posted. DEDUCED: log entry 28. -/
def execCoreStore (t : Fin 144) (s : State) : Out :=
  .next (s.coreExec t.val 0x3 none (fun s w =>
    let f := insFunc w
    let a := s.memAddr t.val w
    if f < 4 then s
    else if a.toNat % memSize f ≠ 0 then s.coreFault t.val 0x05 0x05 a
    else match s.checkAccess t.val (s.ctxOf t.val) .W a.toNat (memSize f) with
      | .error (c, tg) => (s.refuse (.core t.val) (s.ctxOf t.val) c tg a.toNat).faultRegs t.val 0x0B c
      | .ok ok =>
        let data := clean (leBytes (memSize f) ((s.core t.val).reg (insRd w)).toNat)
        let pc := (s.core t.val).pc
        ((s.issue (newReq (.core t.val) (s.ctxOf t.val) .store a.toNat (memSize f) data 0) ok).1).coreNext t.val (pc + 4)))

/-- BR (R123). -/
def execBr (t : Fin 144) (s : State) : Out :=
  .next (s.coreExec t.val 0x4 none (fun s w =>
    let c := s.core t.val
    let taken := brCond (insFunc w) (c.reg (fld w 18 5)) (c.reg (fld w 13 5))
    s.coreNext t.val (if taken then c.pc + 4 * insImm 13 w else c.pc + 4)))

/-- JAL (R123). -/
def execJal (t : Fin 144) (s : State) : Out :=
  .next (s.coreExec t.val 0x5 none (fun s w =>
    let pc := (s.core t.val).pc
    (s.updCore t.val (fun c => c.setReg (insRd w) (pc + 4))).coreNext t.val (pc + 4 * insImm 21 w)))

/-- JALR (R123): the target is taken before rd is written. -/
def execJalr (t : Fin 144) (s : State) : Out :=
  .next (s.coreExec t.val 0x6 none (fun s w =>
    let pc := (s.core t.val).pc
    let a := (s.core t.val).reg (insRa w)
    if a.toNat % 4 ≠ 0 then s.coreFault t.val 0x05 0x05 a
    else (s.updCore t.val (fun c => c.setReg (insRd w) (pc + 4))).coreNext t.val a))

/-- PASS (R127). -/
def execPass (t : Fin 144) (s : State) : Out :=
  .next (s.coreExec t.val 0x8 (some 0) (fun s w => s.issueAt t.val w 0 64 none))

/-- PASSR (R127): the descriptor in eight registers. DEDUCED: log entry 27. -/
def execPassr (t : Fin 144) (s : State) : Out :=
  .next (s.coreExec t.val 0x8 (some 1) (fun s w =>
    let ra := insRa w
    if ra = 8 ∨ ra = 16 ∨ ra = 24 then
      let ws := (List.range 8).map (fun i => (s.core t.val).reg (ra + i))
      s.startIssue t.val { func := 1, mover := none, addr := 0, words := some ws }
    else s.coreFault t.val 0x05 0x04 0))

/-- DMA (R128). -/
def execDma (t : Fin 144) (s : State) : Out :=
  .next (s.coreExec t.val 0x8 (some 2) (fun s w =>
    s.issueAt t.val w 2 32 (if bitOf w 9 then none else some (fld w 10 2))))

/-- KLAUNCH (R130). -/
def execKlaunch (t : Fin 144) (s : State) : Out :=
  .next (s.coreExec t.val 0x8 (some 3) (fun s w => s.issueAt t.val w 3 32 none))

/-- ISSUE_ACCEPT (R127). -/
def execIssueAccept (t : Fin 144) (s : State) : Out := .next (s.tryAccept t.val)

/-! Scoreboard instructions (R136). -/

/-- The tag of an SB instruction. -/
def insTag (w : W32) : Nat := fld w 16 6

/-- Whether a wait on a tag is over: no registration of an earlier operation. -/
def sbWaitOver (sb : List SbReg) (op tag : Nat) (both : Bool) : Bool :=
  sb.all (fun r => !(r.tag == tag && decide (r.op < op) && (r.isWrite || (both && r.isRead))))

/-- A waiting TWAIT, TDRAIN or TCLAIM whose condition now holds completes. -/
def State.sbEnd (s : State) (t : Nat) : State := (s.updCore t (fun c => { c with st := 1, wait := none })).coreNext t ((s.core t).pc + 4)

/-- TWAIT and TDRAIN: the core stalls until the registrations have been released. -/
def State.tagWait (s : State) (t : Nat) (func : Nat) (both : Bool) : State :=
  match (s.core t).st, (s.core t).wait with
  | 3, some (.tag op tag b) => if b = both ∧ sbWaitOver (s.tile t).sb op tag both then s.sbEnd t else s
  | _, _ => s.coreExec t 0x9 (some func) (fun s w =>
      let tag := insTag w
      let op := (s.core t).nextOp
      if hasClaim (s.tile t).sb tag then s.coreFault t 0x05 0x0E 0
      else if sbWaitOver (s.tile t).sb op tag both then s.coreNext t ((s.core t).pc + 4)
      else s.coreWaits t (.tag op tag both))

/-- TWAIT. DEDUCED: log entry 29. -/
def execTwait (t : Fin 144) (s : State) : Out := .next (s.tagWait t.val 0 false)

/-- TDRAIN. DEDUCED: log entry 29. -/
def execTdrain (t : Fin 144) (s : State) : Out := .next (s.tagWait t.val 1 true)

/-- Every read registration on a tag held by operations before `op` has been released. -/
def claimOver (sb : List SbReg) (op tag : Nat) : Bool := sb.all (fun r => !(r.tag == tag && decide (r.op < op) && r.isRead))

/-- TCLAIM: the claim is registered where the scoreboard has room, then the core waits for earlier reads.
DEDUCED: log entry 29. -/
def execTclaim (t : Fin 144) (s : State) : Out :=
  .next (
    match (s.core t.val).st, (s.core t.val).wait with
    | 3, some (.claim op tag) => if claimOver (s.tile t.val).sb op tag then s.sbEnd t.val else s
    | _, _ => s.coreExec t.val 0x9 (some 2) (fun s w =>
        let tag := insTag w
        let x := s.tile t.val
        let op := x.core.nextOp
        if hasClaim x.sb tag then s.coreFault t.val 0x05 0x0E 0
        else if !x.sbRoom 1 then s
        else
          let r : SbReg := { op := op, unit := .core t.val, isPass := false, tag := tag, rdIn := false, rdOut := false,
                             wrIn := true, wrOut := false, pend := [.claim] }
          let s := s.updTile t.val (fun x => { x with sb := x.sb ++ [r], core := { x.core with nextOp := op + 1 } })
          if claimOver x.sb op tag then s.coreNext t.val (x.core.pc + 4) else s.coreWaits t.val (.claim op tag)))

/-- TREL. -/
def execTrel (t : Fin 144) (s : State) : Out :=
  .next (s.coreExec t.val 0x9 (some 3) (fun s w =>
    let tag := insTag w
    if !hasClaim (s.tile t.val).sb tag then s.coreFault t.val 0x05 0x0D 0
    else
      let pc := (s.core t.val).pc
      (s.updTile t.val (fun x => { x with sb := x.sb.filter (fun r => !isClaim r tag) })).coreNext t.val (pc + 4)))

/-- TSTATE. -/
def execTstate (t : Fin 144) (s : State) : Out :=
  .next (s.coreExec t.val 0x9 (some 4) (fun s w =>
    let tag := insTag w
    let sb := (s.tile t.val).sb
    s.coreWrite t.val (insRb w)
      (placeB (hasClaim sb tag) 2 ||| placeB (sb.any (fun r => r.tag == tag && r.isRead)) 1 |||
       placeB (sb.any (fun r => r.tag == tag && r.isWrite)) 0)))

/-! System instructions. -/

/-- NOP. -/
def execNop (t : Fin 144) (s : State) : Out :=
  .next (s.coreExec t.val 0xA (some 0) (fun s _ => s.coreNext t.val ((s.core t.val).pc + 4)))

/-- The register field of a SYS instruction. -/
def sysReg (w : W32) : Nat := fld w 17 5

/-- MFC (R126). -/
def execMfc (t : Fin 144) (s : State) : Out :=
  .next (s.coreExec t.val 0xA (some 1) (fun s w =>
    let n := fld w 0 12
    if 0x200 ≤ n then s.coreFault t.val 0x05 0x04 0
    else s.coreWrite t.val (sysReg w) (s.tileReg t.val (8 * n))))

/-- MTC (R126, R208). -/
def execMtc (t : Fin 144) (s : State) : Out :=
  .next (s.coreExec t.val 0xA (some 2) (fun s w =>
    let n := fld w 0 12
    let v := (s.core t.val).reg (sysReg w)
    let pc := (s.core t.val).pc
    if 0x200 ≤ n then s.coreFault t.val 0x05 0x04 0
    else if 8 * n = 0x110 then
      let us := fld v 0 32
      if us = 0 ∨ 60000000 < us then s.coreFault t.val 0x04 SYN_TIMEOUT_RANGE 0
      else (s.updCore t.val (fun c => { c with timeout := us })).coreNext t.val (pc + 4)
    else (s.tileRegWrite t.val (8 * n) v).coreNext t.val (pc + 4)))

/-- END (R122, R136). -/
def execCoreEnd (t : Fin 144) (s : State) : Out :=
  .next (s.coreExec t.val 0xA (some 3) (fun s _ =>
    if (s.tile t.val).sb.any (fun r => r.pend == [.claim]) then s.coreFault t.val 0x05 0x0F 0
    else (s.updCore t.val (fun c => { c with st := 0, ended := true })).coreDone t.val))

/-- BRK (R500): the tile halts with the PC on the BRK. -/
def execBrk (t : Fin 144) (s : State) : Out :=
  .next (s.coreExec t.val 0xA (some 4) (fun s _ => s.startHalt t.val 2 0))

/-- FENCE (R121). -/
def execFence (t : Fin 144) (s : State) : Out :=
  .next (
    let excess := s.storesDone (fun w => w == .core t.val)
    match (s.core t.val).st, (s.core t.val).wait with
    | 3, some .fence => if excess then s.sbEnd t.val else s
    | _, _ => s.coreExec t.val 0xA (some 5) (fun s _ =>
        if excess then s.coreNext t.val ((s.core t.val).pc + 4) else s.coreWaits t.val .fence))

/-- SB_TIMEOUT (R137): the watchdog of a registration or of a stalled scoreboard instruction on the tag expires; it does not
advance while the tile is halted. DESIGN CHOICE: log entry 3. -/
def execSbTimeout (t : Fin 144) (tag : Fin 64) (s : State) : Out :=
  .next (
    let x := s.tile t.val
    let stalled := match x.core.wait with
      | some (.tag _ g _) => g == tag.val
      | some (.claim _ g) => g == tag.val
      | _ => false
    let unit := match x.sb.find? (fun r => r.tag == tag.val) with
      | some r => some r.unit
      | none => if stalled then some (Who.core t.val) else none
    match unit with
    | none => s
    | some u =>
      if x.dbg.state = 2 ∨ x.aborting then s
      else
        let s := s.report (s.mkRec 0x05 0x10 1 1 (BitVec.ofNat 32 t.val) (BitVec.ofNat 32 tag.val) (u.waiter 0) 0
          (s.tileCtx t.val) 0)
        (s.odInc 0x2B80 4).abortTask t.val codeTaskFault)

end Sys2Proof.Machine
end

