-- ==== Sys2Proof/Machine/Groups.lean ====
section
/-! DEFINITION. The commands of the thread-group engine (R145–R175). -/

namespace Sys2Proof.Machine

/-- KERNEL_START (R131, R149): the caches are invalidated and strict dead-read is latched. -/
def execKernelStart (t : Fin 144) (s : State) : Out :=
  .next (
    let x := s.tile t.val
    match x.tge.kq with
    | [] => s
    | (k, op) :: rest =>
      if x.tge.kern.isSome ∨ ¬ k.tagsReady x.sb op ∨ ¬ x.dbg.mayBegin ∨ x.aborting then s
      else
        let s := { s with reqs := s.reqs.filter (fun r => !(match r.who with | .group u _ => r.direct && u == t.val | _ => false)) }
        (s.updTge t.val (fun g => { g with
        kq := rest, kern := some { kl := k, op := op, next := 0, strict := s.odGet 0x2B81 1 == 1, flush := false },
        l0 := [], l1 := [], gic := [], gicPerr := [], turn := [] })).traceTile t.val 0x06 (leBytes 8 k.entry.toNat ++ leBytes 2 k.groups))

/-- The registers of a starting group (R147). -/
def Grp.start (num order : Nat) (entry arg : W64) (logical : Nat) : Grp :=
  { num := num, order := order, pc := entry, active := 0xFFFF_FFFF, exited := 0, stack := [],
    u := [(0, RWord.of (BitVec.ofNat 32 arg.toNat)), (1, RWord.of (BitVec.ofNat 32 (arg.toNat / 2 ^ 32))),
          (2, RWord.of (BitVec.ofNat 32 num)), (4, RWord.of (BitVec.ofNat 32 logical))], p := [], live := 0xFFFF_FFFF,
    v := (List.range 32).map (fun l => (l, RWord.of (BitVec.ofNat 32 l))), rc := [], loads := [], sync := none, busyV := [], stopped := false,
    fence := 0 }

/-- The slot of the next group (R146): the lowest free one of the lowest-numbered sequencer in SEQ_MASK that has one. -/
def Tge.freeSlot (x : Tge) (seqMask : Nat) : Option Nat :=
  (List.range 64).find? (fun k => seqMask.testBit (seqOf k) && (SMap.find x.slots k).isNone)

/-- GROUP_START. -/
def execGroupStart (t : Fin 144) (s : State) : Out :=
  .next (
    let x := s.tile t.val
    match x.tge.kern with
    | none => s
    | some k =>
      if k.kl.groups ≤ k.next ∨ x.dbg.state ≠ 0 ∨ x.aborting then s
      else match x.tge.freeSlot k.kl.seqMask with
        | none => s
        | some slot =>
          s.updTge t.val (fun g => { g with
            kern := some { k with next := k.next + 1 }, starts := g.starts + 1,
            slots := SMap.put g.slots slot (Grp.start k.next g.starts k.kl.entry k.kl.arg x.logical) }))

/-- KERNEL_END (R131): dirty lines are written back; once they have been performed the kernel's tags are released. -/
def execKernelEnd (t : Fin 144) (s : State) : Out :=
  .next (
    let x := s.tile t.val
    match x.tge.kern with
    | none => s
    | some k =>
      if k.next < k.kl.groups ∨ ¬ x.tge.slots.isEmpty ∨ x.aborting then s
      else
        let s := (s.updTge t.val (fun g => { g with kern := some { k with flush := true } })).l1Flush t.val
        if s.l1Quiet t.val then ((s.updTge t.val (fun g => { g with kern := none })).release t.val k.op .kernelEnd).traceTile t.val 0x07
          (leBytes 8 k.kl.entry.toNat ++ leBytes 2 k.kl.groups) else s)

/-- A line enters the shared instruction cache of 512 lines (R149). DESIGN CHOICE: log entry 34. -/
def State.gicPut (s : State) (t k : Nat) (bs : List PByte) : State :=
  let c := (s.tge t).gic
  let full := (SMap.find c k).isNone && decide (512 ≤ c.length)
  let (i, s) := if full then s.choose c.length else (0, s)
  let c := if full then (match (c.drop i).head? with | some e => SMap.drop c e.1 | none => c) else c
  s.updTge t (fun x => { x with gic := SMap.put c k bs, gicPerr := x.gicPerr.filter (fun j => (SMap.find c j).isSome) })

/-- GROUP_FETCH_RETURN (R149): the 64-byte line at a group's PC is asked for, and enters the shared instruction cache when it has
come. -/
def execGroupFetchReturn (t : Fin 144) (slot : Fin 64) (s : State) : Out :=
  .next (
    match s.grp t.val slot.val with
    | none => s
    | some g =>
      let s := s.gicTags t.val g.pc
      if !s.groupMayIssue t.val slot.val g || (cachedGWord (s.tge t.val).gic g.pc).isSome then s
      else if g.pc.toNat % 8 ≠ 0 then s.groupFault t.val slot.val 6 5 (lowLane g.active) g.pc
      else
        let a := g.pc.toNat / 64 * 64
        let who := Who.group t.val slot.val
        let ctx := (s.tile t.val).ctx
        match s.directRead who ctx .X a 64 0 with
        | (s, .wait) => s
        | (s, .denied c tg) => s.groupRefuse t.val slot.val c tg 0 a
        | (s, .failed cls c) => s.groupFaultRegs t.val slot.val cls c 0 g.active g.pc
        | (s, .bytes bs) => s.gicPut t.val (g.pc.toNat / 64) bs)

/-! Arithmetic. -/

/-- The second operand of an integer operation: VB, or the immediate of ADDI. -/
def gIntRhs (w : W64) (vb : Nat) (n : Nat) : Nat :=
  if gOp w = 0x0F then (BitVec.ofInt n (sgn 13 (gImm w))).toNat else vb

/-- VINT (R150). -/
def execVint (t : Fin 144) (slot : Fin 64) (s : State) : Out :=
  .next (s.groupExec t.val slot.val 0x0 (fun _ => true) false noPre (fun s g w lanes =>
    let a := fun l => (g.opd (uselOpd w 13) (gVa w) l).toNat
    let b := fun l => gIntRhs w (g.opd (uselOpd w 14) (gVb w) l).toNat 32
    if gOp w = 0x10 then
      let p := (lanesOf lanes).foldl (fun p l => natSetBit p l (gCond 32 (fld w 0 3) (a l) (b l))) (g.preg (gVd w)).toNat
      s.groupResult t.val slot.val (fun x => x.updSlot slot.val (fun g => g.setP (gVd w) (BitVec.ofNat 32 p)))
    else
      s.groupResult t.val slot.val (fun x =>
        x.writeLanes slot.val (gVd w) lanes (fun l => BitVec.ofNat 32 (gIntOp 32 (gOp w) (a l) (b l))))))

/-- VFP (R152). -/
def execVfp (t : Fin 144) (slot : Fin 64) (s : State) : Out :=
  .next (s.groupExec t.val slot.val 0x1 (fun _ => true) false noPre (fun s g w lanes =>
    let a := fun l => g.opd (uselOpd w 13) (gVa w) l
    let b := fun l => g.opd (uselOpd w 14) (gVb w) l
    let c := fun l => g.opd (uselOpd w 15) (gVc w) l
    if gOp w = 8 then
      let p := (lanesOf lanes).foldl (fun p l => natSetBit p l (gFpCond (fld w 0 2) (a l) (b l))) (g.preg (gVd w)).toNat
      s.groupResult t.val slot.val (fun x => x.updSlot slot.val (fun g => g.setP (gVd w) (BitVec.ofNat 32 p)))
    else
      let rs := (lanesOf lanes).map (fun l => (l, gFpOp (gOp w) (a l) (b l) (c l)))
      let fp := gOp w != 7
      let s := s.updTge t.val (fun x => x.note false (fp && rs.any (fun r => (decFP32 r.2).isNan))
        (fp && rs.any (fun r => (decFP32 r.2).isInf)) false)
      s.groupResult t.val slot.val (fun x => rs.foldl (fun x r => x.writeV slot.val (gVd w) r.1 r.2) x)))

/-- UNI (R150): an operation on u registers; ICMP sets all 32 bits of the predicate alike. -/
def execUni (t : Fin 144) (slot : Fin 64) (s : State) : Out :=
  .next (s.groupExec t.val slot.val 0x6 (fun _ => true) false noPre (fun s g w _ =>
    let a := (g.ureg (gVa w)).toNat
    let b := gIntRhs w (g.ureg (gVb w)).toNat 64
    s.groupResult t.val slot.val (fun x => x.updSlot slot.val (fun g =>
      if gOp w = 0x10 then g.setP (gVd w % 8) (if gCond 64 (fld w 0 3) a b then 0xFFFF_FFFF else 0)
      else g.setU (gVd w) (BitVec.ofNat 64 (gIntOp 64 (gOp w) a b))))))

/-- PRED (R150): bits of active lanes are written; BALLOT writes a u register. -/
def execPred (t : Fin 144) (slot : Fin 64) (s : State) : Out :=
  .next (s.groupExec t.val slot.val 0x7 (fun _ => true) false noPre (fun s g w _ =>
    let a := g.preg (gVa w)
    let b := g.preg (gVb w)
    let m : W32 := BitVec.ofNat 32 g.active
    if gOp w = 6 then
      s.groupResult t.val slot.val (fun x => x.updSlot slot.val (fun g => g.setU (gVd w) (BitVec.ofNat 64 (m &&& a).toNat)))
    else
      let r : W32 := if gOp w = 0 then a &&& b else if gOp w = 1 then a ||| b else if gOp w = 2 then a ^^^ b
        else if gOp w = 3 then ~~~ a else if gOp w = 4 then 0xFFFF_FFFF else 0
      s.groupResult t.val slot.val (fun x => x.updSlot slot.val (fun g => g.setP (gVd w) ((g.preg (gVd w) &&& ~~~ m) ||| (r &&& m))))))

/-- SHFL (R150): a lane reads a register of another lane, which need not be active; the value read in a dead lane is zero. -/
def execShfl (t : Fin 144) (slot : Fin 64) (s : State) : Out :=
  .next (s.groupExec t.val slot.val 0x9 (fun o => o == 0) false noPre (fun s g w lanes =>
    s.groupResult t.val slot.val (fun x => x.writeLanes slot.val (gVd w) lanes (fun l => g.v32 (gVa w) ((g.v32 (gVb w) l).toNat % 32)))))

/-- BCAST (R150). -/
def execBcast (t : Fin 144) (slot : Fin 64) (s : State) : Out :=
  .next (s.groupExec t.val slot.val 0x9 (fun o => o == 1) false noPre (fun s g w lanes =>
    s.groupResult t.val slot.val (fun x => x.writeLanes slot.val (gVd w) lanes (fun _ => BitVec.ofNat 32 (g.ureg (gVa w)).toNat))))

/-- RDLANE (R150): the lowest lane in which the instruction acts. -/
def execRdlane (t : Fin 144) (slot : Fin 64) (s : State) : Out :=
  .next (s.groupExec t.val slot.val 0x9 (fun o => o == 2) false noPre (fun s g w lanes =>
    s.groupResult t.val slot.val (fun x => x.updSlot slot.val (fun x =>
      if lanes = 0 then x else x.setU (gVd w) (BitVec.ofNat 64 (g.v32 (gVa w) (lowLane lanes)).toNat)))))

/-! Memory. -/

/-- Bytes of a VMEM operation. -/
def vmemSize (op : Nat) : Nat := if op % 2 = 0 then 4 else 8

/-- VMEM_LOAD (R165, R166): the lanes' hits are taken at once; the misses of a cacheable load leave as requests for
sectors, a bypass load after its lines have left the caches. -/
def execVmemLoad (t : Fin 144) (slot : Fin 64) (s : State) : Out :=
  .next (s.groupExec t.val slot.val 0x2 (fun o => o % 4 < 2) false
    (fun s g w lanes =>
      let as := g.addrs w lanes
      let by_ := decide (4 ≤ gOp w)
      let n := vmemSize (gOp w)
      let sq := seqOf slot.val
      let cached := (as.filter (fun e => !by_ && cacheable e.2)).map (fun e => (e.1, s.canonAddr e.2))
      let (s, lost) := s.cacheTags t.val sq (cached.map (fun e => e.2))
      let hit := fun a => !by_ && cacheable a && s.cacheHas t.val sq (s.canonAddr a) n
      if lost then (s, true)
      else match s.lanesOk t.val slot.val .R n as (fun a => !hit a) with
      | some s' => (s', true)
      | none =>
        let wt := fun l => (Who.group t.val slot.val).waiter l
        match cached.find? (fun e => hit e.2 && poisoned (s.cacheRead t.val sq e.2 n (wt e.1)).1) with
        | some e => (((s.cacheRead t.val sq e.2 n (wt e.1)).2).groupFault t.val slot.val 0x01 0x02 e.1 (BitVec.ofNat 64 e.2), true)
        | none => (s, false))
    (fun s g w lanes =>
      let n := vmemSize (gOp w)
      let sq := seqOf slot.val
      let wt := fun l => (Who.group t.val slot.val).waiter l
      let as := (g.addrs w lanes).map (fun e => (e.1, s.canonAddr e.2))
      let cached := as.filter (fun e => decide (gOp w < 4) && cacheable e.2)
      let direct := as.filter (fun e => !(decide (gOp w < 4) && cacheable e.2))
      let misses := cached.filter (fun e => !s.cacheHas t.val sq e.2 n)
      let (hits, s) := cached.foldl (fun (a : SMap Nat × State) e =>
        if s.cacheHas t.val sq e.2 n then
          let (bs, s) := a.2.cacheRead t.val sq e.2 n (wt e.1)
          (SMap.put a.1 e.1 (leNat (vals bs)), s.l0Fill t.val sq e.2 (wt e.1))
        else a) ([], s)
      let (s, ids) := s.loadMisses t.val slot.val n misses
      let (s, ids') := s.bypassLoads t.val slot.val n direct
      let pc := g.pc
      (s.updGrp t.val slot.val (fun g => { g with loads := g.loads ++ [{
        op := g.loads.foldl (fun m l => max m (l.op + 1)) 0, vd := gVd w, size := n, bypass := decide (4 ≤ gOp w),
        lanes := (misses ++ direct), vals := hits,
        reqs := ids ++ ids', pc := pc, word := w, mask := g.active }] })).groupNext t.val slot.val (pc + 8)))

/-- Whether an address lies in what a request asks for. -/
def State.covers (s : State) (r : Req) (a : Nat) : Bool :=
  decide (s.canonAddr r.addr ≤ s.canonAddr a ∧ s.canonAddr a < s.canonAddr r.addr + r.len)

/-- The value of a lane from the returned requests of its load. -/
def laneValue (canon : Nat → Nat) (rs : List Req) (a n : Nat) : Option (List PByte) :=
  (rs.find? (fun r => decide (canon r.addr ≤ a ∧ a + n ≤ canon r.addr + r.data.length))).map (fun r =>
    (r.data.drop (a - canon r.addr)).take n)

/-- GROUP_LOAD_RETURN (R166): with every request answered the data enters the caches and the registers; a refused or
poisoned one faults. -/
def execGroupLoadReturn (t : Fin 144) (slot : Fin 64) (op : Nat) (s : State) : Out :=
  .next (
    match s.grp t.val slot.val with
    | none => s
    | some g =>
      match g.loads.find? (fun l => l.op == op) with
      | none => s
      | some l =>
        let s' := l.reqs.foldl (fun s id => s.performReg id) s
        let rs := l.reqs.filterMap s'.findReq
        if !(rs.all (fun r => match r.st with | .done => true | .failed _ => true | _ => false)) then s'
        else
          let s := { s' with reqs := s'.reqs.filter (fun r => !(l.reqs.contains r.id)) }
          let s := s.updGrp t.val slot.val (fun g => { g with loads := g.loads.filter (fun x => x.op != op) })
          let failed := (List.range 32).findSome? (fun lane => (l.lanes.find? (fun e => e.1 == lane)).bind (fun e =>
            rs.findSome? (fun r => match r.st with | .failed c => if s.covers r e.2 then some (lane, r, c) else none | _ => none)))
          match failed with
          | some (lane, r, c) =>
            let k := s.failClass r c
            s.groupFaultRegs t.val slot.val k.1 k.2 lane l.mask l.pc
          | none =>
            let lanes := l.lanes.map (fun e => (e.1, laneValue s.canonAddr rs e.2 l.size, e.2))
            match lanes.find? (fun e => match e.2.1 with | some bs => poisoned bs | none => false) with
            | some e => s.groupFaultAt t.val slot.val 0x01 0x02 e.1 l.mask l.pc l.word (BitVec.ofNat 64 e.2.2)
            | none =>
              let s := rs.foldl (fun s r => if r.aux = 1 ∨ ¬ cacheable r.addr then s
                else s.l1Return t.val (seqOf slot.val) (s.canonAddr r.addr) r.data ((Who.group t.val slot.val).waiter 0)) s
              let vs := lanes.foldl (fun m e => match e.2.1 with
                | some bs => SMap.put m e.1 (leNat (vals bs)) | none => m) l.vals
              if gCls l.word = 4 then vs.foldl (fun s e => s.groupSync t.val slot.val (some e.1) e.2) s else
              s.updTge t.val (fun x => vs.foldl (fun x e =>
                if l.size = 8 then x.writeV64 slot.val l.vd e.1 e.2 else x.writeV slot.val l.vd e.1 (BitVec.ofNat 32 e.2)) x))

/-- VMEM_STORE (R166, R167): a cacheable store goes to the L1; a bypass store leaves after its lines have left the caches. A
line with a load of the group outstanding is waited for. -/
def execVmemStore (t : Fin 144) (slot : Fin 64) (s : State) : Out :=
  .next (s.groupExec t.val slot.val 0x2 (fun o => 2 ≤ o % 4) false
    (fun s g w lanes =>
      let as := g.addrs w lanes
      if as.any (fun e => s.loadOn t.val slot.val (s.canonAddr e.2 / 256)) then (s, true)
      else stopAt s (s.lanesOk t.val slot.val .W (vmemSize (gOp w)) as (fun a => decide (4 ≤ gOp w) || !cacheable a)))
    (fun s g w lanes =>
      let n := vmemSize (gOp w)
      let val := fun l => clean (leBytes n (if n = 8 then g.v64 (gVb w) l else (g.v32 (gVb w) l).toNat))
      let as := (g.addrs w lanes).map (fun e => (e.1, s.canonAddr e.2))
      let isC := fun (e : Nat × Nat) => decide (gOp w < 4) && cacheable e.2
      let s := (as.filter isC).foldl (fun s e => s.l1Store t.val (seqOf slot.val) e.2 (val e.1)
        ((Who.group t.val slot.val).waiter e.1)) s
      let s := s.bypassStores t.val slot.val (as.filter (fun e => !isC e)) n val
      s.groupNext t.val slot.val (g.pc + 8)))

/-! Atomics (R170). -/

/-- The checks of a returning atomic's lanes: alignment, remote, region, right. -/
def State.atomOk (s : State) (t slot n : Nat) (as : List (Nat × Nat)) : Option State :=
  let bad := as.findSome? (fun e =>
    let a := e.2
    if !addrFormatOk a then some (e.1, a, none)
    else if !s.isLocal a then some (e.1, a, some 0x0A)
    else match regionOf (addrOffset a) with
      | some .hbm => none
      | some .scratch => none
      | some _ => some (e.1, a, some 0x0B)
      | none => some (e.1, a, none))
  match misaligned n as, bad with
  | some e, _ => some (s.groupFault t slot 6 5 e.1 (BitVec.ofNat 64 e.2))
  | none, some (l, a, some c) => some (s.groupFault t slot 6 c l (BitVec.ofNat 64 a))
  | none, _ => match s.firstRefused t .A n as with
    | some (lane, a, c, tg) => some (s.groupRefuse t slot c tg lane a)
    | none => none

/-- VATOM (R166, R170): with the lines written back, no request on them to be performed and the homes open, the lanes'
operations are performed in ascending order, each returning the old value. DEDUCED: log entry 37. -/
def execVatom (t : Fin 144) (slot : Fin 64) (s : State) : Out :=
  .next (s.groupExec t.val slot.val 0x3 (fun o => o != 0x0C) false
    (fun s g w lanes =>
      let n := atomSize (gOp w)
      let as := g.addrs w lanes
      match s.atomOk t.val slot.val n as with
      | some s' => (s', true)
      | none =>
        let s := s.bypassAll t.val (as.map (fun e => (e.1, s.canonAddr e.2)))
        let lines := (byLine (as.map (fun e => (e.1, s.canonAddr e.2)))).map (fun e => e.1)
        let offs := as.map (fun e => addrOffset e.2)
        if lines.any (fun L => s.lineBusy t.val L) || offs.any (fun o => s.homeBusy o) then (s, true)
        else match offs.find? (fun o => regionOf o == some .hbm &&
            (s.hild.snoops.any (fun k => k.line == o / 256) || (s.snoopNeed (o / 256) true).isSome)) with
          | some o => (s.snooped o true id, true)
          | none =>
            let parts := byLine (as.map (fun e => (e.1, s.canonAddr e.2)))
            let ctx := (s.tile t.val).ctx
            let (s, here) := s.enterAll (parts.filterMap (fun p => match p.2 with
              | e :: _ => some (Who.group t.val slot.val, s.clsAt t.val ctx .A e.2 n, e.2, (p.2.length * n + 63) / 64)
              | [] => none))
            if !here then (s, true) else
            let s := parts.foldl (fun s p => s.lineForAtomic t.val ctx n p.2) s
            let (bad, s) := as.foldl (fun (acc : Option (Nat × Nat) × State) e =>
              let (bs, s) := acc.2.memRead (acc.2.homePlace (addrOffset e.2)) n ((Who.group t.val slot.val).waiter e.1)
              (if acc.1.isNone && poisoned bs then some e else acc.1, s)) (none, s)
            match bad with
            | some e => (s.groupFault t.val slot.val 0x01 0x02 e.1 (BitVec.ofNat 64 e.2), true)
            | none => (s, false))
    (fun s g w lanes =>
      let n := atomSize (gOp w)
      let as := g.addrs w lanes
      let s := s.bypassAll t.val (as.map (fun e => (e.1, s.canonAddr e.2)))
      let s := as.foldl (fun s e =>
        let o := addrOffset e.2
        let pl := s.homePlace o
        let wt := (Who.group t.val slot.val).waiter e.1
        let (bs, s) := s.memRead pl n wt
        let old := leNat (vals bs)
        let b := if n = 8 then g.v64 (gVb w) e.1 else (g.v32 (gVb w) e.1).toNat
        let new := atomOp (gOp w) old b (g.v32 (gVc w) e.1).toNat
        let s := s.memWrite pl ((clean (leBytes n new)).map some) wt
        s.updTge t.val (fun x =>
          if n = 8 then x.writeV64 slot.val (gVd w) e.1 old else x.writeV slot.val (gVd w) e.1 (BitVec.ofNat 32 old))) s
      s.groupNext t.val slot.val (g.pc + 8)))

/-- VATOM_RED (R165, R170): one posted reduction per line, its lanes in ascending order; a poisoned operand poisons its target
(R298). -/
def execVatomRed (t : Fin 144) (slot : Fin 64) (s : State) : Out :=
  .next (s.groupExec t.val slot.val 0x3 (fun o => o == 0x0C) false
    (fun s g w lanes =>
      let as := g.addrs w lanes
      match redSizes (gVd w) with
      | none => (s, false)
      | some (_, tz) => stopAt s (
        match s.lanesOk t.val slot.val .A tz as (fun _ => true) with
        | some s' => some s'
        | none => match as.find? (fun e => s.isLocal e.2 && !cacheable e.2) with
          | some e => some (s.groupFault t.val slot.val 0x03 0x04 e.1 (BitVec.ofNat 64 e.2))
          | none => none))
    (fun s g w lanes =>
      let (os, tz) := (redSizes (gVd w)).getD (4, 4)
      let val := fun l => (List.range (os / 4)).flatMap (fun i =>
        (leBytes 4 (g.v32 (gVb w + i) l).toNat).map (fun b => (b, g.vPoisoned (gVb w + i) l)))
      let as := (g.addrs w lanes).map (fun e => (e.1, s.canonAddr e.2))
      (s.redRequests t.val slot.val (gVd w) os tz as val).groupNext t.val slot.val (g.pc + 8)))

/-! Fences (R168). -/

/-- FENCE_G. -/
def execFenceG (t : Fin 144) (slot : Fin 64) (s : State) : Out :=
  .next (s.fenceRow t.val slot.val 0 id (fun s => s.fenceGOver t.val slot.val) id)
/-- FENCE_T. -/
def execFenceT (t : Fin 144) (slot : Fin 64) (s : State) : Out :=
  .next (s.fenceRow t.val slot.val 1 id (fun s => s.fenceGOver t.val slot.val) (fun s => s.l0Invalidate t.val (seqOf slot.val)))
/-- FENCE_D. -/
def execFenceD (t : Fin 144) (slot : Fin 64) (s : State) : Out :=
  .next (s.fenceRow t.val slot.val 2 (fun s => s.l1Flush t.val) (fun s => s.fenceDOver t.val slot.val)
    (fun s => s.acquireFence t.val slot.val))

/-! Divergence (R157–R160). -/

/-- A control instruction: the group after it, its PC included, or a fault of class 6. -/
def State.ctrlRow (s : State) (t slot op : Nat) (always : Bool) (f : Grp → W64 → Except Nat Grp) : State :=
  s.groupExec t slot 0x5 (fun o => o == op) always
    (fun s g w _ => match f g w with | .error c => (s.groupFault t slot 6 c (lowLane g.active) 0, true) | .ok _ => (s, false))
    (fun s _ w _ => match s.grp t slot with
      | none => s
      | some g => match f g w with
        | .error _ => s
        | .ok g' => ((s.setGrp t slot g').groupNext t slot g'.pc).groupFinish t slot)

/-- here + 8 × off. -/
def gTarget (g : Grp) (w : W64) : W64 := g.pc + BitVec.ofInt 64 (8 * sgn 16 (gImm w))
def Grp.nextPc (g : Grp) : Grp := { g with pc := g.pc + 8 }

/-- DEDUCED: log entry 38. -/
def MASK_DEPTH : Nat := 8
def MASK_MISMATCH : Nat := 9

/-- IF. -/
def execMaskIf (t : Fin 144) (slot : Fin 64) (s : State) : Out :=
  .next (s.ctrlRow t.val slot.val 0x0 true (fun g w =>
    if 16 ≤ g.stack.length then .error MASK_DEPTH
    else
      let c := g.condMask w
      let a := g.active &&& c
      .ok { g with stack := { kind := 0, saved := g.active, els := g.active &&& notMask c } :: g.stack, active := a,
                   pc := if a = 0 then gTarget g w else g.pc + 8 }))

/-- ELSE. -/
def execMaskElse (t : Fin 144) (slot : Fin 64) (s : State) : Out :=
  .next (s.ctrlRow t.val slot.val 0x1 true (fun g w =>
    match g.stack with
    | e :: r =>
      if e.kind = 0 then
        .ok { g with active := e.els, stack := { e with kind := 1 } :: r, pc := if e.els = 0 then gTarget g w else g.pc + 8 }
      else .error MASK_MISMATCH
    | [] => .error MASK_MISMATCH))

/-- ENDIF. -/
def execMaskEndif (t : Fin 144) (slot : Fin 64) (s : State) : Out :=
  .next (s.ctrlRow t.val slot.val 0x2 true (fun g _ =>
    match g.stack with
    | e :: r => if e.kind = 2 then .error MASK_MISMATCH else .ok { g.nextPc with active := e.saved, stack := r }
    | [] => .error MASK_MISMATCH))

/-- LOOP: it pushes an entry, and a full stack faults as for IF. DEDUCED: log entry 38. -/
def execMaskLoop (t : Fin 144) (slot : Fin 64) (s : State) : Out :=
  .next (s.ctrlRow t.val slot.val 0x3 true (fun g _ =>
    if 16 ≤ g.stack.length then .error MASK_DEPTH
    else .ok { g.nextPc with stack := { kind := 2, saved := g.active, els := 0 } :: g.stack }))

/-- The entries above the innermost LOOP without the lanes b; none where no LOOP is in the stack. -/
def leaveLoop (b : Nat) : List MaskEnt → Option (List MaskEnt)
  | [] => none
  | e :: r =>
    if e.kind = 2 then some (e :: r)
    else (leaveLoop b r).map (fun r => { e with saved := e.saved &&& notMask b, els := e.els &&& notMask b } :: r)

/-- BREAK. -/
def execMaskBreak (t : Fin 144) (slot : Fin 64) (s : State) : Out :=
  .next (s.ctrlRow t.val slot.val 0x4 true (fun g w =>
    let b := g.active &&& g.condMask w
    match leaveLoop b g.stack with
    | some r => .ok { g.nextPc with active := g.active &&& notMask b, stack := r }
    | none => .error MASK_MISMATCH))

/-- CONT. -/
def execMaskCont (t : Fin 144) (slot : Fin 64) (s : State) : Out :=
  .next (s.ctrlRow t.val slot.val 0x5 true (fun g w =>
    match g.stack with
    | e :: _ => if e.kind = 2 then .ok { g with pc := if g.active = 0 then g.pc + 8 else gTarget g w } else .error MASK_MISMATCH
    | [] => .error MASK_MISMATCH))

/-- ENDLOOP. -/
def execMaskEndloop (t : Fin 144) (slot : Fin 64) (s : State) : Out :=
  .next (s.ctrlRow t.val slot.val 0x6 true (fun g _ =>
    match g.stack with
    | e :: r => if e.kind = 2 then .ok { g.nextPc with active := e.saved, stack := r } else .error MASK_MISMATCH
    | [] => .error MASK_MISMATCH))

/-- Lanes leave every mask (R158). -/
def Grp.exitLanes (g : Grp) (x : Nat) : Grp :=
  { g with exited := g.exited ||| x, active := g.active &&& notMask x,
           stack := g.stack.map (fun e => { e with saved := e.saved &&& notMask x, els := e.els &&& notMask x }) }

/-- EXIT. -/
def execMaskExit (t : Fin 144) (slot : Fin 64) (s : State) : Out :=
  .next (s.ctrlRow t.val slot.val 0x7 false (fun g w => .ok (g.nextPc.exitLanes (g.active &&& g.condMask w))))

/-- GROUP_END. -/
def execGroupEnd (t : Fin 144) (slot : Fin 64) (s : State) : Out :=
  .next (s.ctrlRow t.val slot.val 0x8 false (fun g _ =>
    if g.stack.isEmpty then .ok (g.nextPc.exitLanes g.active) else .error MASK_MISMATCH))

/-- JMP (R160). -/
def execJmp (t : Fin 144) (slot : Fin 64) (s : State) : Out :=
  .next (s.ctrlRow t.val slot.val 0x9 false (fun g w => .ok { g with pc := gTarget g w }))

/-- BRA_ANY (R160). -/
def execBraAny (t : Fin 144) (slot : Fin 64) (s : State) : Out :=
  .next (s.ctrlRow t.val slot.val 0xA false (fun g w =>
    .ok { g with pc := if g.active &&& g.condMask w = 0 then g.pc + 8 else gTarget g w }))

/-- BRA_ALL (R160). -/
def execBraAll (t : Fin 144) (slot : Fin 64) (s : State) : Out :=
  .next (s.ctrlRow t.val slot.val 0xB false (fun g w =>
    .ok { g with pc := if g.active &&& g.condMask w = g.active then gTarget g w else g.pc + 8 }))

/-- CALL (R160). -/
def execCall (t : Fin 144) (slot : Fin 64) (s : State) : Out :=
  .next (s.ctrlRow t.val slot.val 0xC false (fun g w => .ok { (g.setU (gVd w) (g.pc + 8)) with pc := gTarget g w }))

/-- RET (R160). -/
def execRet (t : Fin 144) (slot : Fin 64) (s : State) : Out :=
  .next (s.ctrlRow t.val slot.val 0xD false (fun g w => .ok { g with pc := g.ureg (gVa w) }))

/-! Matrix instructions (R161–R164). -/

/-- A GMX instruction: the unit of its sequencer takes it while at most one earlier result is pending (R164); a partial mask faults unless the kernel is masked-zero (R162);
the results are computed from the sources at issue and wait in the unit. -/
def State.gmxRow (s : State) (t slot op : Nat) : State :=
  s.groupExec t slot 0x8 (fun o => o == op) false
    (fun s g _ _ =>
      let mz : Bool := match (s.tge t).kern with | some k => k.kl.maskedZero | none => false
      if g.active ≠ 0xFFFF_FFFF ∧ ¬ mz then (s.groupFault t slot 6 6 (lowLane g.active) 0, true)
      else (s, decide (2 ≤ (SMap.get [] (s.tge t).gmx (seqOf slot)).length)))
    (fun s g w _ =>
      let val := fun r l => (g.v32 r l).toNat
      let outs := (List.range 256).filterMap (fun i =>
        let r := i / 16
        let c := i % 16
        let lane := 2 * r + c / 8
        if g.active.testBit lane then
          some ((gVd w + c % 8) * 32 + lane, gmxElem op (gImm w) val g.active (gVa w) (gVb w) (gVc w) r c)
        else none)
      let op : GmxOp :=
        { slot := slot, vd := gVd w, res := outs.foldl (fun m o => SMap.put m o.1 o.2.1) [],
          sat := outs.any (fun o => o.2.2.1), nan := outs.any (fun o => o.2.2.2.1), inf := outs.any (fun o => o.2.2.2.2) }
      let s := s.updTge t (fun x => { x with gmx := SMap.upd [] x.gmx (seqOf slot) (fun q => q ++ [op]) })
      let pc := g.pc
      (s.updGrp t slot (fun g => { g with busyV := g.busyV ++ [(gVd w, 8)] })).groupNext t slot (pc + 8))

/-- MMA_BF16. -/
def execMmaBf16 (t : Fin 144) (slot : Fin 64) (s : State) : Out := .next (s.gmxRow t.val slot.val 0)
/-- MMA_FP8. -/
def execMmaFp8 (t : Fin 144) (slot : Fin 64) (s : State) : Out := .next (s.gmxRow t.val slot.val 1)
/-- MMA_INT8. -/
def execMmaInt8 (t : Fin 144) (slot : Fin 64) (s : State) : Out := .next (s.gmxRow t.val slot.val 2)

/-- GMX_RESULT_READY (R164): the D of the oldest operation of a sequencer's unit is written. DESIGN CHOICE: log entry 42. -/
def execGmxResultReady (t : Fin 144) (seqr : Fin 8) (s : State) : Out :=
  .next (
    match SMap.get [] (s.tge t.val).gmx seqr.val with
    | [] => s
    | o :: rest =>
      let s := s.updTge t.val (fun x => { (x.note o.sat o.nan o.inf false) with gmx := SMap.put x.gmx seqr.val rest })
      if o.slot = 64 then s
      else
        s.updTge t.val (fun x =>
          let x := o.res.foldl (fun x e => x.writeV o.slot (e.1 / 32) (e.1 % 32) e.2) x
          x.updSlot o.slot (fun g => { g with busyV := g.busyV.filter (fun b => b.1 != o.vd) })))

end Sys2Proof.Machine
end

