-- ==== Sys2Proof/Machine/SyncRows.lean ====
section
/-! DEFINITION. The commands on synchronisation objects: operations of control cores and groups, timeouts, writes to the
window, hand-sets (R197–R228). -/

namespace Sys2Proof.Machine

/-- The number of the object of a kind at an address (check 1 of R204). -/
def objNum (k : ObjKind) (a : Nat) : Option Nat :=
  if !addrFormatOk a then none
  else match objAt (addrOffset a) with
    | some (k', n) => if k' = k then some n else none
    | none => none

/-- A synchronisation operation as R203 lists it: its function code, the kind of its object, the right it needs. -/
structure SyncOp where
  func  : Nat
  kind  : ObjKind
  right : Right
  deriving DecidableEq, Repr

def opCtrRd : SyncOp := { func := 0x08, kind := .ctr, right := .R }
def opCtrInc : SyncOp := { func := 0x09, kind := .ctr, right := .A }
def opCtrWait : SyncOp := { func := 0x0B, kind := .ctr, right := .R }
def opLockAcq : SyncOp := { func := 0x0C, kind := .lock, right := .A }
def opLockTry : SyncOp := { func := 0x0D, kind := .lock, right := .A }
def opLockRel : SyncOp := { func := 0x0E, kind := .lock, right := .A }
def opEvtSet : SyncOp := { func := 0x0F, kind := .evt, right := .A }
def opEvtClr : SyncOp := { func := 0x10, kind := .evt, right := .A }
def opEvtWait : SyncOp := { func := 0x11, kind := .evt, right := .R }
def opBarJoin : SyncOp := { func := 0x12, kind := .chan, right := .A }
def opBarLeave : SyncOp := { func := 0x13, kind := .chan, right := .A }
def opBarArrive : SyncOp := { func := 0x14, kind := .chan, right := .A }
def opBarWait : SyncOp := { func := 0x15, kind := .chan, right := .R }
def opBarSync : SyncOp := { func := 0x16, kind := .chan, right := .A }

/-- The operand of an operation: for CTR.INC amount, epoch and its valid bit; for CTR.WAIT the target. -/
structure SyncArg where
  val   : Nat
  epoch : Option Nat
  bad   : Bool
  deriving DecidableEq, Repr

def SyncArg.nothing : SyncArg := { val := 0, epoch := none, bad := false }

/-- The operand word of a core's CTR.INC, of the alias and of a CTR_INC word: amount, epoch, EPOCH_VALID (R203, R212). -/
def incWord (v : W64) : SyncArg :=
  { val := fld v 0 32, epoch := if bitOf v 48 then some (fld v 32 16) else none,
    bad := fld v 0 32 == 0 || fld v 49 15 != 0 }

/-- The operand of a core's operation. -/
def SyncOp.coreArg (o : SyncOp) (v : W64) : SyncArg :=
  if o.func = 0x09 then incWord v
  else if o.func = 0x0B then { val := v.toNat, epoch := none, bad := false }
  else SyncArg.nothing

/-- The operand of a lane's operation. -/
def SyncOp.laneArg (o : SyncOp) (g : Grp) (w : W64) (lane : Nat) : SyncArg :=
  if o.func = 0x09 then
    let c := g.v32 (gVc w) lane
    { val := (g.v32 (gVb w) lane).toNat, epoch := if bitOf c 16 then some (fld c 0 16) else none,
      bad := (g.v32 (gVb w) lane).toNat == 0 || fld c 17 15 != 0 }
  else if o.func = 0x0B then { val := g.v64 (gVb w) lane, epoch := none, bad := false }
  else SyncArg.nothing

/-- The checks of R204: the code of class 0x04 that fails first. -/
def State.syncCheck (s : State) (o : SyncOp) (a : Nat) (arg : SyncArg) : Option Nat :=
  match objNum o.kind a with
  | none => some SYN_KIND
  | some _ =>
    if arg.bad then some SYN_OPERAND
    else if !s.isLocal a && decide (o.func ≠ 0x08 ∧ o.func ≠ 0x09) then some SYN_REMOTE
    else none

/-- A pending operation of a unit. -/
def SWait.mk' (k : ObjKind) (n : Nat) (who : Who) (lane op : Nat) (want : WaitFor) : SWait :=
  { kind := k, num := n, who := who, lane := lane, op := op, want := want, held := false, epoch := none }

/-- Perform a local operation for a unit and lane at the object's home: its answer is delivered, now or when it ends. -/
def State.syncPerform (s : State) (o : SyncOp) (n : Nat) (who : Who) (lane op : Nat) (arg : SyncArg) (late : Bool) : State :=
  let w := SWait.mk' o.kind n who lane op
  let answer := fun (s : State) (v : Nat) => s.deliver (w .round) v
  match o.func with
  | 0x08 => answer s (s.ctr n)
  | 0x09 => s.arrive (w (.inc arg.val)) false arg.epoch
  | 0x0B => s.arrive (w (.value (BitVec.ofNat 64 arg.val))) false none
  | 0x0C => s.arrive (w .acquire) late none
  | 0x0D =>
    let l := s.lockOf n
    (match l.owner with
     | none =>
       answer (s.setLock n { owner := some (who, lane), abandoned := false, selfGroup := false })
         (if l.abandoned then ABANDONED else SYN_OK)
     | some (u, k) => answer s (if u = who ∧ k = lane then LOCK_HELD_SELF else LOCK_BUSY))
  | 0x0E => let (s, st) := s.unlock n who lane; answer s st
  | 0x0F => answer (s.signalEvt n SYN_OK) SYN_OK
  | 0x10 => answer (s.setEvt n false) SYN_OK
  | 0x11 => s.arrive (w .event) false none
  | 0x12 =>
    let c := s.chanOf n
    let t := whoTile who
    if c.members.contains t then answer s SYN_OK
    else if c.expect ≤ c.members.length then answer s BAR_FULL
    else answer (s.setChan n { c with members := c.members ++ [t] }) SYN_OK
  | 0x13 =>
    let t := whoTile who
    if !((s.chanOf n).members.contains t) then answer s SYN_OK
    else answer ((s.leaveChan n t).endWaits (fun x => x.on .chan n && x.who.tile == some t) BAR_NOT_JOINED) SYN_OK
  | 0x14 => s.arrive (w (.arrive false)) false none
  | 0x15 => s.arrive (w .round) false none
  | _ => s.arrive (w (.arrive true)) false none

/-- A remote increment of a unit: posted, with OK once link egress has it (R206). -/
def State.syncRemoteInc (s : State) (who : Who) (ctx a : Nat) (arg : SyncArg) : State :=
  let ep := arg.epoch.getD 0
  let data := clean (leBytes 4 arg.val ++ leBytes 2 ep ++ leBytes 1 (if arg.epoch.isSome then 1 else 0))
  (s.access (newReq who ctx .ctrInc a 8 data 0) .A).1

/-- The number for the operations of one instruction. -/
def State.newSyncOp (s : State) : Nat × State := (s.sync.nextOp, s.updSync (fun y => { y with nextOp := y.nextOp + 1 }))

/-! Control cores. -/

/-- A core's operation leaves the core, its stores performed and its access checked; it waits in the core while the port of its
object does not let it in (R308). DEDUCED: log entry 40. -/
def State.coreSyncSend (s : State) (o : SyncOp) (t : Nat) (w : W32) (late : Bool) : State :=
  let c := s.core t
  let a := (c.reg (insRa w)).toNat
  let arg := o.coreArg (c.reg (insRb w))
  match s.checkAccess t (s.ctxOf t) o.right a 8 with
  | .error (e, tg) => (s.refuse (.core t) (s.ctxOf t) e tg a).faultRegs t 0x0B e
  | .ok ok =>
    if !s.isLocal a then
      if o.func = 0x08 then
        let (s, id) := s.issue (newReq (.core t) (s.ctxOf t) .load a 8 [] 0) ok
        s.coreWaits t (.load (insRd w) 8 id)
      else
        ((s.coreWaits t (.sync (insRd w) false)).syncRemoteInc (.core t) (s.ctxOf t) a arg).coreSync t 0
    else
      let (s, here) := s.enter (.core t) ok.cls a 1
      if !here then s.coreWaits t .syncArm
      else
        let n := (objNum o.kind a).getD 0
        let (op, s) := (s.coreWaits t (.sync (insRd w) (o.func == 0x08))).newSyncOp
        (s.syncPerform o n (.core t) 0 op arg late).syncSettle

/-- A core's SYNC instruction: the checks of R204, then the wait for its earlier stores (R206). -/
def State.coreSyncRow (s : State) (o : SyncOp) (t : Nat) (late : Bool) : State :=
  let excess := s.storesDone (fun w => w == .core t)
  match (s.core t).st, (s.core t).wait with
  | 3, some .syncArm =>
    let w := (s.core t).word
    if insClass w = 0x7 ∧ insFunc w = o.func ∧ excess then s.coreSyncSend o t w late else s
  | _, _ => s.coreExec t 0x7 (some o.func) (fun s w =>
      let a := (s.core t).reg (insRa w)
      match s.syncCheck o a.toNat (o.coreArg ((s.core t).reg (insRb w))) with
      | some code => s.coreFault t 0x04 code a
      | none => if excess then s.coreSyncSend o t w late else s.coreWaits t .syncArm)

/-! Groups. -/

/-- The lanes and addresses of a group's operation: for a barrier operation the lowest lane's address (R205). -/
def SyncOp.laneAddrs (o : SyncOp) (g : Grp) (w : W64) (lanes : Nat) : List (Nat × Nat) :=
  let as := g.addrs w lanes
  if o.kind = .chan then as.take 1 else as

/-- A group's operation leaves the tile: the result registers wait, the PC moves on, and each lane's operation goes to its
home in ascending order. DEDUCED: log entry 40. -/
def State.groupSyncSend (s : State) (o : SyncOp) (t slot : Nat) (g : Grp) (w : W64) (lanes : Nat) (late : Bool) : State :=
  if lanes = 0 then s.groupNext t slot (g.pc + 8)
  else
    let ctx := s.ctxOf t
    let who := Who.group t slot
    let wide := o.func == 0x08
    let s := s.updGrp t slot (fun x => { x with
      pc := g.pc + 8, sync := some { func := o.func, vd := gVd w, wide := wide, lanes := lanesOf lanes, res := [] } })
    let as := o.laneAddrs g w lanes
    let far := as.filter (fun e => !s.isLocal e.2)
    -- remote reads of one instruction form one load, whose return answers their lanes
    let (s, ids) := if wide then far.foldl (fun (a : State × List Nat) e =>
        a.1.groupReq (newReq who ctx .load e.2 8 [] 0) .R a.2) (s, []) else (s, [])
    let s := if wide ∧ ¬ far.isEmpty then
        s.updGrp t slot (fun x => { x with loads := x.loads ++ [{
          op := x.loads.foldl (fun m l => max m (l.op + 1)) 0, vd := gVd w, size := 8, bypass := true, lanes := far, vals := [],
          reqs := ids, pc := g.pc, word := w, mask := g.active }] })
      else s
    let (op, s) := s.newSyncOp
    -- R218 counts from the first LOCK_SELF_GROUP of the tenure: one that this instruction itself receives is not earlier
    let was := s.sync.lock
    let lateAt := fun (n : Nat) => late && (SMap.get Lock.init was n).selfGroup
    (as.foldl (fun s e =>
      let arg := o.laneArg g w e.1
      if s.isLocal e.2 then s.syncPerform o ((objNum o.kind e.2).getD 0) who e.1 op arg (lateAt ((objNum o.kind e.2).getD 0))
      else if wide then s
      else (s.syncRemoteInc who ctx e.2 arg).groupSync t slot (some e.1) SYN_OK) s).syncSettle

/-- The checks of R204 and the access checks of a group's lanes: a precise fault. -/
def State.groupSyncCheck (s : State) (o : SyncOp) (t slot : Nat) (g : Grp) (w : W64) (lanes : Nat) : Option State :=
  let as := o.laneAddrs g w lanes
  match as.findSome? (fun e => (s.syncCheck o e.2 (o.laneArg g w e.1)).map (fun c => (e, c))) with
  | some (e, c) => some (s.groupFault t slot 0x04 c e.1 (BitVec.ofNat 64 e.2))
  | none => match s.firstRefused t o.right 8 as with
    | some (lane, a, c, tg) => some (s.groupRefuse t slot c tg lane a)
    | none => none

/-- A group's VSYNC operation: its checks, the first part of FENCE.D (R169), then the operation itself. -/
def State.groupSyncRow (s : State) (o : SyncOp) (t slot : Nat) (late : Bool) : State :=
  let send := fun (s : State) => s.groupRun t slot 0x4 (fun c => c == o.func) false
    (fun s g w lanes => match s.groupSyncCheck o t slot g w lanes with
      | some s' => (s', true)
      | none =>
        let (s, here) := s.enterAll (((o.laneAddrs g w lanes).filter (fun e => s.isLocal e.2)).map (fun e =>
          (Who.group t slot, s.clsAt t (s.tile t).ctx o.right e.2 8, e.2, 1)))
        (s, !here)) (fun s g w lanes => s.groupSyncSend o t slot g w lanes late)
  match s.grp t slot with
  | none => s
  | some g =>
    let w := s.gWordAt t g
    if g.fence = 4 then
      if gCls w = 4 ∧ gOp w = o.func ∧ s.fenceDOver t slot ∧ ¬ g.stopped ∧ ¬ (s.tile t).aborting ∧ (s.dbg t).groupMayRun slot then
        send (s.updGrp t slot (fun g => { g with fence := 0 }))
      else s
    else s.groupExec t slot 0x4 (fun c => c == o.func) false
      (fun s g w lanes => match s.groupSyncCheck o t slot g w lanes with
        | some s' => (s', true)
        | none =>
          if lanes = 0 then (s, false)
          else
            let s := s.l1Flush t
            (if s.fenceDOver t slot then send s else s.updGrp t slot (fun g => { g with fence := 4 }), true))
      (fun s g _ _ => s.groupNext t slot (g.pc + 8))

/-- One operation of either kind of unit. -/
def State.syncRow (s : State) (o : SyncOp) (u : SUnit) (late : Bool) : State :=
  match u with
  | .core t => s.coreSyncRow o t.val late
  | .group t slot => s.groupSyncRow o t.val slot.val late

/-- CTR_RD. -/
def execCtrRd (u : SUnit) (s : State) : Out := .next (s.syncRow opCtrRd u false)
/-- CTR_INC (R211, R214, R215). -/
def execCtrInc (u : SUnit) (s : State) : Out := .next (s.syncRow opCtrInc u false)
/-- CTR_WAIT. -/
def execCtrWait (u : SUnit) (s : State) : Out := .next (s.syncRow opCtrWait u false)
/-- LOCK_ACQ (R217, R218); `late` says that it reaches the home later than the tenure time plus its timeout.
DESIGN CHOICE: log entry 50. -/
def execLockAcq (u : SUnit) (late : Bool) (s : State) : Out := .next (s.syncRow opLockAcq u late)
/-- LOCK_TRY. -/
def execLockTry (u : SUnit) (s : State) : Out := .next (s.syncRow opLockTry u false)
/-- LOCK_REL. -/
def execLockRel (u : SUnit) (s : State) : Out := .next (s.syncRow opLockRel u false)
/-- EVT_SET (R220). -/
def execEvtSet (u : SUnit) (s : State) : Out := .next (s.syncRow opEvtSet u false)
/-- EVT_CLR. -/
def execEvtClr (u : SUnit) (s : State) : Out := .next (s.syncRow opEvtClr u false)
/-- EVT_WAIT. -/
def execEvtWait (u : SUnit) (s : State) : Out := .next (s.syncRow opEvtWait u false)
/-- BAR_JOIN (R221). -/
def execBarJoin (t : Fin 144) (s : State) : Out := .next (s.coreSyncRow opBarJoin t.val false)
/-- BAR_LEAVE (R221). -/
def execBarLeave (t : Fin 144) (s : State) : Out := .next (s.coreSyncRow opBarLeave t.val false)
/-- BAR_ARRIVE (R222, R223). -/
def execBarArrive (u : SUnit) (s : State) : Out := .next (s.syncRow opBarArrive u false)
/-- BAR_WAIT. -/
def execBarWait (u : SUnit) (s : State) : Out := .next (s.syncRow opBarWait u false)
/-- BAR_SYNC (R208). -/
def execBarSync (u : SUnit) (s : State) : Out := .next (s.syncRow opBarSync u false)

/-- SYN_TIMEOUT (R209): the oldest entry but `wait` expires, unless its tile is halted; a held increment's queue moves on.
DESIGN CHOICE: log entry 3. -/
def execSynTimeout (wait : Nat) (s : State) : Out :=
  .next (match s.sync.waits[wait]? with
    | none => s
    | some w =>
      if (s.dbg (whoTile w.who)).state = 2 then s
      else
        let s := s.updSync (fun y => { y with waits := y.waits.erase w })
        let s := if w.held then s.synTileRec (whoTile w.who) SYN_TIMEOUT (objId w.kind w.num) (w.who.waiter w.lane) (s.whoCtx w.who)
          else s.synRec SYN_TIMEOUT 0 (objId w.kind w.num) (w.who.waiter w.lane) (s.whoCtx w.who)
        let s := s.deliver w SYN_TIMEOUT
        let s := if isInc w.want then State.applyHeld (s.sync.waits.length + 1) s w.num else s
        s.syncSettle)

/-! Writes to the window. -/

/-- The STATUS packet that a failed posted request leaves (R331, R349). -/
def State.statusPkt (s : State) (who : Who) (ctx addr status : Nat) : State :=
  match who with
  | .fabric _ key => s.respond { Pkt.base TSTATUS (key / 4096) s.ownId (key / 4 % 1024) ctx (key % 4) addr with status := status }
  | .hild => s.hildOut { Pkt.base TSTATUS 0 0 0 ctx 0 addr with status := status }
  | _ => s

/-- Whether a master gets a STATUS packet for a posted request that fails (R331, R349). -/
def Who.takesStatus (w : Who) : Bool := match w with | .fabric _ _ => true | .hild => true | _ => false

/-- A write refused by the rules of an object: its record, and a STATUS packet to a sender on a link (R331, R349). R331 lists no
STATUS value but COUNT_BOUND for it: the value is free. DESIGN CHOICE: log entry 161. -/
def State.synRefuse (s : State) (code : Nat) (object : W32) (x : WrIn) : State :=
  let s := s.synRec code 0 object (x.who.waiter 0) (some x.ctx)
  if !x.who.takesStatus then s
  else
    let (v, s) := if code = COUNT_BOUND then (ST_COUNT_BOUND, s) else (let p := s.choose 255; (p.1 + 1, p.2))
    s.statusPkt x.who x.ctx (s.globalOf x.off).toNat v

/-- Whether an offset lies in the window at a place that p accepts. -/
def inSync (p : Nat → Bool) (off : Nat) : Bool := decide (0x102_0000_0000 ≤ off) && p (off - 0x102_0000_0000)

/-- INCREMENT_ALIAS_WRITE (R212). -/
def execIncrementAliasWrite (w : Wr) (s : State) : Out :=
  .next (match s.takeWr w inAlias with
    | (s, none) => s
    | (s, some x) =>
      let n := (x.off - 0x102_0100_0000) / 16
      let arg := incWord x.data
      if !x.full || arg.bad then s.synRefuse SYN_OPERAND (objId .ctr n) x
      else
        let (s, st) := s.incNow n arg.val arg.epoch (x.who.waiter 0) (some x.ctx)
        let s := if st = STALE_TARGET then s.statusPkt x.who x.ctx (s.globalOf x.off).toNat ST_STALE
          else if st = COUNT_BOUND then s.statusPkt x.who x.ctx (s.globalOf x.off).toNat ST_COUNT_BOUND
          else if st = CTR_OVERFLOW then s.statusPkt x.who x.ctx (s.globalOf x.off).toNat ST_CTR_OVERFLOW
          else s
        s.syncSettle)

/-- Whether a pair keeps 0 ≤ P − C ≤ N with value v of counter n (R213). -/
def State.pairKeeps (s : State) (n v : Nat) : Bool :=
  let a := s.attr .ctr n
  if atPair a then decide (s.ctr (atPartner a) ≤ v ∧ v ≤ s.ctr (atPartner a) + atN a)
  else if atConsumer a then decide (v ≤ s.ctr (atPartner a) ∧ s.ctr (atPartner a) ≤ v + atN (s.attr .ctr (atPartner a)))
  else true

/-- SYN_CTR_WRITE (R213). -/
def execSynCtrWrite (w : Wr) (s : State) : Out :=
  .next (match s.takeWr w (inSync (fun o => decide (o < 0x10_0000 ∧ o % 16 < 8))) with
    | (s, none) => s
    | (s, some x) =>
      let n := (x.off - 0x102_0000_0000) / 16
      let v := (x.merge (BitVec.ofNat 64 (s.ctr n))).toNat
      if s.hasWaits .ctr n then s.synRefuse SYN_WAITERS (objId .ctr n) x
      else if !s.pairKeeps n v then
        s.synRefuse COUNT_BOUND (objId .ctr n) x
      else ((s.setCtr n v).freeHeld n).syncSettle)

/-- The object of an attribute word. -/
def attrAt (o : Nat) : Option (ObjKind × Nat) :=
  if o % 16 < 8 then none
  else if o < 0x10_0000 then some (.ctr, o / 16)
  else if 0x200_0000 ≤ o ∧ o < 0x202_0000 then some (.lock, (o - 0x200_0000) / 16)
  else if 0x300_0000 ≤ o ∧ o < 0x301_0000 then some (.evt, (o - 0x300_0000) / 16)
  else none

/-- The refusals of R201. -/
def State.attrBad (s : State) (k : ObjKind) (n : Nat) (v : W64) : Bool :=
  decide (15 < atCtx v) || ((atRole v || atProducer v) && decide (143 < atTile v)) ||
  (if k = .ctr then
    atAuto v || atConsumer (s.attr .ctr n) ||
    (atPair v &&
      (let q := atPartner v
       let a := s.attr .ctr q
       q == n || s.hasWaits .ctr q || atPair a || (atConsumer a && atPartner a != n)))
   else atPair v || atRole v || atProducer v)

/-- Replace an attribute word and clear the object, with its pair (R200): `kept` waits, of which there are none on an
accepted write. -/
def State.writeAttr (s : State) (k : ObjKind) (n : Nat) (v : W64) : State :=
  let old := s.attr k n
  let v := v &&& attrMask
  let s := (s.setAttr k n v).clearObj k n
  if k ≠ .ctr then s
  else
    let s := if atPair old && (!atPair v || atPartner old != atPartner v) then
        let a := s.attr .ctr (atPartner old)
        s.setAttr .ctr (atPartner old) (a &&& 0xFFFF_BFFF_FFFF_FFFF)
      else s
    if atPair v then
      let q := atPartner v
      let a := s.attr .ctr q
      (s.setAttr .ctr q ((a &&& 0xFFFF_BFFF_0000_FFFF) ||| placeB true 46 ||| place n 16 16)).setCtr q 0
    else s

/-- SYN_ATTR_WRITE (R200, R201). -/
def execSynAttrWrite (w : Wr) (s : State) : Out :=
  .next (match s.takeWr w (inSync (fun o => (attrAt o).isSome)) with
    | (s, none) => s
    | (s, some x) =>
      match attrAt (x.off - 0x102_0000_0000) with
      | none => s
      | some (k, n) =>
        let v := x.merge (s.attr k n)
        if s.hasWaits k n then s.synRefuse SYN_WAITERS (objId k n) x
        else if s.attrBad k n v then s.synRefuse SYN_ATTR_BAD (objId k n) x
        else s.writeAttr k n v)

/-- SYN_PLAIN_WRITE (R217): locks and events, refused. -/
def execSynPlainWrite (w : Wr) (s : State) : Out :=
  .next (match s.takeWr w (inSync (fun o => decide (o % 16 < 8) &&
      (decide (0x200_0000 ≤ o ∧ o < 0x202_0000) || decide (0x300_0000 ≤ o ∧ o < 0x301_0000)))) with
    | (s, none) => s
    | (s, some x) =>
      let o := x.off - 0x102_0000_0000
      let obj := if o < 0x300_0000 then objId .lock ((o - 0x200_0000) / 16) else objId .evt ((o - 0x300_0000) / 16)
      s.synRefuse SYN_PLAIN_WRITE obj x)

/-- SYN_BAR_CFG_WRITE (R224): the other registers of a channel ignore writes. -/
def execSynBarCfgWrite (w : Wr) (s : State) : Out :=
  .next (match s.takeWr w (inSync (fun o => decide (0x400_0000 ≤ o ∧ o < 0x400_0800))) with
    | (s, none) => s
    | (s, some x) =>
      let o := x.off - 0x102_0400_0000
      let c := o / 64
      let ch := s.chanOf c
      if 8 ≤ o % 64 then s
      else
        let v := x.merge ch.cfg &&& 0x87FF_0000_0000_7FFF
        if ¬ ch.members.isEmpty ∨ 15 < fld v 48 8 ∨ fld v 8 7 = 0 ∨ 65 < fld v 8 7 ∨ 144 < fld v 0 8 then
          s.synRefuse SYN_ATTR_BAD (objId .chan c) x
        else ((s.setChan c { ch with cfg := v }).barCheck c).syncSettle)

/-- SYN_TIMEOUT_WRITE (R208). -/
def execSynTimeoutWrite (w : Wr) (s : State) : Out :=
  .next (match s.takeWr w (inCtrl (fun c => decide (c < 0x90_0000) && c % 0x1_0000 / 8 == 0x110 / 8)) with
    | (s, none) => s
    | (s, some x) =>
      let t := (x.off - 0x103_0000_0000) / 0x1_0000
      let v := fld (x.merge (BitVec.ofNat 64 (s.core t).timeout)) 0 32
      if v = 0 ∨ 60000000 < v then s.synTileRec t SYN_TIMEOUT_RANGE noUnit (x.who.waiter 0) (some x.ctx)
      else s.updCore t (fun c => { c with timeout := v }))

/-! Hand-sets (R227, R228). -/

/-- The state word of an object. -/
def State.objWord (s : State) (k : ObjKind) (n : Nat) : W64 :=
  match k with
  | .ctr => s.syncImage (n * 16)
  | .lock => s.syncImage (0x200_0000 + n * 16)
  | .evt => s.syncImage (0x300_0000 + n * 16)
  | .chan => s.syncImage (0x400_0008 + n * 64)

/-- The kind and number of an object-id, where it names an object. -/
def objOfId (v : W64) : Option (ObjKind × Nat) :=
  let k : Option ObjKind := match fld v 28 4 with
    | 1 => some .ctr | 2 => some .lock | 3 => some .evt | 4 => some .chan | _ => none
  match k with
  | none => none
  | some k => if fld v 16 12 = 0 ∧ fld v 0 16 < k.count then some (k, fld v 0 16) else none

/-- A write to SYN_HANDSET_CMD whose command is `cmd` acts on the object that SYN_HANDSET_OBJ names, where it is of a kind
that the command fits; otherwise it is recorded as SYN_HANDSET_BAD. -/
def State.handset (s : State) (w : Wr) (cmd : Nat) (fits : ObjKind → Bool) (act : State → ObjKind → Nat → State) : State :=
  let isCmd := fun o => o / 8 == 0x500_0010 / 8
  match s.takeWr w (inSync isCmd) with
  | (s', none) => s'
  | (s', some x) =>
    let c := fld (x.value &&& x.mask) 0 4
    let obj := s'.sync.handObj
    let bad := fun (s : State) => (s.odInc 0x2C00 5).report (s.mkRec 0x04 SYN_HANDSET_BAD 0 0 noUnit (BitVec.ofNat 32 obj.toNat)
      (x.who.waiter 0) 0 none (detByte 54 c))
    let known := decide (1 ≤ c ∧ c ≤ 7)
    if known && c != cmd then s
    else match objOfId obj with
      | none => bad s'
      | some (k, n) =>
        if !known || !fits k then bad s'
        else
          let before := s'.objWord k n
          let s1 := act s' k n
          ((s1.odInc 0x2C00 5).report (s1.mkRec 0x04 SYN_HAND_SET 0 0 noUnit (objId k n) (x.who.waiter 0) 0 none
            (detField 38 8 before.toNat ||| detField 46 8 (s1.objWord k n).toNat ||| detByte 54 c))).syncSettle

/-- HANDSET_CTR_SET. -/
def execHandsetCtrSet (w : Wr) (s : State) : Out :=
  .next (s.handset w 1 (fun k => k == .ctr) (fun s _ n => ((s.setCtr n s.sync.handVal.toNat).wakeReached n).freeHeld n))
/-- HANDSET_LOCK_FREE. -/
def execHandsetLockFree (w : Wr) (s : State) : Out :=
  .next (s.handset w 2 (fun k => k == .lock) (fun s _ n => s.passLock n FORCED false))
/-- HANDSET_EVT_SET. -/
def execHandsetEvtSet (w : Wr) (s : State) : Out :=
  .next (s.handset w 3 (fun k => k == .evt) (fun s _ n => s.signalEvt n FORCED))
/-- HANDSET_EVT_CLR. -/
def execHandsetEvtClr (w : Wr) (s : State) : Out :=
  .next (s.handset w 4 (fun k => k == .evt) (fun s _ n => s.setEvt n false))
/-- HANDSET_BAR_RELEASE. -/
def execHandsetBarRelease (w : Wr) (s : State) : Out :=
  .next (s.handset w 5 (fun k => k == .chan) (fun s _ n => (s.releaseRound n FORCED).barCheck n))
/-- HANDSET_WAKE. -/
def execHandsetWake (w : Wr) (s : State) : Out :=
  .next (s.handset w 6 (fun _ => true) (fun s k n => s.endWaits (fun x => x.on k n) FORCED))
/-- HANDSET_CLEAR. -/
def execHandsetClear (w : Wr) (s : State) : Out :=
  .next (s.handset w 7 (fun _ => true) (fun s k n => if k == .ctr then (s.clearObj k n).freeHeld n else s.clearObj k n))

end Sys2Proof.Machine
end

