-- ==== Sys2Proof/Machine/Ports.lean ====
section
/-! DEFINITION. The commands of the ports (R304–R318). -/

namespace Sys2Proof.Machine

/-- The link of an egress port. -/
def linkOfPort (n : Nat) : Option Nat := if 16 ≤ n ∧ n < 80 then some (n - 16) else if n = 89 then some hildLink else none

/-- Whether a packet is a request that its egress port regulates: responses, and the snoops of a home, pass without arbitration.
DESIGN CHOICE: log entry 66. -/
def regulated (l : Nat) (p : Pkt) : Bool :=
  if l = hildLink then p.type == TREAD || p.type == TWRITE || p.type == TWRITE_MASKED else !p.isResponse

/-- The master that a packet is charged to: its own, or that of the link on which it arrived (R306). -/
def QPkt.mid (q : QPkt) : Nat := match q.from_ with | some l => 0xA0 + l | none => q.pkt.mid

/-- The units of a packet's request (R307). DESIGN CHOICE: log entry 67. -/
def Pkt.units (p : Pkt) : Nat :=
  if p.type = TCTR_INC ∨ p.type = TBAR_ARRIVE ∨ p.type = TBAR_RELEASE then 1 else (p.lenM1 + 1 + 63) / 64

def QPkt.input (q : QPkt) : Nat := inputOf q.mid q.cls

/-- Change a packet of an egress queue. -/
def State.updOut (s : State) (l id : Nat) (f : QPkt → QPkt) : State :=
  s.updLink l (fun k => { k with out := k.out.map (fun q => if q.id == id then f q else q) })

/-- Whether a packet is the first of its input that its port has not admitted: none overtakes another of its input (R314). -/
def firstOf (out : List QPkt) (l : Nat) (q : QPkt) : Bool :=
  match out.find? (fun x => regulated l x.pkt && x.adm == 0 && x.input == q.input) with
  | some x => x.id == q.id
  | none => false

/-- REQUEST_ADMIT (R305–R308, R314): a request at the port of its home, the HBM read of a fill at its controller front, or a packet
at its egress port enters the input of its class and master, and is charged; or its master is masked.
DESIGN CHOICE: log entry 66. -/
def execRequestAdmit (port : Fin 90) (req : Nat) (s : State) : Out :=
  .next (
    let n := port.val
    match linkOfPort n with
    | some l =>
      match (s.link l).out.find? (fun q => q.id == req) with
      | none => s
      | some q =>
        if !regulated l q.pkt || q.adm ≠ 0 || !firstOf (s.link l).out l q then s
        else
          let (s, ok) := s.portEnter n q.mid q.cls q.pkt.units req
          if ok then s.updOut l req (fun q => { q with adm := 1 }) else s
    | none =>
      match s.findReq req with
      | none => s
      | some r =>
        if 8 ≤ n ∧ n < 16 then
          match (s.slice (n - 8)).misses.find? (fun m => !m.remote && m.reqs.head? == some req) with
          | none => s
          | some m =>
            if m.adm ≠ 0 then s
            else
              let (s, ok) := s.portEnter n r.who.mid r.cls (popCount 4 m.sectors) req
              if ok then s.updSlice (n - 8) (fun k => k.updMiss m.L false (fun m => { m with adm := 1 })) else s
        else if s.reqPort r ≠ some n || r.adm ≠ 0 || r.st != .sent || !s.noOlder r || !midIssued r.who.mid then s
        else
          let (s, ok) := s.portEnter n r.who.mid r.cls (reqUnits r) req
          if ok then s.updReq req (fun r => { r with adm := 1 }) else s)

/-- What a grant means for the request: its home has it, its HBM read is issued, or its packet may leave. -/
def State.grantTo (s : State) (n : Nat) (r : PReq) : State :=
  match linkOfPort n with
  | some l => s.updOut l r.req (fun q => { q with adm := 2 })
  | none =>
    if 8 ≤ n ∧ n < 16 then
      match (s.slice (n - 8)).misses.find? (fun m => !m.remote && m.reqs.head? == some r.req) with
      | none => s
      | some m => s.updSlice (n - 8) (fun k => k.updMiss m.L false (fun m => { m with adm := 2 }))
    else (s.updReq r.req (fun x => if x.st == .parked then { x with st := .sent } else x)).accept r.req

/-- ARBITER_GRANT (R312–R316): the highest eligible input is granted, and a transfer opens. DESIGN CHOICE: log entry 66. -/
def execArbiterGrant (port : Fin 90) (s : State) : Out :=
  .next (
    let p := s.port port.val
    match p.transfer, p.winner (s.preqHeld port.val) with
    | none, some i =>
      (match p.head i with
        | none => s
        | some r =>
          let p := (p.popHead i).granted i (min (s.bedLosc - r.at_) (2 ^ 32 - 1))
          (s.setPort port.val { p with transfer := some (i, r) }).grantTo port.val r)
    | _, _ => s)

/-- TRANSFER_END. DESIGN CHOICE: log entry 66. -/
def execTransferEnd (port : Fin 90) (s : State) : Out := .next (s.updPort port.val (fun p => { p with transfer := none }))

/-- Whether the resource that a returned request lacked is free: a miss register or a place in the waiter list at a slice
port (R247), credits for the packet's slots at an egress port. -/
def State.lacksNothing (s : State) (n : Nat) (r : PReq) : Bool :=
  match linkOfPort n with
  | some l => match (s.link l).out.find? (fun q => q.id == r.req) with
    | some q => decide (q.pkt.slots ≤ (s.link l).free q.pkt.vc)
    | none => true
  | none => match s.findReq r.req with
    | none => true
    | some x =>
      let (L, remote) := s.lineKey x.addr
      match (s.slice n).findMiss L remote with
      | some m => x.streamRead || decide (s.waitersOf m < 16)
      | none => decide ((s.slice n).misses.length < 512)

/-- TARGET_RESOURCE_FREE (R314): the target signals that the resource is free. -/
def execTargetResourceFree (port : Fin 90) (input : Fin 16) (s : State) : Out :=
  .next (match SMap.find (s.port port.val).ret input.val with
    | some r =>
      if s.lacksNothing port.val r then
        s.updPort port.val (fun p => { p with ret := SMap.put p.ret input.val { r with ready := true } })
      else s
    | none => s)

/-- A window starts (R309): budgets and quotas as written so far take effect, debts carry over. -/
def Port.window (p : Port) : Port :=
  let debts := p.remain.filterMap (fun e =>
    let b := p.budgetOf e.1
    if e.2 < 0 ∧ b ≠ unlimited then some (e.1, (b : Int) + e.2) else none)
  { p with windows := (p.windows + 1) % 2 ^ 32, inForce := p.budget, remain := debts, masked := [],
           left := (List.range 4).map (fun k => (12 + k, fld p.quota (16 * k) 16)) }

/-- A window starts with no debt (R309, R317). -/
def Port.freshWindow (p : Port) : Port := { Port.window { p with remain := [] } with windows := 0, stuck := false, longest := [] }

/-- REGULATOR_WINDOW_START. -/
def execRegulatorWindowStart (port : Fin 90) (s : State) : Out := .next (s.updPort port.val Port.window)

end Sys2Proof.Machine
end

