-- ==== Sys2Proof/Machine/HildCore.lean ====
section
/-! DEFINITION. The loss of the Hild link, the event log and interrupts (R354–R358). -/

namespace Sys2Proof.Machine

/-! Interrupts (R358). -/

/-- Write words of the device to the Hild window with the active management core's rights; the number of the request. -/
def State.mgtWrite (s : State) (a : Nat) (bs : List Byte) : State × Option Nat :=
  s.access (newReq (.mgt s.rel.active) 0 .store (s.globalOf (addrOffset a)).toNat bs.length (clean bs) 0) .W

/-- Write the interrupt word of a record (R358). -/
def State.irqWord (s : State) (sev cls code : Nat) : State :=
  let v := place (s.ctr (s.odNat 0x2900 0x12)) 32 32 ||| place sev 16 8 ||| place cls 8 8 ||| place code 0 8
  let s := { s with hild := { s.hild with irqHold := s.odNat 0x2900 0x18 != 0, irqNext := none } }
  (s.mgtWrite (s.odNat 0x2900 0x17) (leBytes 8 v.toNat)).1

/-- Whether a record raises an interrupt word, where there is an address for it (R358). -/
def State.raises (s : State) (sev cls code : Nat) : Bool := decide (s.odNat 0x2900 0x16 ≤ sev) || (cls == 0x01 && code == 0x04)

/-- A qualifying record. -/
def State.interrupt (s : State) (sev cls code : Nat) : State :=
  if s.odGet 0x2900 0x17 = 0 ∨ s.raises sev cls code = false then s
  else if s.hild.irqHold then { s with hild := { s.hild with irqNext := some (sev, cls, code) } }
  else s.irqWord sev cls code

/-- INTERRUPT_HOLDOFF (R358): the latest record that qualified during it raises its word, where there is an address for it. -/
def execInterruptHoldoff (s : State) : Out :=
  .next (
    if !s.hild.irqHold then s
    else match (if s.odGet 0x2900 0x17 = 0 then none else s.hild.irqNext) with
      | some (sev, cls, code) => s.irqWord sev cls code
      | none => { s with hild := { s.hild with irqHold := false, irqNext := none } })

/-- A record is lost to the event log (R357). Every ECC_CE_OVERFLOW raises its interrupt word all the same (R358). -/
def State.recordLost (s : State) (sev cls code : Nat) : State :=
  let s := s.odInc 0x2900 0x15
  if cls == 0x01 && code == 0x04 then s.interrupt sev cls code else s

/-- A Hild write of the event log has ended without its WRITE_ACK (R356). -/
def State.logLost (s : State) (id : Nat) : State :=
  match s.hild.log.find? (fun l => l.req == id) with
  | some l => ({ s with hild := { s.hild with log := s.hild.log.filter (fun l => l.req != id) } } : State).recordLost l.sev l.cls l.code
  | none => s

/-- A line that the companion held in E is written poisoned. -/
def State.poisonLine (s : State) (L : Nat) : State :=
  let n := sliceOf L
  let s := s.updSlice n (fun k => k.dropLine L false)
  let s := s.unfilter n L
  let m := (List.range 32).foldl (fun (m : EccMem) i => m.putWord (L * 32 + i) (m.wordAt (L * 32 + i)) true) s.mem.hbm
  let s := ({ s with mem := { s.mem with hbm := m } } : State).updStack n (fun k => k.rewritten (fun w => w / 32 == L))
  s.report (s.mkRec 0x0A HLD_COPY_LOST 1 0 noUnit noUnit noUnit (s.globalOf (L * 256)) none 0)

/-- A link that starts over: nothing sent is outstanding, and no part of a packet is held. -/
def Link.restart (l : Link) : Link :=
  { l with unacked := [], resends := [], txOld := 0, txLast := 0, rxNext := 0, nak := false, ackDue := false, partial_ := [],
           freed := [], ctlSent := [], cred := [], pool := 0, txPart := [], frames := [], ctlGap := 4 }

/-- A link takes another state: it starts over, and its queue leaves it. Leaving UP for another state than DISABLED counts. -/
def Link.leave (l : Link) (st : Nat) : Link :=
  { l.restart with state := st, out := [], downs := if l.state = 4 ∧ st ≠ 0 then (l.downs + 1) % 2 ^ 32 else l.downs }

/-- Slots of an ingress buffer, and virtual channels of a link. -/
def linkSlots (l : Nat) : Nat := if l = hildLink then 8192 else 2048
def linkVcs (l : Nat) : Nat := if l = hildLink then 4 else 12

/-- The urgency wire follows the fill level of the ingress buffer (R311). -/
def State.tideLink (s : State) (l : Nat) : State :=
  s.updLink l (fun k =>
    let used := (k.ingress.foldl (fun a p => a + p.slots) 0) + k.partial_.length
    { k with urgent := s.tide k.urgent (used * 32) (linkSlots l * 32) })

/-- What the port of a link's egress still held goes with the packets that leave its queue. -/
def State.emptyPort (s : State) (l : Nat) : State :=
  s.updPort (egressPort l) (fun p => { p with queues := [], ret := [], transfer := none })

/-- What becomes of the accesses in flight when the Hild link leaves UP (R354, R356). -/
def State.hildLeave (s : State) : State :=
  let es := s.hild.dir.filter (fun e => e.2.excl)
  let s := { s with hild := { s.hild with dir := [], snoops := [] } }
  let s := es.foldl (fun s e => s.poisonLine e.1) s
  let out := s.reqs.filter (fun r => s.toHild r && (r.st == .out || r.st == .sent))
  out.foldl (fun s r => (s.failOut r 0x0A HLD_LINK_LOST 1).logLost r.id) s

/-- The Hild link goes DOWN (R354); where it was not UP, nothing was outstanding on it. DEDUCED: log entry 70. -/
def State.hildFail (s : State) : State :=
  let l := s.link hildLink
  let s := ((s.setLink hildLink { l.leave 1 with retrainDue := true }).tideLink hildLink).emptyPort hildLink
  if l.state = 4 then s.hildLeave.report (s.mkRec 0x0A HLD_LINK_DOWN 2 0 noUnit noUnit noUnit 0 none 0) else s

/-! Event log (R357). -/

/-- Write a record to the event log (R357), at the slot of its number: lost where there is no log, the ring is full, or the link is
not UP. DEDUCED: log entry 79. -/
def State.logRecord (s : State) (r : Rec) (seq : Nat) : State :=
  let base := s.odNat 0x2900 0x10
  let e := s.odNat 0x2900 0x11
  let prod := s.ctr (s.odNat 0x2900 0x12)
  let cons := s.ctr (s.odNat 0x2900 0x13)
  if base = 0 ∨ !s.hildUp ∨ e + cons ≤ prod + s.hild.log.length then s.recordLost r.sev r.cls r.code
  else match s.mgtWrite (base + seq % e * 64) (r.bytes seq) with
    | (s, some id) =>
      { s with hild := { s.hild with log := s.hild.log ++ [{ req := id, sev := r.sev, cls := r.cls, code := r.code }] } }
    | (s, none) => s.recordLost r.sev r.cls r.code

end Sys2Proof.Machine
end

