-- ==== Sys2Proof/Machine/Ready.lean ====
section
/-! DEFINITION. Measurement (R493), the topology check and the readiness decision (R448–R453), the in-service retirement list
(R447). -/

namespace Sys2Proof.Machine

/-! Measurement. -/

/-- One byte. -/
def byteOf (n : Nat) : Byte := BitVec.ofNat 8 n

/-- SHAKE256 with 64-byte output. -/
def hash64 (x : List Byte) : List Byte := takeAt (Config.shake256 x 64) 0 64

/-- An item of a kind is measured. The log holds the first eight entries. DEDUCED: log entry 131. -/
def State.measure (s : State) (kind : Nat) (x : List Byte) : State :=
  let h := hash64 x
  { s with sec := { s.sec with chain := hash64 (s.sec.chain ++ [byteOf kind] ++ h), log := (s.sec.log ++ [(kind, h)]).take 8 } }

/-- Whether an item of a kind has been measured since cold reset. DEDUCED: log entry 131. -/
def State.measured (s : State) (kind : Nat) : Bool := s.sec.log.any (fun e => e.1 == kind)

/-! The in-service retirement list. -/

/-- The bytes of a DOMAIN entry that the dictionary holds itself, to its size. -/
def State.blobOf (s : State) (idx sub size : Nat) : List Byte := takeAt ((SMap.find s.od.blob (odKey idx sub)).getD []) 0 size

def State.setBlob (s : State) (idx sub : Nat) (bs : List Byte) : State :=
  { s with od := { s.od with blob := SMap.put s.od.blob (odKey idx sub) bs } }

/-- Whether the list names a tile. -/
def State.listed (s : State) (t : Nat) : Bool := (s.odByte 0x2300 3 (t / 8)).toNat.testBit (t % 8)

/-- A tile is appended to the list. -/
def State.listTile (s : State) (t : Nat) : State :=
  let bs := s.blobOf 0x2300 3 18
  s.setBlob 0x2300 3 (bs.set (t / 8) (bs.getD (t / 8) 0 ||| BitVec.ofNat 8 (2 ^ (t % 8))))

/-! Topology (R449–R451). -/

/-- Byte i of a link's entry in the expected topology. -/
def State.topoByte (s : State) (l i : Nat) : Nat := (s.odByte 0x2203 0 (32 * l + i)).toNat

def State.topoExpected (s : State) (l : Nat) : Bool := s.topoByte l 0 % 2 == 1

/-- Whether a partner is the one of the link's entry. The Hild partner has neither link number nor device id. -/
def State.topoPartner (s : State) (l dev link : Nat) (serial : List Byte) : Bool :=
  (l == 64 || (dev == (s.topoByte l 2 + 256 * s.topoByte l 3) % 4096 && link == s.topoByte l 1)) &&
  (s.topoByte l 0 / 2 % 2 == 0 || serial == (List.range 16).map (fun i => s.odByte 0x2203 0 (32 * l + 4 + i)))

/-- The classes of R450. -/
inductive Topo where
  | good | absent | wrong | unexpected
  deriving DecidableEq, Repr

/-- The class of a link. A link that is not UP and for which no partner is expected holds. -/
def State.topoClass (s : State) (l : Nat) : Topo :=
  let k := s.link l
  match s.topoExpected l, k.state == 4 with
  | true, true => if s.topoPartner l k.partnerDev k.partnerLink k.serial then .good else .wrong
  | true, false => .absent
  | false, true => .unexpected
  | false, false => .good

/-- The topology holds when every link is a match. DEDUCED: log entry 113. -/
def State.topoHolds (s : State) : Bool := (List.range 65).all (fun l => s.topoClass l == .good)

/-! The decision (R448, R451–R453). -/

/-- The losses of R448, as bits 3:0 of the readiness cause. DEDUCED: log entry 114. -/
def State.losses (s : State) : Nat :=
  (if s.activeTiles.length < 128 then 1 else 0) +
  (if (List.range 8).any (fun n => (s.stack n).good && (s.stack n).fenced != 0) then 2 else 0) +
  (if s.goodStacks ≠ 0xFF then 4 else 0) + (if 0 < s.halfBundles then 8 else 0)

/-- Whether a floor of R448 fails. DESIGN CHOICE: log entry 115. -/
def State.belowFloor (s : State) : Bool :=
  decide (s.activeTiles.length < 120) || decide (popCount 8 s.goodStacks < 7) || s.bup.bdrBad || s.rel.dead

/-- Whether an entry admits a fabric ingress master. -/
def ActEntry.ingress (e : ActEntry) : Bool := decide (e.midLo ≤ 0xDF ∧ 0xA0 ≤ e.midHi)

/-- The entries that stage 0 loaded invalid take VALID (R453 step 1). -/
def State.validIngress (s : State) : State :=
  s.bup.flashAct.foldl (fun s f =>
    (f.2.filter (fun e => e.2.valid && e.2.ingress)).foldl (fun s e =>
      s.updTable f.1 (fun t => { t with entries := t.entries.map (fun x =>
        if x.1 = e.1 then (x.1, { x.2 with ctrl := x.2.ctrl ||| 0x8000_0000_0000_0000 }) else x) })) s) s

/-- Entries 0–63 of every access table, as laid out. -/
def State.firmwareEntries (s : State) : List Byte :=
  (List.range 20).flatMap (fun t => (List.range 256).flatMap (fun w => leBytes 8 ((s.table t).reg (8 * w)).toNat))

/-- Entry into READY or READY_DEGRADED: ingress entries valid and locks set, once per cold reset; the device scheduler
released. -/
def State.admitWork (s : State) : State :=
  let s := if s.measured 4 then s
    else
      let s := s.validIngress
      let s := (List.range 20).foldl (fun s t => s.updTable t (fun x => { x with lock := true })) s
      let s := (List.range 90).foldl (fun s n => s.updPort n (fun p => { p with lock := true })) s
      s.measure 4 s.firmwareEntries
  { s with sched := { s.sched with running := !s.rel.fatal } }

def State.setReady (s : State) (st cause : Nat) : State := { s with bup := { s.bup with state := st, cause := cause } }

/-- The readiness decision. A device whose bring-up stopped stays REFUSED. How the record of a floor names it is left open.
DEDUCED: log entry 114. DESIGN CHOICE: log entry 115. -/
def State.decideReady (s : State) : State :=
  if !s.bup.stagesOver.isEmpty || s.bup.bdrBad then
    s.setReady 4 ((if s.bup.stagesOver.isEmpty then 0 else 0x80) + (if s.bup.bdrBad then 0x100 else 0))
  else if s.belowFloor then
    let (d, s) := s.fresh
    (s.setReady 4 (0x40 + s.losses)).report (s.mkRec 0x0F 0x04 4 0 noUnit noUnit noUnit 0 none (d.setWidth 208))
  else if s.bup.flashMiss || (s.bup.topoBad && s.odGet 0x2200 3 == 0) then
    s.setReady 3 ((if s.bup.flashMiss then 0x20 else 0) + (if s.bup.topoBad then 0x200 else 0) + s.losses)
  else
    (s.setReady (if s.losses = 0 ∧ !s.bup.topoBad then 1 else 2) (s.losses + if s.bup.topoBad then 0x10 else 0)).admitWork

/-- The device decides again while it is NOT_READY for topology alone (R451). DEDUCED: log entry 114. -/
def State.redecide (s : State) : State :=
  if s.bup.state = 3 ∧ !s.bup.flashMiss then
    let t := s.topoHolds
    ({ s with bup := { s.bup with topoBad := !t } }).decideReady
  else s

end Sys2Proof.Machine
end

