-- ==== Sys2Proof/Machine/FabLink.lean ====
section
/-! DEFINITION. Links: frames, credits, packets, training, identity, loss of a link, route changes (R319–R327, R337–R342,
R346, R347). -/

namespace Sys2Proof.Machine

/-! Slots and frames (R321, R324, R328). -/

/-- One step of the CRC over a bit: remainder and data bit, least significant bit first. The polynomial is x^20 + 0x8359C. -/
def crcBit (c : Nat) (b : Bool) : Nat :=
  let top := c.testBit 19
  let c := (c * 2) % 2 ^ 20
  if top == b then c else c ^^^ 0x8359C

/-- The CRC of a frame's bytes (R321). DESIGN CHOICE: log entry 75. -/
def crc20 (bs : List Byte) : Nat :=
  bs.foldl (fun c b => (List.range 8).foldl (fun c i => crcBit c (b.getLsbD i)) c) 0xFFFFF

/-- The slots of a frame. -/
def slotsOf : Nat → List Byte → List (List Byte)
  | 0, _ => []
  | n + 1, bs => bs.take 32 :: slotsOf n (bs.drop 32)

def slotType (sl : List Byte) : Nat := fld (word64At sl 0) 54 6
/-- Payload slots that follow a header. -/
def slotCount (sl : List Byte) : Nat := fld (word64At sl 0) 45 4

/-- The payload bytes that a type carries: a mask and a line, its length, or none; of a WRITEBACK or SNOOP_RESP, as sent. -/
def payloadOf (type len slots : Nat) : Nat :=
  if type = TWRITE_MASKED then 288
  else if type = TWRITE ∨ type = TADD ∨ type = TMINMAX then len
  else if type = TREAD_DATA then (if slots = 0 then 0 else len)
  else if (type = TWRITEBACK ∨ type = THILD_SNOOP_RESP) ∧ slots ≠ 0 then 288
  else 0

/-- A packet from its slots (R328). -/
def Pkt.ofSlots (sls : List (List Byte)) : Pkt :=
  let h := sls.headD []
  let w := word64At h 0
  let x := word64At h 8
  let y := word64At h 24
  let raw := (sls.drop 1).flatten
  let type := fld w 54 6
  let len := fld x 0 8 + 1
  let need := payloadOf type len (sls.length - 1)
  let fits := decide ((need + 31) / 32 = sls.length - 1)
  let masked := need == 288
  let body := if !fits then raw else if masked then (raw.drop 32).take 256 else raw.take need
  { type := type, hop := fld w 51 3, cls := fld w 49 2, dst := fld w 28 12, src := fld w 16 12, mid := fld w 6 10,
    tag := fld x 48 16, ctx := fld x 40 8, fmt := fld x 36 4, epochV := bitOf x 32, epoch := fld x 16 16, status := fld x 8 8,
    lenM1 := fld x 0 8, addr := (word64At h 16).toNat, poison := fld y 32 32, operand := fld y 0 32,
    mask := if masked && fits then leNat (raw.take 32) else 0, data := body, fits := fits }

/-- The header of a packet on a link of a version (R328); reserved bits are zero. -/
def Pkt.header (p : Pkt) (version : Nat) : List Byte :=
  let w := place version 60 4 ||| place p.type 54 6 ||| place p.hop 51 3 ||| place p.cls 49 2 ||| place p.paySlots 45 4 |||
    place p.dst 28 12 ||| place p.src 16 12 ||| place p.mid 6 10
  let x := place p.tag 48 16 ||| place p.ctx 40 8 ||| place p.fmt 36 4 ||| placeB p.epochV 32 ||| place p.epoch 16 16 |||
    place p.status 8 8 ||| place p.lenM1 0 8
  let y := place p.poison 32 32 ||| place p.operand 0 32
  [w, x, BitVec.ofNat 64 p.addr, y].flatMap (fun v => leBytes 8 v.toNat)

/-- The slots of a packet as they are sent (R324, R328): the header, then the payload, filled up with zeros. -/
def Pkt.toSlots (p : Pkt) (version : Nat) : List (List Byte) :=
  let body := (if p.masked then leBytes 32 p.mask else []) ++ p.data
  p.header version :: slotsOf p.paySlots (body ++ List.replicate (32 * p.paySlots - body.length) 0)

/-- The virtual channel of a packet that arrives on a link (R323, R347). -/
def vcIn (l : Nat) (p : Pkt) : Nat :=
  if l ≠ hildLink then p.vc
  else if p.type = TREAD_DATA ∨ p.type = TSTATUS ∨ p.type = TWRITE_ACK ∨ p.type = THILD_SNOOP_RESP then 2 else 0

/-- The virtual channel of a packet that leaves on a link. -/
def vcOut (l : Nat) (p : Pkt) : Nat :=
  if l ≠ hildLink then p.vc
  else if p.isResponse then 2
  else if p.type = 0x23 ∨ p.type = 0x24 then 3 else 1

/-- Take the oldest packet of a virtual channel from an ingress buffer, its slots freed. -/
def State.takeIn (s : State) (l : Nat) (p : Pkt) : State :=
  let v := vcIn l p
  (s.updLink l (fun k => { k with ingress := k.ingress.erase p, freed := SMap.put k.freed v (SMap.get 0 k.freed v + p.slots) })).tideLink l

/-- The oldest packet of a channel. -/
def State.headIn (s : State) (l v : Nat) : Option Pkt := (s.link l).ingress.find? (fun p => vcIn l p == v)

/-! Returns of status (R334, R338, R344). -/

/-- A STATUS about a request of this device, or a response with a failing one (R334). -/
def State.statusReturn (s : State) (p : Pkt) (status : Nat) (count : Bool) : State :=
  let s := (s.odInc 0x2800 8).report
    (s.mkRec 0x09 status 0 0 noUnit noUnit (BitVec.ofNat 32 p.mid) (BitVec.ofNat 64 p.addr) (some p.ctx) 0)
  let off := addrOffset p.addr
  let s := if count && decide (p.ctx < 16) && s.odNat 0x2801 p.ctx != 0xFFFF then s.incOwn (s.odNat 0x2801 p.ctx) 1 else s
  if p.mid = 0x098 ∧ chanBase 0 ≤ off ∧ off < chanBase 32 ∧ off % 0x40 = 0 then s.barLost ((off - chanBase 0) / 0x40) else s

/-- The failure of a request that is not performed: a STATUS packet to its source, or its local handling.
DEDUCED: log entry 70. -/
def State.failPkt (s : State) (p : Pkt) (status : Nat) : State :=
  if p.isResponse then s
  else if p.src = s.ownId then s.statusReturn p status true
  else s.respond (p.answer TSTATUS status [])

/-! Losing a link (R341). -/

/-- A read tag is given back. -/
def State.dropTag (s : State) (tag : Nat) : State :=
  { s with fab := { s.fab with tags := s.fab.tags.filter (fun g => g.tag != tag) } }

/-- A remote read ends without data: its unit is refused. -/
def State.failQuiet (s : State) (r : Req) (status : Nat) : State :=
  if r.kind == .prefetch then s.hoistDeny r
  else
    let s := s.updReq r.id (fun x => { x with st := .failed status })
    match r.who.tile with | some t => s.abortTask t codeTaskFault | none => s

/-- The reads that a tag stands for fail with a status. -/
def State.failTag (s : State) (g : RTag) (status : Nat) : State :=
  let s := match g.req.bind s.findReq with | some r => s.failQuiet r status | none => s
  match g.line with
  | none => s
  | some (n, L) =>
    match (s.slice n).findMiss L true with
    | none => s
    | some m =>
      let s := s.updSlice n (fun k => { k with misses := k.misses.filter (fun x => !(x.L == L && x.remote)) })
      (m.reqs.filterMap s.findReq).foldl (fun s r => s.failQuiet r status) s

/-- A packet in the router finds no route (R338, R344): in transit it is discarded into the Spoil log and a request answered by
STATUS; a request of this device is refused to its unit, a READ giving back its tag; a barrier message is lost. -/
def State.noRoute (s : State) (q : QPkt) : State :=
  let p := q.pkt
  if q.from_.isSome ∨ p.isResponse then (s.fabSpoil YF_NO_ROUTE p q.from_).failPkt p YF_NO_ROUTE
  else if p.mid = 0x098 then s.barLost ((addrOffset p.addr - chanBase 0) / 0x40)
  else
    let s := s.refuseAs 0x09 YF_NO_ROUTE 0 (whoOfMid p.mid) p.ctx p.addr
    match (if p.type = TREAD then s.fab.tags.find? (fun g => g.tag == p.tag) else none) with
    | some g => (s.dropTag g.tag).failTag g YF_NO_ROUTE
    | none => s

/-- The packets that wait for a link choose again (R341 step 3). -/
def State.rechoose (s : State) (qs : List QPkt) : State :=
  (qs.foldl (fun s q =>
    let (s', ok) := s.egress q.pkt q.from_
    if ok then s' else s.noRoute q) s).tagFreed

/-- A link leaves UP, or stops being trained, for a state: what was not acknowledged is lost, what waits chooses again. -/
def State.linkLeave (s : State) (l st : Nat) : State :=
  let k := s.link l
  let up := s.upMask
  let s := ((s.setLink l (k.leave st)).tideLink l).emptyPort l
  let s := if k.state = 4 then s.linkRoutes l up else s
  let s := k.unacked.foldl (fun s e => s.failPkt e.2 YF_LINK_LOST) s
  s.rechoose k.out

/-- A Yonus link goes DOWN (R341). -/
def State.yonusFail (s : State) (l : Nat) : State :=
  ((s.report (s.mkRec 0x08 0x01 2 0 (BitVec.ofNat 32 l) noUnit noUnit 0 none 0)).linkLeave l 1).updLink l
    (fun k => { k with retrainDue := true })

/-- A link fails (R341, R354). DEDUCED: log entry 70. -/
def State.linkFail (s : State) (l : Nat) : State := if l = hildLink then s.hildFail else s.yonusFail l

/-- Whether a link may lose its lock or its partner: it is trained or being trained (R325, R341). -/
def Link.live (k : Link) : Bool := k.state == 2 || k.state == 3 || k.state == 4

/-- LINK_DOWN (R341): causes 0 retry limit, 1 lock lost, 2 partner idle. DEDUCED: log entry 70. -/
def execLinkDown (link : Fin 64) (cause : Fin 3) (s : State) : Out :=
  .next (
    let k := s.link link.val
    let excess := k.state == 4 && k.resends.any (fun e => decide (s.odNat 0x2800 2 < e.2))
    if !k.live || (cause.val == 0 && !excess) then s else s.yonusFail link.val)

/-- Whether a link may transmit: the plug of a cage link is seated (R511, R513). DEDUCED: log entry 72. -/
def State.seated (s : State) (l : Nat) : Bool := decide (l < 28) || l == hildLink || s.pins.cages.testBit ((l - 28) / 4)

/-- RETRAIN_HOLDOFF (R341). DEDUCED: log entry 71. -/
def execRetrainHoldoff (link : Fin 65) (s : State) : Out :=
  .next (
    let k := s.link link.val
    if k.state ≠ 1 ∨ ¬ k.retrainDue ∨ ¬ k.enable ∨ ¬ s.seated link.val then s
    else s.setLink link.val { k with state := 2, full := true, retrainDue := false })

/-! Frames (R322). -/

/-- Frames sent and not acknowledged. -/
def Link.window (k : Link) : Nat := (k.txLast + 4096 - k.txOld) % 4096

/-- An acknowledgement of every frame before one. -/
def Link.ack (k : Link) (n : Nat) : Link :=
  let d := (n + 4096 - k.txOld) % 4096
  if k.window < d then k
  else
    let old := fun f => decide ((f + 4096 - k.txOld) % 4096 < d)
    { k with unacked := k.unacked.filter (fun e => !old e.1), resends := k.resends.filter (fun e => !old e.1),
             frames := k.frames.filter (fun f => !old f.num), txOld := n }

/-- Every outstanding frame is sent again. -/
def Link.resend (k : Link) : Link :=
  let fs := (List.range k.window).map (fun i => (k.txOld + i) % 4096)
  { k with resends := fs.foldl (fun m f => SMap.put m f (SMap.get 0 m f + 1)) k.resends, replays := (k.replays + fs.length) % 2 ^ 32 }

/-- Credits returned on a channel: the reserved ones first (R323). -/
def Link.refill (k : Link) (v n : Nat) : Link :=
  let r := min k.res (k.resLeft v + n)
  { k with cred := SMap.put k.cred v r, pool := k.pool + (k.resLeft v + n - r) }

/-- A link control slot (R324). -/
def State.linkControl (s : State) (l : Nat) (sl : List Byte) : State :=
  let w := word64At sl 0
  let k := (s.link l).ack (fld w 36 12)
  let k := (List.range (linkVcs l)).foldl (fun k v => k.refill v (leNat (takeAt sl (8 + 2 * v) 2))) k
  s.setLink l (if bitOf w 35 then k.resend else k)

/-- One slot of a good frame. -/
def State.slotIn (s : State) (l : Nat) (sl : List Byte) : State :=
  let k := s.link l
  match k.partial_ with
  | [] =>
    if sl.all (fun b => b == 0) then s
    else if slotType sl = 0x3F then s.linkControl l sl
    else if slotCount sl = 0 then
      s.setLink l { k with rx := (k.rx + 32) % 2 ^ 64, ingress := k.ingress ++ [Pkt.ofSlots [sl]] }
    else s.setLink l { k with rx := (k.rx + 32) % 2 ^ 64, partial_ := [sl] }
  | h :: rest =>
    let all := h :: rest ++ [sl]
    let k := { k with rx := (k.rx + 32) % 2 ^ 64 }
    if all.length = 1 + slotCount h then s.setLink l { k with partial_ := [], ingress := k.ingress ++ [Pkt.ofSlots all] }
    else s.setLink l { k with partial_ := all }

/-- The retry limit (R322, R341). -/
def State.retryCheck (s : State) (l : Nat) : State :=
  if (s.link l).resends.any (fun e => decide (s.odNat 0x2800 2 < e.2)) then s.linkFail l else s

/-- FRAME_RECEIVE: a codeword corrects up to 15 symbols (R319). DESIGN CHOICE: log entry 75. -/
def execFrameReceive (link : Fin 65) (seq : BitVec 12) (corrected : Fin 16) (uncorrectable : Bool) (slots : List Byte) (crc : BitVec 20)
    (s : State) : Out :=
  if slots.length ≠ 640 then .fault .illFormed
  else .next (
    let l := link.val
    let k := s.link l
    if k.state ≠ 4 then s
    else
      let k := { k with fec := (k.fec + (if uncorrectable then 0 else corrected.val)) % 2 ^ 32 }
      if uncorrectable || crc20 slots != crc.toNat then s.setLink l { k with bad := (k.bad + 1) % 2 ^ 32, nak := true }
      else if seq.toNat ≠ k.rxNext then s.setLink l { k with bad := (k.bad + 1) % 2 ^ 32 }
      else
        let s := s.setLink l { k with rxNext := (k.rxNext + 1) % 4096, ackDue := true, nak := false }
        (((slotsOf 20 slots).foldl (fun s sl => s.slotIn l sl) s).tideLink l).retryCheck l)

/-- REPLAY_TIMEOUT. -/
def execReplayTimeout (link : Fin 65) (s : State) : Out :=
  .next (
    let k := s.link link.val
    if k.state ≠ 4 ∨ k.window = 0 then s else (s.setLink link.val k.resend).retryCheck link.val)

/-! Sending (R321–R324). -/

/-- A slot that carries nothing. -/
def idleSlot : List Byte := List.replicate 32 0

/-- A slot is sent: the twentieth ends its frame, which is kept with its CRC until it is acknowledged. -/
def Link.pushSlot (k : Link) (sl : List Byte) : Link :=
  let part := k.txPart ++ [sl]
  if part.length < 20 then { k with txPart := part }
  else
    { k with txPart := [], frames := k.frames ++ [{ num := k.txLast, bytes := part.flatten, crc := crc20 part.flatten }],
             txLast := (k.txLast + 1) % 4096, ctlGap := min 4 (k.ctlGap + 1) }

def Link.pushSlots (k : Link) (sls : List (List Byte)) : Link := sls.foldl Link.pushSlot k

/-- Whether some slots may be sent: no more than 128 frames wait for their acknowledgement (R322). -/
def Link.room (k : Link) (n : Nat) : Bool := decide (k.window + (k.txPart.length + n) / 20 ≤ 128)

/-- The frame that carries the slot sent last. -/
def Link.lastFrame (k : Link) : Nat := if k.txPart.isEmpty then (k.txLast + 4095) % 4096 else k.txLast

/-- The link control slot that a link sends now. -/
def Link.control (l : Nat) (k : Link) : Link :=
  let w0 := place 0x3F 54 6 ||| place k.rxNext 36 12 ||| placeB k.nak 35
  let ws : List W64 := w0 :: (List.range 3).map (fun i => BitVec.ofNat 64 ((List.range 4).foldl (fun a j =>
    a + (if 4 * i + j < linkVcs l then SMap.get 0 k.freed (4 * i + j) % 65536 else 0) * 2 ^ (16 * j)) 0))
  ({ k with ctlSent := ws, freed := [], nak := false, ackDue := false, ctlGap := 0 } : Link).pushSlot (ws.flatMap (fun w => leBytes 8 w.toNat))

/-- Credits taken for a packet: the channel's reserved ones first. -/
def Link.take (k : Link) (v n : Nat) : Link :=
  let r := min (k.resLeft v) n
  { k with cred := SMap.put k.cred v (k.resLeft v - r), pool := k.pool - (n - r) }

/-- The packet that a channel sends next: one that its port has granted, or the first that the port would grant at once; responses
and snoops pass without arbitration. DESIGN CHOICE: log entry 66. -/
def State.nextOut (s : State) (l vc : Nat) : Option QPkt :=
  let out := (s.link l).out
  let qs := out.filter (fun q => vcOut l q.pkt == vc)
  match qs.find? (fun q => q.adm == 2) with
  | some q => some q
  | none => qs.find? (fun q => q.adm == 0 &&
      (!regulated l q.pkt || (firstOf out l q && (s.port (egressPort l)).free (s.preqHeld (egressPort l)) q.mid q.input)))

/-- A packet passes its egress port in this step, where it has not been granted there before. -/
def State.leaves (s : State) (l : Nat) (q : QPkt) : State × Bool :=
  if q.adm = 2 ∨ regulated l q.pkt = false then (s, true) else s.portPass (egressPort l) q.mid q.cls q.pkt.units

/-- A granted packet for which the credits do not suffice returns to its place (R314). -/
def State.lackCredits (s : State) (l : Nat) (q : QPkt) : State :=
  if q.adm ≠ 2 then s
  else
    let (s, ok) := s.park (egressPort l) q.mid q.cls q.pkt.units q.id
    if ok then s.updOut l q.id (fun q => { q with adm := 1 }) else s

/-- A packet starts: its credits are taken, and its slots are sent. -/
def Link.start (k : Link) (vc : Nat) (q : QPkt) : Link :=
  let n := q.pkt.slots
  let k := (k.take vc n).pushSlots (q.pkt.toSlots k.version)
  { k with out := k.out.filter (fun x => x.id != q.id), tx := (k.tx + 32 * n) % 2 ^ 64, unacked := k.unacked ++ [(k.lastFrame, q.pkt)] }

/-- What a link sends before a packet: idle slots, and a link control slot where four frames have ended since the last one. -/
def Link.between (l : Nat) (k : Link) (idle : Nat) (control : Bool) : Link :=
  let k := k.pushSlots (List.replicate idle idleSlot)
  if control && decide (4 ≤ k.ctlGap) then Link.control l k else k

/-- PACKET_SEND (R321–R324): `idle` slots pass, a link control slot is sent where one may be, and then the next packet of a channel
leaves once credits cover its slots. DESIGN CHOICE: log entry 75. -/
def execPacketSend (link : Fin 65) (vc : Fin 12) (idle : Fin 2561) (control : Bool) (s : State) : Out :=
  .next (
    let l := link.val
    if (s.link l).state ≠ 4 ∨ (s.link l).room (idle.val + 1) = false then s
    else
      let s := s.updLink l (fun k => k.between l idle.val control)
      match s.nextOut l vc.val with
      | none => s
      | some q =>
        if (s.link l).free vc.val < q.pkt.slots then s.lackCredits l q
        else if (s.link l).room q.pkt.slots = false then s
        else
          let (s, ok) := s.leaves l q
          if ok then s.updLink l (fun k => k.start vc.val q) else s)

/-! Training and identity (R325–R327, R346, R442–R445). -/

/-- The number of a link among the trained items (R442). -/
def itemOf (l : Nat) : Nat := 8 + l

/-- The temperature band of a link's slice, or of a stack (R442). -/
def State.band (s : State) (group : Nat) : Nat :=
  let t := (s.thGroup group).eff
  if t < 300 then 0 else if t < 500 then 1 else if t < 700 then 2 else 3

def linkGroup (l : Nat) : Nat := 16 + l % 64 / 8

/-- The temperature band of a link: in stage 3 that of its start (R442). DESIGN CHOICE: log entry 69. -/
def State.linkBand (s : State) (l : Nat) : Nat :=
  let g := linkGroup l
  if s.bup.stage = 3 then SMap.get (s.band g) s.bup.bands g else s.band g

/-- The ID_EXCHANGE payload that this device sends on a link (R326, R346). DEDUCED: log entry 74. -/
def State.idPayload (s : State) (l : Nat) : List Byte :=
  let b := fun (n : Nat) => (BitVec.ofNat 8 n : Byte)
  [b 0x11, b (if l = hildLink then 0xFF else l), b (s.pins.straps % 8), b (s.odNat 0x2800 6)] ++ leBytes 2 s.ownId ++ leBytes 2 0 ++
    leBytes 4 0xF ++ (s.fuses.serial ++ List.replicate 16 0).take 16 ++ List.replicate 36 0

/-- Whether an item may be trained with its saved entry (R443). -/
def State.savedOk (s : State) (item band : Nat) : Bool :=
  match SMap.find s.bup.saved item with
  | some e =>
    e.checkOk && e.serial == s.fuses.serial && e.straps == s.pins.straps && e.band == band &&
      (decide (8 ≤ item) || e.partner == s.fuses.stackId item) && s.odGet 0x2200 4 == 0 && !s.bup.unread.contains (2 + item)
  | none => false

/-- Why an item is trained fully where its entry cannot be used (R443, R445). -/
def State.fullReason (s : State) (item : Nat) : Nat :=
  if s.odGet 0x2200 4 = 1 then 3
  else if s.bup.unread.contains (2 + item) then 1
  else match SMap.find s.bup.saved item with
    | some e => if e.checkOk then 2 else 1
    | none => if SMap.find s.bup.trained item = some 2 then 2 else 1

/-- The new entry of an item after a full training. DESIGN CHOICE: log entry 69. -/
def State.saveItem (s : State) (item band : Nat) (partner : List Byte) : State :=
  let e : Saved := { serial := s.fuses.serial, straps := s.pins.straps, partner := partner, band := band, checkOk := true }
  { s with bup := { s.bup with saved := SMap.put s.bup.saved item e } }

def State.setTrained (s : State) (item v : Nat) : State :=
  { s with bup := { s.bup with trained := SMap.put s.bup.trained item v } }

/-- Training with its outcome (R443–R445): 0 the saved settings lock, 1 they fail to lock and full training succeeds, 2 full
training succeeds, 3 full training fails. The second component tells whether the training can end so; the third whether
it was full and succeeded. DESIGN CHOICE: log entry 69. -/
def State.trainItem (s : State) (item band outcome : Nat) (inService full : Bool) : State × Bool × Bool :=
  let saved := !inService && !full && s.savedOk item band
  let note := fun (s : State) v => if inService then s else s.setTrained item v
  if outcome = 0 then (note s 0, saved, false)
  else if outcome = 1 then (note s 4, saved, true)
  else if outcome = 2 then (note s (s.fullReason item), !saved, true)
  else (note s 5, true, false)

/-- LINK_TRAINING_DONE (R325): a trained link negotiates, sending its identity; a failed one is DOWN until its holdoff ends.
DESIGN CHOICE: log entry 69. DEDUCED: log entry 72. -/
def execLinkTrainingDone (link : Fin 65) (outcome : Fin 4) (polarity : Fin 16) (reversed : Bool) (s : State) : Out :=
  .next (
    let l := link.val
    let k := s.link l
    if k.state ≠ 2 then s
    else
      let (s', ok, full) := s.trainItem (itemOf l) (s.linkBand l) outcome.val k.known.isSome k.full
      if !ok then s
      else if outcome.val = 3 then s'.setLink l { k with state := 1, retrainDue := true }
      else
        let s := if full then s'.saveItem (itemOf l) (s'.linkBand l) [] else s'
        s.setLink l { k with state := 3, full := false, polarity := polarity.val, reversed := reversed, idSent := s.idPayload l })

/-- A link is HELD (R327): the record of class 0x08, or of class 0x0A for another Hild partner. DEDUCED: log entry 74. -/
def State.linkHeld (s : State) (l cls code : Nat) : State :=
  (s.updLink l (fun k => { k with state := 5, heldCode := code })).report
    (s.mkRec cls code 2 0 (BitVec.ofNat 32 l) noUnit noUnit 0 none 0)

/-- The entry with which a link trained names another partner: the entry is discarded and the link trains fully (R444). -/
def State.wrongPartner (s : State) (l : Nat) (serial : List Byte) : Bool :=
  match SMap.find s.bup.saved (itemOf l), SMap.find s.bup.trained (itemOf l) with
  | some e, some 0 => !e.partner.isEmpty && e.partner != serial
  | _, _ => false

/-- ID_EXCHANGE (R326, R327). DEDUCED: log entry 74. -/
def execIdExchange (link : Fin 65) (payload : List Byte) (s : State) : Out :=
  if payload.length ≠ 64 then .fault .illFormed
  else .next (
    let l := link.val
    let k := s.link l
    let at_ := fun i => (payload.getD i 0).toNat
    let dev := (at_ 4 + 256 * at_ 5) % 4096
    let serial := (payload.drop 12).take 16
    let caps := leNat (takeAt payload 8 4)
    if k.state ≠ 3 then s
    else if s.wrongPartner l serial then
      let s := { s with bup := { s.bup with saved := SMap.drop s.bup.saved (itemOf l) } }
      (s.setTrained (itemOf l) 2).setLink l { k with state := 2 }
    else if !(decide (at_ 0 % 16 ≤ 1 ∧ 1 ≤ at_ 0 / 16)) then s.linkHeld l 0x08 0x02
    else if caps % 16 ≠ 15 then s.linkHeld l 0x08 0x03
    else if l ≠ hildLink ∧ dev = s.ownId then s.linkHeld l 0x08 0x04
    else if k.known.any (fun e => e.1 != dev || e.2 != serial) then
      (if l = hildLink then s.linkHeld l 0x0A HLD_PARTNER_CHANGED else s.linkHeld l 0x08 0x05)
    else if s.bup.stage = 6 ∧ s.topoExpected l ∧ !s.topoPartner l dev (at_ 1 % 64) serial then
      (if l = hildLink then s.linkHeld l 0x0A HLD_PARTNER_CHANGED else s.linkHeld l 0x08 0x05)
    else
      let up := s.upMask
      let res := at_ 3
      let k := { k.restart with state := 4, partnerDev := dev, partnerLink := at_ 1 % 64, version := 1, heldCode := 0, serial := serial,
                                known := some (dev, serial), res := res, ownRes := s.odNat 0x2800 6,
                                pool := linkSlots l - linkVcs l * res }
      let s := (s.setLink l k).tideLink l
      let s := match SMap.find s.bup.saved (itemOf l) with
        | some e => { s with bup := { s.bup with saved := SMap.put s.bup.saved (itemOf l) { e with partner := serial } } }
        | none => s
      let s := if l = hildLink then s else s.linkRoutes l up
      if s.topoExpected l then s.redecide else s)

/-! Link control registers (R325). -/

/-- The link of a control register: YF_LINK_CTL or HLD_CTL. -/
def isLinkCtl (c : Nat) : Bool := (decide (0x800_0000 ≤ c ∧ c < 0x804_0000) && decide (c % 0x1000 < 8)) || decide (0x900_0000 ≤ c ∧ c < 0x900_0008)
def linkOfCtl (c : Nat) : Nat := if c < 0x804_0000 then (c - 0x800_0000) / 0x1000 else hildLink

/-- A link leaves its state for another by a command. -/
def State.linkTo (s : State) (l st : Nat) : State :=
  if l = hildLink then
    let k := s.link l
    let s := ((s.setLink l { k.leave st with retrainDue := false }).tideLink l).emptyPort l
    if k.state = 4 then s.hildLeave.report (s.mkRec 0x0A HLD_LINK_DOWN 2 0 noUnit noUnit noUnit 0 none 0) else s
  else (s.linkLeave l st).updLink l (fun k => { k with retrainDue := false })

/-- ENABLE of a link takes a value. Enabling a disabled or held link starts its training. -/
def State.setEnable (s : State) (l : Nat) (v : Bool) : State :=
  let k := s.link l
  let s := s.setLink l { k with enable := v }
  if !v then (if k.state = 0 then s else s.linkTo l 0)
  else if k.state = 0 ∨ k.state = 5 then
    (if s.seated l then s.updLink l (fun k => { k with state := 2, retrainDue := false })
     else s.updLink l (fun k => { k with state := 1, retrainDue := true }))
  else s

/-- Take a link DOWN and train it fully (R325, R461). DEDUCED: log entry 71. -/
def State.retrainLink (s : State) (l : Nat) : State :=
  if !(s.link l).enable then s
  else
    let s := s.updLink l (fun k => { k with full := true })
    if s.seated l then s.linkTo l 2 else (s.linkTo l 1).updLink l (fun k => { k with retrainDue := true })

/-- RETRAIN: a write of the link's control register with RETRAIN set. -/
def execRetrain (w : Wr) (s : State) : Out :=
  .next (match s.takeWr w (inCtrl isLinkCtl) with
    | (s', some x) =>
      let l := linkOfCtl (x.off - 0x103_0000_0000)
      if !bitOf (x.value &&& x.mask) 1 then s
      else
        let s := if bitOf x.mask 0 then s'.setEnable l (bitOf x.value 0) else s'
        s.retrainLink l
    | (s', none) => s')

/-- LINK_ENABLE_WRITE: a write of the link's control register without RETRAIN. -/
def execLinkEnableWrite (w : Wr) (s : State) : Out :=
  .next (match s.takeWr w (inCtrl isLinkCtl) with
    | (s', some x) =>
      if bitOf (x.value &&& x.mask) 1 then s
      else if bitOf x.mask 0 then s'.setEnable (linkOfCtl (x.off - 0x103_0000_0000)) (bitOf x.value 0) else s'
    | (s', none) => s')

/-! Route changes (R342). -/

/-- YF_ROUTE_WRITE. -/
def execYfRouteWrite (w : Wr) (s : State) : Out :=
  .next (match s.takeWr w (inCtrl (fun c => decide (0x810_0000 ≤ c ∧ c < 0x811_0000))) with
    | (s, none) => s
    | (s, some x) =>
      let o := x.off - 0x103_0810_0000
      let d := o / 0x10
      let r := (s.route d).changed s.upMask
      s.setRoute d (if o % 0x10 < 8 then { r with mask := x.merge r.mask } else { r with valid := bitOf (x.merge (placeB r.valid 63)) 63 }))

/-- ROUTE_SETTLE: held requests of the device flow on their new links. -/
def execRouteSettle (dev : Fin 4096) (s : State) : Out :=
  .next (
    let r := s.route dev.val
    if r.settle.isEmpty then s
    else
      let s := s.setRoute dev.val { r with settle := [] }
      let qs := s.fab.held.filter (fun q => q.pkt.dst == dev.val)
      let s := { s with fab := { s.fab with held := s.fab.held.filter (fun q => q.pkt.dst != dev.val) } }
      s.rechoose qs)

end Sys2Proof.Machine
end

