-- ==== Sys2Proof/Machine/YonusRows.lean ====
section
/-! DEFINITION. Fabric packets on arrival: transit, the checks at the home, responses at the source, barrier messages
(R328–R344). -/

namespace Sys2Proof.Machine

/-- The issuing unit of a fabric request as its home knows it (R42): the ingress link and the key of R332. -/
def Pkt.who (p : Pkt) (l : Nat) : Who := .fabric l (p.src * 4096 + p.mid * 4 + p.cls)

/-! Transit (R338, R339, R341). -/

/-- Forward a packet. -/
def State.forward (s : State) (l : Nat) (p : Pkt) : State :=
  if 5 ≤ p.hop then (s.fabSpoil YF_HOP_LIMIT p (some l)).failPkt p YF_HOP_LIMIT
  else
    let q := { p with hop := p.hop + 1 }
    let (s', ok) := s.egress q (some l)
    if ok then s' else (s.fabSpoil YF_NO_ROUTE p (some l)).failPkt p YF_NO_ROUTE

/-! The home (R330, R331). -/

/-- Bytes of the target that a request touches. -/
def Pkt.span (p : Pkt) : Nat :=
  if p.type = TREAD ∨ p.type = TWRITE then p.lenM1 + 1
  else if p.type = TWRITE_MASKED then 256
  else if p.type = TADD ∨ p.type = TMINMAX then
    (match redSizes p.fmt with | some (os, tz) => (p.lenM1 + 1) / os * tz | none => p.lenM1 + 1)
  else if p.type = TCTR_INC ∨ p.type = TBAR_ARRIVE ∨ p.type = TBAR_RELEASE then 8
  else 1

/-- The TYPE values of requests (R328). -/
def fabTypes : List Nat := [TREAD, TWRITE, TWRITE_MASKED, TADD, TMINMAX, TCTR_INC, TBAR_ARRIVE, TBAR_RELEASE]

def Pkt.right (p : Pkt) : Right :=
  if p.type = TREAD then .R else if p.type = TWRITE ∨ p.type = TWRITE_MASKED then .W else .A

/-- Check 4 of R330, but for the region of reductions: the fields fit the type. -/
def Pkt.fieldsOk (p : Pkt) : Bool :=
  let len := p.lenM1 + 1
  let off := addrOffset p.addr
  let line := fun n => decide (off % 256 + n ≤ 256)
  p.fits && fabTypes.contains p.type && decide (p.dst = addrDevice p.addr) && p.status == 0 &&
  (if p.type = TREAD then p.data.isEmpty && line len
   else if p.type = TWRITE then decide (p.data.length = len) && line len
   else if p.type = TWRITE_MASKED then decide (p.data.length = 256 ∧ p.lenM1 = 255 ∧ off % 256 = 0)
   else if p.type = TADD ∨ p.type = TMINMAX then
     (match redSizes p.fmt with
      | some (os, tz) =>
        decide (p.data.length = len ∧ len % os = 0 ∧ off % tz = 0) && line (len / os * tz) &&
        (if p.type = TMINMAX then p.fmt == 4 || p.fmt == 5 else p.fmt != 4 && p.fmt != 5)
      | none => false)
   else if p.type = TCTR_INC then
     p.data.isEmpty && decide (1 ≤ p.operand) && decide (0x102_0000_0000 ≤ off ∧ off < 0x102_0010_0000 ∧ off % 16 = 0)
   else p.data.isEmpty && decide (chanBase 0 ≤ off ∧ off < chanBase 32 ∧ off % 0x40 = 0))

/-- Whether a type is a reduction, and whether its region takes one (R255). -/
def Pkt.redRegionOk (p : Pkt) : Bool :=
  if p.type = TADD ∨ p.type = TMINMAX then
    regionOf (addrOffset p.addr) == some .hbm || regionOf (addrOffset p.addr) == some .scratch
  else true

/-- Answer a failing request: a READ by READ_DATA, anything else by STATUS. -/
def State.answerFail (s : State) (p : Pkt) (status : Nat) : State :=
  s.respond (p.answer (if p.type = TREAD then TREAD_DATA else TSTATUS) status [])

/-- An access refusal at the home (R47, R331). -/
def State.homeRefuse (s : State) (l : Nat) (p : Pkt) (code : Nat) (target : Option Nat) : State :=
  (s.refuse (p.who l) p.ctx code target p.addr).answerFail p (statusOfRefusal code)

/-- Any other failure: a record of class 0x09. -/
def State.homeFail (s : State) (l : Nat) (p : Pkt) (status : Nat) : State :=
  (s.report (s.mkRec 0x09 status 0 0 noUnit noUnit ((p.who l).waiter 0) (BitVec.ofNat 64 p.addr) (some p.ctx) 0)).answerFail p status

/-- Fabric requests to this device are refused at their home: under severity 4 (R475) and during a warm reset (R466). -/
def State.ingressShut (s : State) : Bool := s.rel.fatal || s.bup.warmStep != 0

/-- The checks of R330 on a request to this device: a state that ends it, or the class its target gives. -/
def State.homeCheck (s : State) (l : Nat) (p : Pkt) : Except State AccOk :=
  let off := addrOffset p.addr
  if !addrFormatOk p.addr || (addrDevice p.addr == 0xFFF && s.alias) then
    .error (((s.odInc 0x2800 9).spoil (s.mkRec 0x0B ADDR_FORMAT 0 0 (BitVec.ofNat 32 l) noUnit ((p.who l).waiter 0) (BitVec.ofNat 64 p.addr)
      (some p.ctx) 0)).answerFail p ST_ADDR_FORMAT)
  else match regionAll off p.span with
    | .error c => .error (s.homeRefuse l p c none)
    | .ok g =>
      if g = .hild then .error (s.homeRefuse l p ADDR_REMOTE_HILD none)
      else if !p.fieldsOk then .error (s.homeFail l p YF_FIELD)
      else if s.ingressShut then .error (s.homeRefuse l p ACT_DENY (some (targetOf off g)))
      else match actLookup (s.table (targetOf off g)).entries (0xA0 + l) p.ctx (if p.right == .W && inAlias off then .A else p.right)
          off p.span with
        | .error c => .error (s.homeRefuse l p c (some (targetOf off g)))
        | .ok (cls, _) =>
          if s.debugLocked && inDebugBlock off then .error (s.homeRefuse l p ACT_DENY (some (targetOf off g)))
          else if !p.redRegionOk then .error (s.homeFail l p ST_RED_REGION)
          else if !s.allBacked off p.span g then
            .error (s.homeRefuse l p ADDR_UNBACKED (some (targetOf off g)))
          else .ok { region := some g, cls := cls, imm := false, target := targetOf off g }

/-- Whether an earlier request of a key is still to be performed (R332). DEDUCED: log entry 73. -/
def State.keyBusy (s : State) (w : Who) : Bool := s.reqs.any (fun r => sameOrder r.who w)

/-- Whether the router forwards transit traffic: from the end of stage 3 (R453). -/
def State.transits (s : State) : Bool := s.bup.stage != 3

/-- The request at the head of a channel of a link, of a type: transit is forwarded; at its home it is checked, then `k` acts
on the state with the packet taken. A packet of a TYPE that no request has is taken the same way by any command of its channel,
and fails the check of its fields (R330). DEDUCED: log entry 73. -/
def State.fabArrive (s : State) (l v type : Nat) (gate : Pkt → AccOk → State × Bool) (k : State → Pkt → AccOk → State) : State :=
  match s.headIn l v with
  | none => s
  | some p =>
    if p.type ≠ type ∧ fabTypes.contains p.type then s
    else if p.dst ≠ s.ownId then (if s.transits then (s.takeIn l p).forward l p else s)
    else match (s.takeIn l p).homeCheck l p with
      | .error s' => s'
      | .ok ok =>
        let (s, go) := gate p ok
        if go then k (s.takeIn l p) p ok else s

/-- A request that joins the requests in flight passes no port as it arrives. -/
def State.atOnce (s : State) (_ : Pkt) (_ : AccOk) : State × Bool := (s, true)

/-- A request that is performed as it arrives waits for every earlier one of its key (R332), and passes the port of its object. -/
def State.inKeyOrder (s : State) (l : Nat) (p : Pkt) (ok : AccOk) : State × Bool :=
  if s.keyBusy (p.who l) then (s, false) else s.enter (p.who l) ok.cls p.addr 1

/-- The mask of a WRITE_MASKED as flags. -/
def maskFlags (m : Nat) : List Bool := (List.range 256).map (fun i => m.testBit i)

/-- A request that its home performs later: it joins the requests in flight. -/
def State.fabQueue (s : State) (l : Nat) (p : Pkt) (ok : AccOk) (kind : RKind) : State :=
  let r := newReq (p.who l) p.ctx kind p.addr (p.lenM1 + 1) (if kind == .load then [] else withPoison p.data p.poison) ok.cls
  s.addReq { r with aux := p.tag, mask := if p.type = TWRITE_MASKED then maskFlags p.mask else [] }

/-- YF_READ (R330): a read of registers or objects is performed at once where it is its turn. -/
def execYfRead (link : Fin 64) (vc : Fin 6) (s : State) : Out :=
  .next (s.fabArrive link.val vc.val TREAD s.atOnce (fun s p ok => (s.fabQueue link.val p ok .load).performReg s.nextReq))

/-- YF_WRITE. -/
def execYfWrite (link : Fin 64) (vc : Fin 6) (s : State) : Out :=
  .next (s.fabArrive link.val vc.val TWRITE s.atOnce (fun s p ok => s.fabQueue link.val p ok .store))

/-- YF_WRITE_MASKED. -/
def execYfWriteMasked (link : Fin 64) (vc : Fin 6) (s : State) : Out :=
  .next (s.fabArrive link.val vc.val TWRITE_MASKED s.atOnce (fun s p ok => s.fabQueue link.val p ok .store))

/-- YF_ADD_TO_LINE. -/
def execYfAddToLine (link : Fin 64) (vc : Fin 6) (s : State) : Out :=
  .next (s.fabArrive link.val vc.val TADD s.atOnce (fun s p ok => s.fabQueue link.val p ok (.red p.fmt)))

/-- YF_MINMAX_TO_LINE. -/
def execYfMinmaxToLine (link : Fin 64) (vc : Fin 6) (s : State) : Out :=
  .next (s.fabArrive link.val vc.val TMINMAX s.atOnce (fun s p ok => s.fabQueue link.val p ok (.red p.fmt)))

/-- The STATUS value of an increment that is not performed. -/
def incStatus (st : Nat) : Nat :=
  if st = STALE_TARGET then ST_STALE else if st = COUNT_BOUND then ST_COUNT_BOUND else ST_CTR_OVERFLOW

/-- YF_CTR_INC: performed after every earlier request of its key (R332). -/
def execYfCtrInc (link : Fin 64) (vc : Fin 6) (s : State) : Out :=
  .next (
    let l := link.val
    s.fabArrive l vc.val TCTR_INC (s.inKeyOrder l) (fun s p _ =>
      let n := (addrOffset p.addr - 0x102_0000_0000) / 16
      let (s, st) := s.incNow n p.operand (if p.epochV then some p.epoch else none) ((p.who l).waiter 0) (some p.ctx)
      let s := s.syncSettle
      if st = SYN_OK then s else s.answerFail p (incStatus st)))

/-! Barrier messages (R343, R344). -/

/-- The channel that a barrier message addresses. -/
def Pkt.chan (p : Pkt) : Nat := (addrOffset p.addr - chanBase 0) / 0x40

/-- A barrier message that does not fit its channel is discarded. -/
def State.barDrop (s : State) (l : Nat) (p : Pkt) : State := s.fabSpoil YF_BAR_ROUND p (some l)

/-- BARRIER_ARRIVE: a child's arrival for the current round. -/
def execBarrierArrive (link : Fin 64) (vc : Fin 6) (s : State) : Out :=
  .next (
    let l := link.val
    s.fabArrive l vc.val TBAR_ARRIVE (s.inKeyOrder l) (fun s p _ =>
      let c := p.chan
      let b := s.ybar c
      match b.children.findIdx? (fun d => d == p.src) with
      | some i =>
        if !b.valid || p.operand != (s.chanOf c).round then s.barDrop l p
        else ((s.setYbar c { b with arrived := natSetBit b.arrived i true }).barCheck c).syncSettle
      | none => s.barDrop l p))

/-- BARRIER_RELEASE: the parent's release of the round, sent on to the children. -/
def execBarrierRelease (link : Fin 64) (vc : Fin 6) (s : State) : Out :=
  .next (
    let l := link.val
    s.fabArrive l vc.val TBAR_RELEASE (s.inKeyOrder l) (fun s p _ =>
      let c := p.chan
      let b := s.ybar c
      let r := (s.chanOf c).round
      if !b.valid || b.root || p.src != b.parent || p.operand != r then s.barDrop l p
      else
        (((s.releaseRound c SYN_OK).releaseChildren c r).barCheck c).syncSettle))

/-! Responses at their source (R334–R336). -/

/-- The data of a tag's read. -/
def State.tagData (s : State) (g : RTag) (bs : List PByte) : State :=
  let s := match g.req with | some id => s.finishReq id bs | none => s
  match g.line with
  | none => s
  | some (n, L) =>
    match (s.slice n).findMiss L true with
    | none => s
    | some m => s.fillDone n m bs

/-- YF_READ_DATA. -/
def execYfReadData (link : Fin 64) (vc : Fin 6) (s : State) : Out :=
  .next (
    let l := link.val
    match s.headIn l (6 + vc.val) with
    | none => s
    | some p =>
      if p.type ≠ TREAD_DATA ∨ (p.dst ≠ s.ownId ∧ !s.transits) then s
      else
        let s := s.takeIn l p
        if p.dst ≠ s.ownId then s.forward l p
        else match s.fab.tags.find? (fun g => g.tag == p.tag) with
          | none => s.fabSpoil YF_LATE_RESPONSE p (some l)
          | some g =>
            let s := s.dropTag g.tag
            let s := if p.status = 0 then s.tagData g (withPoison p.data p.poison)
              else (s.statusReturn { p with ctx := g.ctx, mid := g.mid } p.status false).failTag g p.status
            s.tagFreed)

/-- YF_STATUS. -/
def execYfStatus (link : Fin 64) (vc : Fin 6) (s : State) : Out :=
  .next (
    let l := link.val
    match s.headIn l (6 + vc.val) with
    | none => s
    | some p =>
      if p.type ≠ TSTATUS ∨ (p.dst ≠ s.ownId ∧ !s.transits) then s
      else
        let s := s.takeIn l p
        if p.dst ≠ s.ownId then s.forward l p else (s.statusReturn p p.status true).syncSettle)

/-- YF_READ_TIMEOUT (R336). DESIGN CHOICE: log entry 3. -/
def execYfReadTimeout (tag : Fin 8192) (s : State) : Out :=
  .next (match s.fab.tags.find? (fun g => g.tag == tag.val) with
    | none => s
    | some g =>
      let s := (s.dropTag g.tag).report
        (s.mkRec 0x09 YF_READ_TIMEOUT 1 0 noUnit noUnit (BitVec.ofNat 32 g.mid) (BitVec.ofNat 64 g.addr) (some g.ctx) 0)
      (s.failTag g YF_READ_TIMEOUT).tagFreed)

/-- A packet from another device that has waited too long is discarded (R340). -/
def State.outlived (s : State) (p : Pkt) (l : Nat) : State := (s.fabSpoil YF_RESIDENCE p (some l)).failPkt p YF_RESIDENCE

/-- YF_RESIDENCE (R340): a packet that arrived over the fabric is discarded where no egress port and no port of its home has yet
accepted it: in an ingress buffer, in an egress queue or in the router, by its place there, or at its home, by its number. -/
def execYfResidence (place : Residence) (link : Fin 64) (pos : Nat) (s : State) : Out :=
  .next (
    let l := link.val
    let k := s.link l
    match place with
    | .ingress => match k.ingress[pos]? with
      | none => s
      | some p => (s.takeIn l p).outlived p l
    | .egress => match k.out[pos]? with
      | none => s
      | some q => match q.from_ with
        | none => s
        | some f => if q.adm ≠ 0 then s else (s.setLink l { k with out := k.out.eraseIdx pos }).outlived q.pkt f
    | .router => match s.fab.held[pos]? with
      | none => s
      | some q => match q.from_ with
        | none => s
        | some f => ({ s with fab := { s.fab with held := s.fab.held.eraseIdx pos } } : State).outlived q.pkt f
    | .home => match s.findReq pos with
      | none => s
      | some r => match r.who with
        | .fabric f _ =>
          if f ≠ l ∨ r.adm ≠ 0 ∨ r.st ≠ .sent then s
          else ((s.dropReq pos).fabSpoil YF_RESIDENCE (s.answerPkt r 0 []) (some l)).statusPkt r.who r.ctx r.addr YF_RESIDENCE
        | _ => s)

/-- YF_BAR_WRITE (R343): a valid group takes nothing but VALID = 0. -/
def execYfBarWrite (w : Wr) (s : State) : Out :=
  .next (match s.takeWr w (inCtrl (fun c => decide (0x812_0000 ≤ c ∧ c < 0x812_0800 ∧ c % 0x40 < 0x28))) with
    | (s, none) => s
    | (s, some x) =>
      let o := x.off - 0x103_0812_0000
      let c := o / 0x40
      let f := o % 0x40 / 8
      let b := s.ybar c
      if b.valid then
        (if f = 0 ∧ bitOf x.mask 63 ∧ ¬ bitOf x.value 63 then
          ((s.setYbar c { b with ctrl := b.ctrl &&& 0x7FFF_FFFF_FFFF_FFFF }).barCheck c).syncSettle else s)
      else if f = 0 then ((s.setYbar c { b with ctrl := x.merge b.ctrl &&& 0xC01F_0FFF_0000_0000 }).barCheck c).syncSettle
      else
        let v := x.merge (b.reg (8 * f))
        s.setYbar c { b with child := (List.range 4).foldl (fun m i => SMap.put m (4 * (f - 1) + i) (fld v (16 * i) 12)) b.child })

end Sys2Proof.Machine
end

