-- ==== Sys2Proof/Machine/HildRows.lean ====
section
/-! DEFINITION. Packets of the companion on the Hild link (R346–R358). -/

namespace Sys2Proof.Machine

/-! Companion requests (R348–R350). -/

/-- A packet to the companion: the fields that the Hild link sends as zero are zero (R348). -/
def Pkt.plain (p : Pkt) : Pkt := { p with hop := 0, dst := 0, src := 0, cls := 0 }

/-- A companion request that fails (R349): its record of class 0x0A and its answer. DEDUCED: log entry 76. -/
def State.companionFail (s : State) (p : Pkt) (status : Nat) : State :=
  (s.report (s.mkRec 0x0A (0x80 + status) 0 0 noUnit noUnit (Who.hild.waiter 0) (BitVec.ofNat 64 p.addr) (some 0) 0)).hildOut
    (p.answer (if p.type = TREAD then TREAD_DATA else TSTATUS) status []).plain

/-- An access refusal of a companion request: the target records it too (R47). DEDUCED: log entry 76. -/
def State.companionRefuse (s : State) (p : Pkt) (code : Nat) (target : Option Nat) : State :=
  (s.refuse .hild 0 code target p.addr).companionFail p (statusOfRefusal code)

/-- Bytes that a companion request touches, and the right it needs. -/
def Pkt.hildSpan (p : Pkt) : Nat := if p.type = TREAD ∨ p.type = TWRITE then p.lenM1 + 1 else 256
def Pkt.hildRight (p : Pkt) : Right := if p.type = TREAD ∨ p.type = TREAD_SHARED ∨ p.type = TREAD_EXCL then .R else .W

/-- Whether a line lies in the shared window (R351). -/
def State.inWindow (s : State) (L : Nat) : Bool :=
  let base := s.odNat 0x2900 1
  decide (base ≤ L * 256 ∧ L * 256 < base + s.odNat 0x2900 2 * 0x4000_0000) && regionOf (L * 256) == some .hbm

/-- Whether the fields of a companion request fit its type. -/
def State.hildFieldsOk (s : State) (p : Pkt) : Bool :=
  let off := addrOffset p.addr
  let len := p.lenM1 + 1
  if !p.fits then false
  else if p.type = TREAD then p.data.isEmpty && decide (off % 256 + len ≤ 256)
  else if p.type = TWRITE then decide (p.data.length = len ∧ off % 256 + len ≤ 256)
  else if p.type = TWRITE_MASKED then decide (p.data.length = 256 ∧ off % 256 = 0)
  else
    decide (off % 256 = 0) && s.inWindow (off / 256) &&
      (if p.type = TWRITEBACK then p.data.isEmpty || p.data.length == 256 else p.data.isEmpty)

/-- The checks of a companion request (R348, R349). During a warm reset tile stores and the synchronisation window are
unbacked (R467). -/
def State.companionCheck (s : State) (p : Pkt) : Except State AccOk :=
  let off := addrOffset p.addr
  if !addrFormatOk p.addr then .error (s.companionRefuse p ADDR_FORMAT none)
  else match regionAll off p.hildSpan with
    | .error c => .error (s.companionRefuse p c none)
    | .ok g =>
      if g = .hild then .error (s.companionRefuse p ADDR_REMOTE_HILD none)
      else if !s.hildFieldsOk p then .error (s.companionFail p YF_FIELD)
      else match s.checkLocal 0x0E0 0 p.hildRight off p.hildSpan with
        | .error (c, t) => .error (s.companionRefuse p c t)
        | .ok ok =>
          if s.bup.warmStep ≠ 0 ∧ (g = .store ∨ g = .sync) then .error (s.companionRefuse p ADDR_UNBACKED (some ok.target)) else .ok ok

/-- The companion request at the head of its channel, of a type: checked, then `k` acts on the state before and after it is
taken. -/
def State.companion (s : State) (type : Nat) (k : State → State → Pkt → AccOk → State) : State :=
  match s.headIn hildLink 0 with
  | none => s
  | some p =>
    if p.type ≠ type then s
    else match (s.takeIn hildLink p).companionCheck p with
      | .error s' => s'
      | .ok ok => k s (s.takeIn hildLink p) p ok

/-- A companion request joins the requests in flight; `share` tells what it takes of the line: 0 nothing, 1 S, 2 E. -/
def State.companionQueue (s : State) (p : Pkt) (ok : AccOk) (kind : RKind) (share : Nat := 0) : State :=
  let a := (s.globalOf (addrOffset p.addr)).toNat
  let r := newReq .hild 0 kind a p.hildSpan (if kind == .load then [] else withPoison p.data p.poison) ok.cls
  s.addReq { r with aux := p.tag, op := p.addr, share := share, mask := if p.type = TWRITE_MASKED then maskFlags p.mask else [] }

/-- HLD_READ: a read of registers or objects is performed at once where it is its turn. -/
def execHldRead (s : State) : Out :=
  .next (s.companion TREAD (fun _ s' p ok => (s'.companionQueue p ok .load).performReg s'.nextReq))

/-- A companion write waits for every earlier companion request where it goes to an object or a dictionary entry (R350). -/
def State.companionWrite (s s' : State) (p : Pkt) (ok : AccOk) : State :=
  let off := addrOffset p.addr
  let after := regionOf off == some .sync || inCtrl (fun c => decide (0x8000_0000 ≤ c ∧ c < 0x9000_0000)) off
  if after && s.reqs.any (fun r => r.who == .hild) then s else s'.companionQueue p ok .store

/-- HLD_WRITE. -/
def execHldWrite (s : State) : Out := .next (s.companion TWRITE (fun s s' p ok => s.companionWrite s' p ok))

/-- HLD_WRITE_MASKED. -/
def execHldWriteMasked (s : State) : Out := .next (s.companion TWRITE_MASKED (fun s s' p ok => s.companionWrite s' p ok))

/-! The shared window (R351–R353). -/

/-- READ_SHARED: the read joins the requests in flight, and its home makes the directory entry. -/
def execReadShared (s : State) : Out :=
  .next (s.companion TREAD_SHARED (fun _ s' p ok => s'.companionQueue { p with lenM1 := 255 } ok .load 1))

/-- READ_EXCL. -/
def execReadExcl (s : State) : Out :=
  .next (s.companion TREAD_EXCL (fun _ s' p ok => s'.companionQueue { p with lenM1 := 255 } ok .load 2))

/-- Data of the companion's copy enters its line, as a write of the masked bytes. -/
def State.mergeLine (s : State) (p : Pkt) : State :=
  if p.data.isEmpty then s
  else
    let off := addrOffset p.addr / 256 * 256
    let us := maskBytes (withPoison p.data p.poison) (maskFlags p.mask)
    let s := s.lineForMask (off / 256) (touchedMask 0 us) none
    s.memWrite (s.homePlace off) us (Who.hild.waiter 0)

/-- DEDUCED: log entry 78. -/
def State.dropEntry (s : State) (L : Nat) : State := { s with hild := { s.hild with dir := SMap.drop s.hild.dir L } }

/-- WRITEBACK: it is performed at once, also while a snoop of its line is outstanding, and frees the entry.
DEDUCED: log entry 78. -/
def execWriteback (s : State) : Out :=
  .next (s.companion TWRITEBACK (fun _ s' p _ =>
    let L := addrOffset p.addr / 256
    match SMap.find s'.hild.dir L with
    | some e => if e.excl then (s'.mergeLine p).dropEntry L else s'
    | none => s'))

/-- A response on the Hild link at the head of its channel, of a type. -/
def State.companionAnswer (s : State) (type : Nat) (k : State → Pkt → State) : State :=
  match s.headIn hildLink 2 with
  | none => s
  | some p => if p.type ≠ type then s else k (s.takeIn hildLink p) p

/-- SNOOP_RESP: its data enters the line first; then the entry becomes S, or is freed. -/
def execSnoopResp (s : State) : Out :=
  .next (s.companionAnswer THILD_SNOOP_RESP (fun s p =>
    let L := addrOffset p.addr / 256
    match s.hild.snoops.find? (fun n => n.line == L) with
    | none => s
    | some n =>
      let s := { s with hild := { s.hild with snoops := s.hild.snoops.erase n } }
      match SMap.find s.hild.dir L with
      | none => s
      | some e =>
        let s := if e.excl then s.mergeLine p else s
        if n.inv then s.dropEntry L
        else { s with hild := { s.hild with dir := SMap.put s.hild.dir L { e with excl := false } } }))

/-! Answers to accesses of the device (R355–R358). -/

/-- WRITE_ACK: the oldest write of its master to its address is performed; of an event-log record, the producer counter
advances and the record may raise an interrupt. -/
def execWriteAck (s : State) : Out :=
  .next (s.companionAnswer TWRITE_ACK (fun s p =>
    match s.reqs.find? (fun r => r.st == .out && r.kind == .store && s.toHild r && r.who.mid == p.mid &&
        decide (addrOffset r.addr = addrOffset p.addr)) with
    | none => s
    | some r =>
      let s := s.dropReq r.id
      match s.hild.log.find? (fun l => l.req == r.id) with
      | none => s
      | some l =>
        let s := { s with hild := { s.hild with log := s.hild.log.filter (fun x => x.req != r.id) } }
        ((s.incOwn (s.odNat 0x2900 0x12) 1).interrupt l.sev l.cls l.code).syncSettle))

/-- HLD_READ_DATA. -/
def execHldReadData (s : State) : Out :=
  .next (s.companionAnswer TREAD_DATA (fun s p =>
    match s.hildLoads.find? (fun r => r.tag == p.tag) with
    | none => s
    | some r =>
      (if p.status ≠ 0 then s.failOut r 0x0A (0x80 + p.status) 0
       else if !p.fits || decide (p.data.length < r.len) then s.failOut r 0x0A HLD_FIELD 0
       else s.finishReq r.id ((withPoison p.data p.poison).take r.len)).hildNext))

/-- An access of the device that is out on the Hild link. -/
def State.hildAccess (s : State) (id : Nat) (load : Bool) : Option Req :=
  match s.findReq id with
  | some r => if r.st == .out && s.toHild r && (r.kind == .load) == load then some r else none
  | none => none

/-- HLD_READ_TIMEOUT. -/
def execHldReadTimeout (req : Nat) (s : State) : Out :=
  .next (match s.hildAccess req true with
    | none => s
    | some r => (s.failOut r 0x0A HLD_READ_TIMEOUT 1).hildNext)

/-- HLD_WRITE_TIMEOUT: the write counts as acknowledged for every release that waits on it. -/
def execHldWriteTimeout (req : Nat) (s : State) : Out :=
  .next (match s.hildAccess req false with
    | none => s
    | some r => (s.failOut r 0x0A HLD_WRITE_TIMEOUT 1).logLost r.id)

/-- SNOOP_TIMEOUT (R354). -/
def execSnoopTimeout (line : Nat) (s : State) : Out := .next (if s.snoopOut line then s.hildFail else s)

/-- HLD_LINK_DOWN (R354): causes 0 retry limit, 1 lock lost, 2 partner idle. -/
def execHldLinkDown (cause : Fin 3) (s : State) : Out :=
  .next (
    let k := s.link hildLink
    let excess := k.state == 4 && k.resends.any (fun e => decide (s.odNat 0x2800 2 < e.2))
    if !k.live || (cause.val == 0 && !excess) then s else s.hildFail)

/-- Types that the companion sends (R348). -/
def hildTypes : List Nat :=
  [TREAD, TWRITE, TWRITE_MASKED, TREAD_DATA, TREAD_SHARED, TREAD_EXCL, TWRITEBACK, THILD_SNOOP_RESP, TWRITE_ACK]

/-- HLD_FIELD (R348): the value of the STATUS is not stated and is a free value. DESIGN CHOICE: log entry 77. -/
def execHldField (s : State) : Out :=
  .next (
    let bad := fun (o : Option Pkt) => o.filter (fun p => !(hildTypes.contains p.type))
    match (bad (s.headIn hildLink 0)).or (bad (s.headIn hildLink 2)) with
    | none => s
    | some p =>
      let s := (s.takeIn hildLink p).report
        (s.mkRec 0x0A HLD_FIELD 0 0 noUnit noUnit (Who.hild.waiter 0) (BitVec.ofNat 64 p.addr) (some 0) 0)
      let (v, s) := s.fresh
      s.hildOut (p.answer TSTATUS (v.toNat % 256) []).plain)

end Sys2Proof.Machine
end

