-- ==== Sys2Proof/Machine/ArbStuck.lean ====
section
/-! DEFINITION. The port watchdog (R315). -/

namespace Sys2Proof.Machine

/-- A request that its port has discarded: a unit's load fails, a tile's task aborts; what came over a link is answered and
recorded (R331, R349). DEDUCED: log entry 68. -/
def State.reqLost (s : State) (r : Req) : State :=
  match r.kind, r.who with
  | .load, _ => s.failRead r 0x0C
  | .prefetch, _ => s.dropReq r.id
  | _, .fabric _ _ =>
    ((s.dropReq r.id).report (s.mkRec 0x09 0x0C 0 0 noUnit noUnit (r.who.waiter 0) (BitVec.ofNat 64 r.addr) (some r.ctx) 0)).statusPkt
      r.who r.ctx r.addr 0x0C
  | _, .hild =>
    ((s.dropReq r.id).report (s.mkRec 0x0A 0x8C 0 0 noUnit noUnit (r.who.waiter 0) (BitVec.ofNat 64 r.addr) (some r.ctx) 0)).statusPkt
      r.who r.ctx r.addr 0x0C
  | _, _ => s.dropReq r.id

/-- The HBM read of a fill is discarded at a controller front: the request that opened the fill fails, and the others of its miss
register read again. -/
def State.frontLost (s : State) (n req : Nat) : State :=
  match (s.slice n).misses.find? (fun m => !m.remote && m.reqs.head? == some req) with
  | none => s
  | some m =>
    let s := s.updSlice n (fun k =>
      if m.reqs.length ≤ 1 then { k with misses := k.misses.filter (fun x => !(x.L == m.L && !x.remote)) }
      else k.updMiss m.L false (fun m => { m with adm := 0, reqs := m.reqs.drop 1 }))
    match s.findReq req with | some r => s.reqLost r | none => s

/-- A packet is discarded at its egress port: in transit it fails as at a home; a READ of this device fails at its unit; an access of
the companion's memory fails, and an event-log record with it; another posted request is lost. -/
def State.egressLost (s : State) (l req : Nat) : State :=
  match (s.link l).out.find? (fun q => q.id == req) with
  | none => s
  | some q =>
    let s := s.updLink l (fun k => { k with out := k.out.filter (fun x => x.id != req) })
    if l = hildLink then
      match s.reqs.find? (fun r => r.st == .out && s.toHild r && r.who.mid == q.pkt.mid && (r.kind == .load) == (q.pkt.type == TREAD) &&
          decide (addrOffset r.addr = addrOffset q.pkt.addr) && (r.kind != .load || r.tag == q.pkt.tag)) with
      | none => s
      | some r => if r.kind == .load then (s.reqLost r).hildNext else (s.dropReq r.id).logLost r.id
    else if q.from_.isSome then s.failPkt q.pkt 0x0C
    else if q.pkt.type ≠ TREAD then s
    else match s.fab.tags.find? (fun g => g.tag == q.pkt.tag) with
      | none => s
      | some g => ((s.dropTag g.tag).failTag g 0x0C).tagFreed

/-- The master of a discarded request bears the outcome (R315). DEDUCED: log entry 68. -/
def State.arbLost (s : State) (n : Nat) (r : PReq) : State :=
  let s := if r.mid < 0x90 then s.abortTask r.mid codeTaskFault else s
  match linkOfPort n with
  | some l => s.egressLost l r.req
  | none =>
    if 8 ≤ n ∧ n < 16 then s.frontLost (n - 8) r.req
    else match s.findReq r.req with | some q => s.reqLost q | none => s

/-- ARB_STUCK (R315). DEDUCED: log entry 68. -/
def execArbStuck (port : Fin 90) (s : State) : Out :=
  .next (
    let p := s.port port.val
    match p.transfer with
    | none => s
    | some (_, r) =>
      let s := s.setPort port.val { p with transfer := none, stuck := true, lastMid := r.mid, fired := (p.fired + 1) % 2 ^ 32 }
      let s := (s.odInc 0x2600 3).report
        (s.mkRec 0x0C 0x01 1 0 noUnit (BitVec.ofNat 32 port.val) (BitVec.ofNat 32 r.mid) 0 none 0)
      s.arbLost port.val r)

end Sys2Proof.Machine
end

