-- ==== Sys2Proof/Machine/Dma.lean ====
section
/-! DEFINITION. The DMA movers (R128, R132, R133, R139, R140, R256). -/

namespace Sys2Proof.Machine

def State.updMover (s : State) (t m : Nat) (f : List DmaEnt → List DmaEnt) : State :=
  s.updTile t (fun x => { x with movers := SMap.put x.movers m (f (x.mover m)) })

def State.updEnt (s : State) (t m op : Nat) (f : DmaEnt → DmaEnt) : State :=
  s.updMover t m (fun es => es.map (fun e => if e.op == op then f e else e))

/-- The next descriptor of a mover to start: every one before it has issued all its requests (R139). -/
def Tile.nextDma (x : Tile) (m : Nat) : Option DmaEnt :=
  match (x.mover m).find? (fun e => !e.issued) with
  | some e => if e.started then none else some e
  | none => none

/-- Start the next descriptor, where it is of the operation and its tag conditions hold. DESIGN CHOICE: log entry 30. -/
def State.startDma (s : State) (t m op : Nat) : State :=
  let x := s.tile t
  match x.nextDma m with
  | none => s
  | some e =>
    if e.dd.op ≠ op ∨ ¬ e.dd.tagsReady x.sb e.op ∨ ¬ x.dbg.mayBegin ∨ x.aborting then s
    else (s.updEnt t m e.op (fun e => { e with started := true })).traceTile t 0x04 (leBytes 8 (e.dd.words.getD 0 0).toNat ++ leBytes 1 m)

/-- DMA_COPY. -/
def execDmaCopy (t : Fin 144) (m : Fin 4) (s : State) : Out := .next (s.startDma t.val m.val 0)
/-- DMA_FILL. -/
def execDmaFill (t : Fin 144) (m : Fin 4) (s : State) : Out := .next (s.startDma t.val m.val 1)
/-- DMA_REDUCE. -/
def execDmaReduce (t : Fin 144) (m : Fin 4) (s : State) : Out := .next (s.startDma t.val m.val 2)

/-- The descriptor whose requests a mover issues. -/
def Tile.issuing (x : Tile) (m : Nat) : Option DmaEnt := (x.mover m).find? (fun e => e.started && !e.issued)

/-- Bytes of a target that n source bytes reach: twice as many in the FXADD formats. -/
def Dd.dstScale (d : Dd) : Nat := if d.op = 2 ∧ 8 ≤ d.redFmt then 2 else 1

/-- Source and destination address of the position of a descriptor, modulo 2^64. -/
def DmaEnt.srcAt (e : DmaEnt) : Nat := (e.dd.src.toNat + e.row * e.dd.srcStride * 8 + e.off) % 2 ^ 64
def DmaEnt.dstAt (e : DmaEnt) : Nat := (e.dd.dst.toNat + e.row * e.dd.dstStride * 8 + e.off * e.dd.dstScale) % 2 ^ 64

/-- The bytes of the next request: up to 256, within one 256-byte line at either end. -/
def DmaEnt.chunk (e : DmaEnt) : Nat :=
  let rest := e.dd.rowBytes - e.off
  let dst := (256 - e.dstAt % 256) / e.dd.dstScale
  let src := if e.dd.op = 1 then rest else 256 - e.srcAt % 256
  min rest (min dst src)

/-- The position after n bytes. -/
def DmaEnt.advance (e : DmaEnt) (n : Nat) : DmaEnt :=
  if e.off + n < e.dd.rowBytes then { e with off := e.off + n } else { e with row := e.row + 1, off := 0 }

/-- Every source byte has been asked for, or every row filled. -/
def DmaEnt.rowsDone (e : DmaEnt) : Bool := decide (e.dd.rows ≤ e.row)

/-- Requests of a mover's operation. -/
def State.moverReqs (s : State) (t m op : Nat) : List Req := s.reqs.filter (fun r => r.who == .mover t m && r.op == op)

/-- After the last source byte has been read, TAG_SRC is released; with every request issued, the next descriptor may
start. -/
def State.moverPoint (s : State) (t m : Nat) (e : DmaEnt) : State :=
  if !e.rowsDone || (s.moverReqs t m e.op).any (fun r => r.kind == .load) then s
  else (s.updEnt t m e.op (fun e => { e with issued := true })).release t e.op .srcRead

/-- Whether the next request of n bytes is the descriptor's last read of its source line. DESIGN CHOICE: log entry 155. -/
def DmaEnt.lastOfLine (e : DmaEnt) (n : Nat) : Bool :=
  (decide (e.dd.rowBytes ≤ e.off + n) || (e.srcAt + n) % 256 == 0) &&
  (decide (e.dd.rows ≤ e.row + 1) ||
    decide (e.srcAt / 256 * 256 + 256 ≤ e.dd.src.toNat + (e.row + 1) * e.dd.srcStride * 8))

/-- Issue the next read of a COPY or REDUCE; LAST_USE goes with the last read of each line.
DEDUCED: log entry 31. DESIGN CHOICE: log entry 155. -/
def State.moverRead (s : State) (t m : Nat) (e : DmaEnt) : State :=
  if e.rowsDone || e.dd.op = 1 || e.dd.op = 3 then s
  else
    let n := e.chunk
    let r := { newReq (.mover t m) (s.tile t).ctx .load e.srcAt n [] 0 with
      hint := if e.lastOfLine n then e.dd.lastUse else 0, aux := e.dstAt, op := e.op }
    let s := s.updEnt t m e.op (fun e => e.advance n)
    (s.access r .R).1

/-- Issue the next write: of a FILL, or of the oldest read whose data has come. Data of a refused read is not written. -/
def State.moverWrite (s : State) (t m : Nat) (e : DmaEnt) : State :=
  if e.dd.op = 1 then
    if e.rowsDone then s
    else
      let n := e.chunk
      let data := (List.replicate (n / 8 + 1) (leBytes 8 e.dd.src.toNat)).flatten.take n
      let r := { newReq (.mover t m) (s.tile t).ctx .store e.dstAt n (clean data) 0 with op := e.op }
      let s := s.updEnt t m e.op (fun e => e.advance n)
      (s.access r .W).1.moverPoint t m (e.advance n)
  else
    let s := match (s.moverReqs t m e.op).find? (fun r => s.regRead r && r.st == .sent) with
      | some r => s.performReg r.id
      | none => s
    match (s.moverReqs t m e.op).find? (fun r => r.kind == .load && (match r.st with | .done => true | .failed _ => true | _ => false)) with
    | none => s
    | some r =>
      let s := s.dropReq r.id
      let s := match r.st with
        | .done =>
          let kind : RKind := if e.dd.op = 2 then .red e.dd.redFmt else .store
          let w := { newReq (.mover t m) r.ctx kind r.aux r.data.length r.data 0 with op := e.op }
          (s.access w (if e.dd.op = 2 then .A else .W)).1
        | _ => s
      s.moverPoint t m e

/-- DMA_REQUEST_ISSUE (R140). DESIGN CHOICE: log entry 30. -/
def execDmaRequestIssue (t : Fin 144) (m : Fin 4) (write : Bool) (s : State) : Out :=
  .next (
    let x := s.tile t.val
    match x.issuing m.val with
    | none => s
    | some e =>
      let begun := e.row != 0 || e.off != 0
      if x.aborting || (!begun && !x.dbg.mayBegin) || e.dd.op = 3 then s
      else if write then s.moverWrite t.val m.val e
      else s.moverRead t.val m.val e)

/-- DMA_SIGNAL (R133): with every earlier descriptor of the mover complete, the checks of R204 on a local DST, the access
check, then the increment; a remote one is posted. -/
def execDmaSignal (t : Fin 144) (m : Fin 4) (s : State) : Out :=
  .next (
    let x := s.tile t.val
    match x.mover m.val with
    | e :: _ =>
      if e.dd.op ≠ 4 ∨ ¬ x.dbg.mayBegin ∨ x.aborting then s
      else
        let a := e.dd.dst.toNat
        let who := Who.mover t.val m.val
        let off := addrOffset a
        let s0 := s
        let s := s.updMover t.val m.val (fun es => es.drop 1)
        let isCtr := decide (0x102_0000_0000 ≤ off ∧ off < 0x102_0010_0000 ∧ off % 16 = 0)
        if addrFormatOk a && s.isLocal a then
          if !isCtr then s.refuseAs 0x04 SYN_KIND 1 who x.ctx a
          else match s.checkAccess t.val x.ctx .A a 8 with
            | .error (c, tg) => s.refuse who x.ctx c tg a
            | .ok g =>
              let (s1, here) := s0.enter who g.cls a 1
              if !here then s1
              else ((s1.updMover t.val m.val (fun es => es.drop 1)).incNow ((off - 0x102_0000_0000) / 16) e.dd.src.toNat none (who.waiter 0) (some x.ctx)).1.syncSettle
        else
          let data := clean (leBytes 4 e.dd.src.toNat ++ [0, 0, 0])
          (s.access { newReq who x.ctx .ctrInc a 8 data 0 with op := e.op } .A).1
    | [] => s)

/-- How the status word of a row operation names the mover that handed it over. -/
def ropMoverKey (t m : Nat) : Nat := 4 * t + m + 1

/-- Whether the status word of a row operation of a mover's descriptor is still to be written at its home (R132). -/
def State.ropStatusOut (s : State) (t m op : Nat) : Bool :=
  s.reqs.any (fun r => (match r.who with | .rop _ => true | _ => false) && r.aux == ropMoverKey t m && r.op == op)

/-- A descriptor is complete: all its requests issued, and none of them outstanding. DEDUCED: log entry 33. -/
def State.dmaComplete (s : State) (t m : Nat) (e : DmaEnt) : Bool :=
  e.issued && e.rops == 0 && (s.moverReqs t m e.op).isEmpty && !s.ropStatusOut t m e.op

/-- DMA_DONE (R132): TAG_DST is released. DEDUCED: log entry 33. -/
def execDmaDone (t : Fin 144) (m : Fin 4) (s : State) : Out :=
  .next (
    match ((s.tile t.val).mover m.val).find? (fun e => s.dmaComplete t.val m.val e) with
    | none => s
    | some e =>
      (((s.updMover t.val m.val (fun es => es.filter (fun x => x.op != e.op))).release t.val e.op .srcRead).release
        t.val e.op .dstDone).traceTile t.val 0x05 (leBytes 8 (e.dd.words.getD 0 0).toNat ++ leBytes 1 m.val))

end Sys2Proof.Machine
end

