-- ==== Sys2Proof/Machine/Retire.lean ====
section
/-! DEFINITION. Retirement of tiles in service and the logical mapping (R16, R17, R216, R219, R224, R400, R484), the end of a
task on its tiles, the states of partitions (R192). -/

namespace Sys2Proof.Machine

/-- The tiles of a sector. -/
def sectorTiles (n : Nat) : List Nat := (List.range 18).map (fun k => n * 18 + k)

/-- The logical id that R16 gives each active tile of a sector. -/
def State.logicalTarget (s : State) (n : Nat) : List (Nat × Nat) :=
  let act := (sectorTiles n).filter (fun t => (s.tile t).role == 0)
  List.zipWith (fun i t => (n * 16 + i, t)) (List.range 16) act

/-- A tile whose role changes takes a new epoch (R17). DEDUCED: log entry 148. -/
def Tile.newRole (x : Tile) (role logical : Nat) : Tile :=
  { x with role := role, logical := logical, epoch := (x.epoch + 1) % 65536 }

/-- One logical id moves to the tile that R16 gives it, where no task is placed on either tile (R17). DEDUCED: log entry 148. -/
def State.remapOne (s : State) (n : Nat) (e : Nat × Nat) : State :=
  let cur := (sectorTiles n).find? (fun t => (s.tile t).logical == e.1)
  let busy := fun t => (s.tile t).task.isSome
  let held : Bool := match cur with | some t => busy t | none => false
  if cur = some e.2 ∨ busy e.2 ∨ held then s
  else
    let s := match cur with | some t => s.updTile t (fun x => x.newRole x.role 0xFF) | none => s
    s.updTile e.2 (fun x => x.newRole x.role e.1)

/-- Recompute the logical mapping of a sector; an id that is absent (R16), or whose tile has left the active ones, is given
up. -/
def State.remap (s : State) (n : Nat) : State :=
  let target := s.logicalTarget n
  let s := (sectorTiles n).foldl (fun (s : State) t =>
    let x := s.tile t
    let keeps : Bool := target.any (fun e => e.2 == t) && target.any (fun e => e.1 == x.logical)
    if x.logical != 0xFF && x.task.isNone && !keeps then s.updTile t (fun x => x.newRole x.role 0xFF) else s) s
  target.foldl (fun s e => s.remapOne n e) s

/-- A tile without a task is retired: waits, locks and channels lose it (R216, R219, R224), and the lowest good spare of the
sector joins the active tiles. DEDUCED: log entry 148. -/
def State.retireNow (s : State) (t : Nat) : State :=
  let n := sectorOf t
  let s := s.updTile t (fun x => x.newRole 2 0xFF)
  let s := ((s.producerLost t).loseLocks (fun w => w.tile == some t) false).chanTileLost t
  let act := (sectorTiles n).filter (fun u => (s.tile u).role == 0)
  let s := match (sectorTiles n).find? (fun u => (s.tile u).role == 1 && (s.tile u).causes == 0) with
    | some u =>
      if 16 ≤ act.length then s.remap n
      else
        let s := (s.updTile u (fun x => { x with role := 0 })).remap n
        if (s.tile u).logical = 0xFF then s.updTile u (fun x => x.newRole 0 0xFF) else s
    | none => s.remap n
  s.syncSettle

/-- A tile, active or spare, is to be retired in service (cause bit 15): at once where it has no task, else when its task has
left it. -/
def State.retireTile (s : State) (t : Nat) : State :=
  let x := s.tile t
  if x.role = 2 then s
  else
    let s := s.setTile t { x with causes := x.causes ||| 0x80 }
    if x.task.isNone then s.retireNow t else s

/-- A tile is retired at once: its task aborts with TILE_LOST (R195, R400). -/
def State.loseTile (s : State) (t : Nat) : State := (s.abortTask t 0x13).retireTile t

/-- A tile's task has left it: a retirement that waited happens, and logical ids that waited move. -/
def State.tileFreed (s : State) (t : Nat) : State :=
  let x := s.tile t
  if x.role = 0 ∧ x.causes ≠ 0 then s.retireNow t else s.remap (sectorOf t)

/-- A task reaches a final state on one of its tiles: locks lost, channels and streams left, the tile free (R219, R221,
R262). -/
def State.taskLeaves (s : State) (t : Nat) (done : Bool) : State :=
  let s := s.withdrawWaits t
  let s := s.loseLocks (fun w => w.tile == some t) done
  let s := ((s.leaveAll t).leaveStreams t).syncSettle
  (s.updTile t (fun x => { x with task := none, aborting := false })).tileFreed t

/-- Whether a task of a partition is placed. -/
def State.partBusy (s : State) (p : Nat) : Bool :=
  s.sched.tasks.any (fun k => k.part == p && decide (k.st = .placed))

/-- A paused partition with no placed task is stopped; the objects of its pre-empted tasks are cleared (R192, R226). -/
def State.settlePart (s : State) (p : Nat) : State :=
  let x := s.part p
  if x.state = 1 ∧ ¬ s.partBusy p then
    let s := x.preCtx.foldl (fun s c => s.clearHeld p c false) s
    s.updPart p (fun x => { x with state := 2, preCtx := [] })
  else s

/-- A partition pauses. -/
def State.pausePart (s : State) (p : Nat) : State :=
  (s.updPart p (fun x => if x.state = 0 then { x with state := 1 } else x)).settlePart p

/-- The sectors of a partition, ascending. -/
def State.partSectors (s : State) (p : Nat) : List Nat :=
  (List.range 8).filter (fun n => fld (s.odGet 0x2B20 1) (4 * n) 4 == p)

end Sys2Proof.Machine
end

