-- ==== Sys2Proof/Machine/Tasks.lean ====
section
/-! DEFINITION. Tasks: fetch, checks, placement, completion and abort (R176–R192), and the abort of a tile (R138). -/

namespace Sys2Proof.Machine

/-! Codes of R188. -/
def TD_VERSION : Nat := 0x01
def TD_RESERVED : Nat := 0x02
def TD_FIELD : Nat := 0x03
def TD_CONTEXT : Nat := 0x04
def TD_TILES : Nat := 0x05
def TD_READ : Nat := 0x06
def TD_WAIT_TIMEOUT : Nat := 0x10
def TASK_PREEMPTED : Nat := 0x12
def TASK_RESET : Nat := 0x14

/-! The task descriptor (R180). -/

def tdTiles (ws : List W64) : Nat := fld (wd ws 0) 40 8
def tdAffinity (ws : List W64) : Nat := fld (wd ws 0) 32 8
def tdOneSector (ws : List W64) : Bool := bitOf (wd ws 0) 31
def tdContext (ws : List W64) : Nat := fld (wd ws 0) 48 8
def tdTimeout (ws : List W64) : Nat := fld (wd ws 4) 0 26

/-- The reserved bits of words 0–14. -/
def tdReserved : List W64 :=
  let wait : W64 := 0x7FFF_FFFF_FFFF_0000
  let inc : W64 := 0x7000_0000_0000_0000
  [0x3F00_0000_7FFF_FFFF, 0, 0, 0, 0x0000_0000_FC00_0000, wait, 0, wait, 0, wait, 0, inc, inc, inc, wait]

/-- The sectors of a partition that a task may use, ascending (R183). -/
def State.taskSectors (s : State) (p : Nat) (ws : List W64) : List Nat :=
  (s.partSectors p).filter (fun n => tdAffinity ws == 0 || (tdAffinity ws).testBit n)

/-- The active tiles of a sector. -/
def State.activeIn (s : State) (n : Nat) : Nat := ((sectorTiles n).filter (fun t => (s.tile t).role == 0)).length

/-- Whether the sectors' tiles can ever hold the task (R181). -/
def State.tilesEnough (s : State) (p : Nat) (ws : List W64) : Bool :=
  let ns := (s.taskSectors p ws).map s.activeIn
  if tdOneSector ws then ns.any (fun n => decide (tdTiles ws ≤ n)) else decide (tdTiles ws ≤ ns.sum)

/-- The checks of R181: the code of the first that fails. -/
def State.tdCheck (s : State) (p : Nat) (ws : List W64) : Option Nat :=
  let incs := [wd ws 11, wd ws 12, wd ws 13]
  if fld (wd ws 0) 62 2 ≠ 0 then some TD_VERSION
  else if anyMasked ws tdReserved then some TD_RESERVED
  else if !(decide (1 ≤ tdTiles ws ∧ tdTiles ws ≤ 128) && (!tdOneSector ws || decide (tdTiles ws ≤ 16)) &&
      decide (1 ≤ tdTimeout ws ∧ tdTimeout ws ≤ 60000000) && decide (fld (wd ws 1) 0 2 = 0) &&
      incs.all (fun w => !bitOf w 63 || decide (fld w 0 32 ≠ 0))) then some TD_FIELD
  else if !(decide (tdContext ws ≤ 15) && bitOf (s.odGet (0x2B00 + p) 5) (tdContext ws)) then some TD_CONTEXT
  else if !s.tilesEnough p ws then some TD_TILES
  else none

/-! Final states. -/

/-- The operation number of the scheduler's accesses for a task. -/
def taskOp (p seq : Nat) : Nat := p * 2 ^ 32 + seq

/-- The scheduler writes TD_STATUS (R180, R186). DEDUCED: log entry 45. -/
def State.writeStatus (s : State) (k : Task) (st code : Nat) : State :=
  let v := place k.seq 32 32 ||| place code 16 8 ||| place k.tiles.length 8 8 ||| place st 0 3
  let s := s.trace srcSched 0x09 0 (some k.ctx) (leBytes 8 k.seq ++ leBytes 8 v.toNat)
  let a := (s.globalOf (k.slot + 120)).toNat
  (s.access { newReq .devSched 0 .store a 8 (clean (leBytes 8 v.toNat)) 0 with op := taskOp k.part k.seq } .W).1

/-- The release counter advances past every final task that has no predecessor left (R178). -/
def State.advanceRel : Nat → State → Nat → State
  | 0, s, _ => s
  | f + 1, s, p =>
    let x := s.part p
    if x.finals.contains x.rel then
      let s := s.setPart p { x with rel := x.rel + 1, finals := without x.finals x.rel }
      State.advanceRel f (s.incOwn (s.releaseCtr p) 1) p
    else s

/-- A task has reached its final state. -/
def State.finalise (s : State) (p seq : Nat) : State :=
  let s := (s.dropTask p seq).updPart p (fun x => { x with finals := insertNew x.finals seq })
  (State.advanceRel ((s.part p).finals.length + 1) s p).settlePart p

/-- A task ends ABORTED or REFUSED (R186). A warm reset increments no TD_ABORT counter (R466). -/
def State.endBadly (s : State) (k : Task) (st code : Nat) : State :=
  let s := (s.writeStatus k st code).odInc (0x2B00 + k.part) 9
  let w := wd k.words 14
  let s := if bitOf w 63 && s.bup.warmStep == 0 then s.incOwn (fld w 0 16) 1 else s
  (s.finalise k.part k.seq).syncSettle

/-- A fetched task is REFUSED: an error record of class 0x05. -/
def State.refuseTask (s : State) (k : Task) (code : Nat) : State :=
  (s.endBadly k 7 code).report
    (s.mkRec 0x05 (0x20 + code) 1 0 noUnit noUnit (BitVec.ofNat 32 0x098) (s.globalOf k.slot) (some (k.ctx)) 0)

/-! Fetch. -/

/-- TASK_FETCH (R177): the next descriptor is read, once. -/
def execTaskFetch (p : Fin 8) (s : State) : Out :=
  .next (
    let x := s.part p.val
    let held := s.sched.tasks.filter (fun k => k.part == p.val && (decide (k.st = .fetching) || decide (k.st = .window)))
    if ¬ s.sched.running ∨ s.ctr (s.submitCtr p.val) ≤ x.fetch ∨ 16 ≤ held.length then s
    else
      let slots := s.odNat (0x2B00 + p.val) 2
      let slot := fld (s.odGet (0x2B00 + p.val) 1) 0 44 + (x.fetch % slots) * 128
      let k : Task := { part := p.val, seq := x.fetch, slot := slot, words := [], st := .fetching, ctx := 0, tiles := [],
                        complete := [], quiet := [], abort := none }
      let s := s.setPart p.val { x with fetch := x.fetch + 1 }
      let s := { s with sched := { s.sched with tasks := s.sched.tasks ++ [k] } }
      let r := { newReq .devSched 0 .load (s.globalOf slot).toNat 128 [] 0 with op := taskOp p.val k.seq }
      match s.access r .R with
      | (s, some _) => s
      | (s, none) => s.refuseTask k TD_READ)

/-- The sixteen words of a descriptor. -/
def wordsOf (bs : List PByte) (n : Nat) : List W64 := (List.range n).map (fun i => word64At (vals bs) (8 * i))

/-- TASK_DESCRIPTOR_READ (R181): the descriptor of the oldest task being fetched arrives and is checked. -/
def execTaskDescriptorRead (p : Fin 8) (s : State) : Out :=
  .next (match s.sched.tasks.find? (fun k => k.part == p.val && decide (k.st = .fetching)) with
    | none => s
    | some k =>
      match s.reqs.find? (fun r => r.who == .devSched && r.kind == .load && r.op == taskOp p.val k.seq) with
      | none => s
      | some r =>
        match r.st with
        | .failed _ => (s.dropReq r.id).refuseTask k TD_READ
        | .done =>
          let s := s.dropReq r.id
          if poisoned r.data then s.refuseTask k TD_READ
          else
            let ws := wordsOf r.data 16
            let k := { k with words := ws, ctx := tdContext ws }
            (match s.tdCheck p.val ws with
              | some c => s.refuseTask k c
              | none => s.updTask p.val k.seq (fun _ => { k with st := .window }))
        | _ => s)

/-- SUBMIT_REARM (R179). -/
def execSubmitRearm (p : Fin 8) (s : State) : Out := .next (s.updPart p.val (fun x => { x with armed := true }))

/-- TD_WAIT_TIMEOUT (R185): the object is the lowest-numbered condition that does not hold. -/
def execTdWaitTimeout (p : Fin 8) (seq : Nat) (s : State) : Out :=
  .next (match s.taskOf p.val seq with
    | none => s
    | some k =>
      if k.st ≠ .window then s
      else
        let obj := match (tdWaits k.words).find? (fun w => decide (s.ctr w.1 < w.2)) with
          | some w => objId .ctr w.1
          | none => noUnit
        (s.endBadly k 6 TD_WAIT_TIMEOUT).report
          (s.mkRec 0x05 0x30 1 0 noUnit obj (BitVec.ofNat 32 0x098) (s.globalOf k.slot) (some k.ctx) 0))

/-! Placement (R182–R184, R191). -/

/-- A task is eligible when every valid condition holds. -/
def State.eligible (s : State) (k : Task) : Bool := (tdWaits k.words).all (fun w => decide (w.2 ≤ s.ctr w.1))

/-- The handshake rate of a tile, as placement compares it. -/
def Tile.norm (x : Tile) : Nat := fld x.rate 32 16

/-- A tile that placement may take. -/
def State.tileFree (s : State) (t : Nat) : Bool :=
  let x := s.tile t
  x.role == 0 && x.causes == 0 && x.task.isNone && x.logical != 0xFF && !x.storing && decide (s.odNat 0x2310 1 ≤ x.norm)

/-- A tile inserted into a list ordered by falling rate, then by logical id. DEDUCED: log entry 43. -/
def State.rateInsert (s : State) (byRate : Bool) (t : Nat) : List Nat → List Nat
  | [] => [t]
  | u :: us =>
    let a := s.tile t
    let b := s.tile u
    if (byRate && decide (b.norm < a.norm)) || ((!byRate || a.norm == b.norm) && decide (a.logical < b.logical)) then t :: u :: us
    else u :: State.rateInsert s byRate t us

/-- The free tiles of a sector in the order in which its scheduler chooses them (R183 step 4). DEDUCED: log entry 43. -/
def State.freeTiles (s : State) (n : Nat) : List Nat :=
  ((sectorTiles n).filter s.tileFree).foldl (fun l t => s.rateInsert (s.odGet 0x2B20 3 == 1) t l) []

/-- The tiles of a task, where it can be placed now (R183). DEDUCED: log entry 43. -/
def State.choose128 (s : State) (p : Nat) (ws : List W64) : Option (List Nat) :=
  let ns := (s.taskSectors p ws).filter (fun n => !(s.thm.withdrawn.contains n))
  let want := tdTiles ws
  if tdOneSector ws then
    match ns.find? (fun n => decide (want ≤ (s.freeTiles n).length)) with
    | some n => some ((s.freeTiles n).take want)
    | none => none
  else
    let all := ns.flatMap s.freeTiles
    if want ≤ all.length then some (all.take want) else none

/-- The Face regions of a sector (R406): Lower n, Upper 8 + n. -/
def faceRegions (n : Nat) : List Nat := [n, 8 + n]

/-- The scheduler requests a region that is off (R415, R416). -/
def State.requestRegion (s : State) (r : Nat) : State :=
  if (s.region r).state ≠ 0 then s
  else
    let s := s.updRegion r (fun x => { x with state := 1 })
    { s with pwr := { s.pwr with switches := s.pwr.switches ++ [{ region := r, defer := 0 }] } }

/-- A control core starts (R118, R184). -/
def State.startTile (s : State) (k : Task) (order : List Nat) (t : Nat) : State :=
  let x := s.tile t
  let idx := (order.findIdx? (fun u => u == t)).getD 0
  let n := BitVec.ofNat 64
  let g : SMap W64 := [(1, wd k.words 2), (2, wd k.words 3), (3, n idx), (4, n (tdTiles k.words)), (5, n k.seq), (6, n k.part)]
  let core := { Core.init with g := g, pc := wd k.words 1, st := 1, fault := x.core.fault, faultPc := x.core.faultPc,
                               timeout := s.odNat 0x2C00 1 }
  let s := { s with reqs := s.reqs.filter (fun r => !(r.direct && r.who.tile == some t)) }
  s.setTile t { x with task := some (k.part, k.seq), ctx := k.ctx, index := idx, passNo := 0, aborting := false, core := core, sb := [],
                       movers := [], arr := { x.arr with stat := none, lastKeep := none },
                       dbg := { x.dbg with state := 0, step := 0 } }

/-- The tiles of a task by ascending logical id. -/
def State.byLogical (s : State) (ts : List Nat) : List Nat := ts.foldl (fun l t => s.rateInsert false t l) []

/-- The context switch of R191 and R225, where the task's context is not the running one. -/
def State.switchCtx (s : State) (p ctx : Nat) : State :=
  let old := (s.part p).ctx
  if old = ctx then s
  else ((s.clearHeld p old true).updPart p (fun x => { x with ctx := ctx })).clearHeld p ctx true

/-- TASK_PLACE: the first eligible task of the partition, on all its tiles at once; it holds back every later one.
DESIGN CHOICE: log entry 44. -/
def execTaskPlace (p : Fin 8) (s : State) : Out :=
  .next (
    let x := s.part p.val
    if x.state ≠ 0 ∨ ¬ s.sched.running ∨ s.pwr.standby ∨ s.pwr.changing then s
    else match s.sched.tasks.find? (fun k => k.part == p.val && decide (k.st = .window) && s.eligible k) with
      | none => s
      | some k =>
        if x.ctx ≠ k.ctx ∧ s.partBusy p.val then s
        else match s.choose128 p.val k.words with
          | none => s
          | some ts =>
            let rs := ts.flatMap (fun t => faceRegions (sectorOf t))
            if rs.any (fun r => (s.region r).state != 3) then
              (if s.sched.retry.contains p.val then s else rs.foldl State.requestRegion s)
            else
              let order := s.byLogical ts
              let s := s.switchCtx p.val k.ctx
              let s := order.foldl (fun s t => s.startTile k order t) s
              let s := s.trace srcSched 0x08 0 (some k.ctx) (leBytes 8 k.seq)
              (s.updTask p.val k.seq (fun k => { k with st := .placed, tiles := order })).syncSettle)

/-! Completion (R122, R186, R187). -/

/-- TILE_COMPLETE: a tile's share is complete; with the last one the task is DONE and TD_STATUS is written. -/
def execTileComplete (t : Fin 144) (s : State) : Out :=
  .next (
    let x := s.tile t.val
    match x.task with
    | none => s
    | some (p, n) =>
      match s.taskOf p n with
      | none => s
      | some k =>
        if ¬ x.core.ended ∨ ¬ x.queuesEmpty ∨ ¬ x.sb.isEmpty ∨ s.tileReqs t.val ∨ k.abort.isSome ∨ k.st ≠ .placed ∨
            t.val ∈ k.complete then s
        else
          let k := { k with complete := k.complete ++ [t.val] }
          let s := s.updTask p n (fun _ => k)
          if k.complete.length < k.tiles.length then s
          else
            let s := s.updTask p n (fun k => { k with st := .done })
            let s := k.tiles.foldl (fun s u => s.taskLeaves u true) s
            ((s.writeStatus k 5 0).odInc (0x2B00 + p) 8).settlePart p |>.syncSettle)

/-- One completion increment (R186, R187): a local one once, a remote one as a part of each tile. -/
def State.applyInc (s : State) (k : Task) (w : W64) : State :=
  if !bitOf w 63 then s
  else
    let dev := fld w 48 12 * 2 ^ 44
    let n := fld w 32 16
    let amount := fld w 0 32
    if s.isLocal dev then s.incOwn n amount
    else k.tiles.foldl (fun s t =>
      (s.access (newReq (.master t) k.ctx .ctrInc (dev + 0x102_0000_0000 + n * 16) 8
        (clean (leBytes 4 amount ++ [0, 0, 0])) 0) .A).1) s

/-- TD_INC_APPLY: once TD_STATUS has been performed, the increments in order, then the release counter. DEDUCED: log entry 45. -/
def execTdIncApply (p : Fin 8) (seq : Nat) (s : State) : Out :=
  .next (match s.taskOf p.val seq with
    | none => s
    | some k =>
      if k.st ≠ .done ∨ s.reqs.any (fun r => r.who == .devSched && r.op == taskOp p.val seq) then s
      else
        let s := [11, 12, 13].foldl (fun s i => s.applyInc k (wd k.words i)) s
        (s.finalise p.val seq).syncSettle)

/-! Abort of a tile (R78, R138, R173, R189). -/

/-- A pass of an aborted task: its admitted rows complete. -/
def Pass.stop (p : Pass) : Pass := { p with cut := true }

/-- The array of an aborting tile: admitted rows complete, queued descriptors are discarded, the weights are invalid. An array
that is stuck writes no results any more. -/
def Arr.stop (a : Arr) : Arr :=
  let ps := if a.stuck then [] else (a.passes.filter (fun p => decide (0 < p.rowsIn))).map Pass.stop
  Arr.dropWeights { a with passes := ps }

/-- The engine of an aborting tile: groups stop, caches are invalidated without write-back. -/
def Tge.stop (g : Tge) : Tge :=
  { g with kq := [], kern := none, slots := [], l0 := [], l1 := [], rc := [], turn := [], gmx := [] }

/-- TILE_ABORT. A tile halted for debug records the loss of its halt (R503). DEDUCED: log entry 150. -/
def execTileAbort (t : Fin 144) (s : State) : Out :=
  .next (
    let x := s.tile t.val
    match x.task with
    | none => s
    | some (p, n) =>
      match s.taskOf p n with
      | none => s
      | some k =>
        if x.aborting ∨ k.abort.isNone then s
        else
          let s := if x.dbg.state ≠ 0 then
              s.report (s.mkRec 0x13 0x03 0 1 (BitVec.ofNat 32 t.val) noUnit noUnit x.core.pc (some x.ctx) 0) else s
          let st := if x.core.st = 5 then 5 else 0
          let s := s.dumpAbort t.val
          let x := s.tile t.val
          let s := s.setTile t.val { x with
            aborting := true, arr := x.arr.stop, movers := [], tge := x.tge.stop,
            core := { x.core with st := st, issue := none, wait := none },
            dbg := { x.dbg with state := 0, step := 0 } }
          let s := s.updArr t.val (fun a => a.riddlePoint (s.riddle t.val))
          ((s.withdrawWaits t.val).chanTileLost t.val).syncSettle)

/-- A load that has ended, or a read of registers, which ends at once. -/
def Req.ended (r : Req) : Bool :=
  r.kind == .load && (match r.st with | .done => true | .failed _ => true | _ => false)

/-- Reads of registers by a tile's units are performed. -/
def State.performRegs (s : State) (t : Nat) : State :=
  (s.reqs.filter (fun r => r.who.tile == some t && s.regRead r && r.st == .sent)).foldl (fun s r => s.performReg r.id) s

/-- Row operations of a tile's movers that are still in a bank. -/
def State.tileRops (s : State) (t : Nat) : Bool :=
  s.bed.banks.any (fun b => b.2.queue.any (fun e => match e.mover with | some (u, _, _) => u == t | none => false))

/-- TILE_QUIET: an aborting tile with nothing outstanding; with the last one the task is ABORTED. -/
def execTileQuiet (t : Fin 144) (s : State) : Out :=
  .next (
    match (s.tile t.val).task with
    | none => s
    | some (p, n) =>
      let s' := s.performRegs t.val
      let open_ := s'.reqs.any (fun r => r.who.tile == some t.val && !r.ended)
      match s.taskOf p n, (s.tile t.val).aborting with
      | some k, true =>
        let x := s'.tile t.val
        if (¬ x.arr.passes.isEmpty ∧ ¬ x.arr.stuck) ∨ open_ ∨ s'.tileRops t.val ∨ t.val ∈ k.quiet then s
        else
          let s := { s' with reqs := s'.reqs.filter (fun r => r.who.tile != some t.val) }
          let s := s.updTile t.val (fun x => { x with sb := [], arr := if x.arr.stuck then { x.arr with passes := [] } else x.arr })
          let k := { k with quiet := k.quiet ++ [t.val] }
          let s := s.updTask p n (fun _ => k)
          if k.quiet.length < k.tiles.length then s
          else
            let s := k.tiles.foldl (fun s u => s.taskLeaves u false) s
            s.endBadly k 6 (k.abort.getD codeTaskFault)
      | _, _ => s)

end Sys2Proof.Machine
end

