-- ==== Sys2Proof/Machine/PartCmd.lean ====
section
/-! DEFINITION. What the commands and lists of partitions do (R191–R196, R202, R226). -/

namespace Sys2Proof.Machine

/-- PAUSE (R193). -/
def State.partPause (s : State) (p : Nat) : State := s.pausePart p

/-- RESUME (R193). -/
def State.partResume (s : State) (p : Nat) : State := s.updPart p (fun x => { x with state := 0 })

/-- Waits of units outside a pre-empted task on the objects that it holds end with PREEMPTED (R226). -/
def State.endPreempted (s : State) (k : Task) : State :=
  let held := s.heldObjs k.part k.ctx
  let inside := fun (w : Who) => match w.tile with | some t => (s.tile t).task == some (k.part, k.seq) | none => false
  s.endWaits (fun w => !w.held && held.contains (w.kind, w.num) && !inside w.who) PREEMPTED

/-- PREEMPT (R193): the partition pauses, and every placed task that has not reached completion aborts. -/
def State.partPreempt (s : State) (p : Nat) : State :=
  let s := s.pausePart p
  let ks := s.sched.tasks.filter (fun k => k.part == p && decide (k.st = .placed) && k.abort.isNone)
  let s := ks.foldl (fun s k =>
    ((s.abortTaskOf p k.seq TASK_PREEMPTED).updPart p (fun x => { x with preCtx := insertNew x.preCtx k.ctx })).endPreempted k) s
  s.syncSettle

/-- The command of OD 0x2B0p.07. -/
def State.partCommand (s : State) (p v : Nat) : State :=
  if v = 1 then s.partPause p else if v = 2 then s.partResume p else if v = 3 then s.partPreempt p else s

/-- A third counter that stands in a pair with one of a new list's counters leaves it and is cleared (R202). -/
def State.dissolvePair (s : State) (c x y : Nat) : State :=
  let a := s.attr .ctr c
  let q := atPartner a
  if (atPair a || atConsumer a) && q != x && q != y then
    (s.setAttr .ctr q (s.attr .ctr q &&& 0xFFFF_3FFF_0000_FFFF)).clearObj .ctr q
  else s

/-- The list of a partition as its objects now stand takes effect (R196, R202): sequence numbering restarts, the tasks fetched
from the old list are discarded, the two counters are paired and cleared. A task that is complete applies its increments
first. -/
def State.newList (s : State) (p : Nat) : State :=
  let done := s.sched.tasks.filter (fun k => k.part == p && decide (k.st = TaskSt.done))
  let s := done.foldl (fun s k => [11, 12, 13].foldl (fun s i => s.applyInc k (wd k.words i)) s) s
  let old := s.sched.tasks.filter (fun k => k.part == p && !decide (k.st = TaskSt.placed))
  let s := { s with reqs := s.reqs.filter (fun r => !(r.who == Who.devSched && r.kind == RKind.load && old.any (fun k => r.op == taskOp p k.seq))),
                    sched := { s.sched with tasks := s.sched.tasks.filter (fun k => k.part != p || decide (k.st = TaskSt.placed)) } }
  let s := s.updPart p (fun x => { x with fetch := 0, rel := 0, finals := [], armed := true })
  let sub := s.submitCtr p
  let rel := s.releaseCtr p
  let s := (s.dissolvePair sub sub rel).dissolvePair rel sub rel
  let s := s.setAttr .ctr rel (s.attr .ctr rel &&& 0xFFFF_3FFF_0000_FFFF)
  let v := placeB true 47 ||| place rel 16 16 ||| place (s.odNat (0x2B00 + p) 2 - 1) 0 16
  let s := s.setAttr .ctr sub (s.attr .ctr sub &&& 0xFFFF_3FFF_0000_FFFF)
  ((s.clearObj .ctr rel).writeAttr .ctr sub v).syncSettle

/-- A write of a task-list object, subindex 1–4 of index 0x2B0p (R196). -/
def State.taskListObj (s : State) (p sub : Nat) (v : W64) : State := (s.odSet (0x2B00 + p) sub v).newList p

end Sys2Proof.Machine
end

