-- ==== Sys2Proof/Machine/Bundle.lean ====
section
/-! DEFINITION. Layer oscillators' marks, the handshake-rate monitor, vertical bundles (R389–R400). -/

namespace Sys2Proof.Machine

/-! Refusal of a request that stands at a home (R47, R331, R349). -/

/-- A request is refused after it was issued: the record of its target, and an answer to a source beyond a link or the failure of
the unit's load. DESIGN CHOICE: log entry 97. -/
def State.refuseReq (s : State) (r : Req) (code : Nat) (target : Option Nat) : State :=
  let s := s.refuse r.who r.ctx code target r.addr
  let st := statusOfRefusal code
  match r.who, r.kind with
  | .fabric _ _, .load => (s.dropReq r.id).respond (s.answerPkt r st [])
  | .fabric _ _, _ => (s.dropReq r.id).statusPkt r.who r.ctx r.addr st
  | .hild, k =>
    let s := (s.dropReq r.id).report
      (s.mkRec 0x0A (0x80 + st) 0 0 noUnit noUnit (Who.hild.waiter 0) (BitVec.ofNat 64 r.op) (some 0) 0)
    if k == .load then s.hildOut (s.answerPkt r st []) else s.statusPkt r.who r.ctx r.op st
  | _, .load => s.updReq r.id (fun x => { x with st := .failed code })
  | _, _ => s.dropReq r.id

/-- Class detail whose contents a rule names without giving them a layout: a free value. DESIGN CHOICE: log entry 97. -/
def State.freshDetail (s : State) : BitVec 208 × State :=
  let (a, s) := s.fresh
  let (b, s) := s.fresh
  let (c, s) := s.fresh
  let (d, s) := s.fresh
  (BitVec.ofNat 208 (a.toNat + b.toNat * 2 ^ 64 + c.toNat * 2 ^ 128 + d.toNat % 2 ^ 16 * 2 ^ 192), s)

/-! Marks (R389). -/

/-- MARK: once the Bedrock counter has reached the next multiple of 65,536, the mark is sent; the Face counts latch at the
lowest-numbered active tile. DEDUCED: log entry 94. -/
def execMark (s : State) : Out :=
  .next (
    if s.bedLosc < (s.marks + 1) * 65536 then s
    else
      let s := { s with marks := (s.marks + 1) % 2 ^ 64 }
      let s := if s.activeTiles.isEmpty then s else { s with markLf := s.lfLosc, markUf := s.ufLosc }
      let rec_ := fun (s : State) src layer count => s.trace src 0x01 layer none (leBytes 8 s.marks ++ leBytes 8 count)
      s.activeTiles.foldl (fun s t => rec_ (rec_ s (srcTile t) 1 s.lfLosc) (srcArray t) 2 s.ufLosc) (rec_ s (srcSlice 0) 0 s.bedLosc))

/-! The handshake-rate monitor (R398–R400). -/

/-- The trend after a sample; where the step of the trend is no whole number of MHz, its rounding is a free choice.
DEDUCED: log entry 95. -/
def State.trendNext (s : State) (trend norm : Nat) : Nat × State :=
  let k := 2 ^ s.odNat 0x2310 4
  let d : Int := (norm : Int) - trend
  if trend = 0 then (norm, s)
  else if d.emod k = 0 then ((trend + d / k).toNat, s)
  else let (c, s) := s.choose 2; ((trend + d.fdiv k + c).toNat, s)

/-- RATE_SAMPLE: `rate` is the new value of TILE_RATE. Firmware samples active tiles, and every tile that is not retired in
bring-up stage 4. DEDUCED: log entry 95. -/
def execRateSample (t : Fin 144) (rate : W64) (s : State) : Out :=
  .next (
    let x := s.tile t.val
    if !(x.role == 0 || (x.role == 1 && s.bup.stage == 4)) then s
    else
      let norm := fld rate 32 16
      let (trend, s) := s.trendNext x.trend norm
      let s := s.setTile t.val { x with
        rate := rate, trend := trend, baseline := if x.baseline = 0 then norm else x.baseline,
        lifeMin := if x.lifeMin = 0 ∨ norm < x.lifeMin then norm else x.lifeMin }
      let rec_ := fun (s : State) code =>
        s.report (s.mkRec 0x0F code 2 1 (BitVec.ofNat 32 t.val) noUnit noUnit 0 none 0)
      let low := decide (fld rate 48 8 < s.odNat 0x2310 2 ∨ fld rate 56 8 < s.odNat 0x2310 2)
      let s := if decide (trend < s.odNat 0x2310 1) && x.role == 0 && x.causes == 0 then ((rec_ s 0x06).listTile t.val).retireTile t.val else s
      if low && x.role == 0 then ((rec_ s 0x07).listTile t.val).loseTile t.val else s)

/-! Bundles (R392–R395). -/

/-- Whether a reset in progress reaches a tile. -/
def State.resetReaches (s : State) (t : Nat) : Bool := s.bup.warmStep != 0 || (s.tile t).storing

/-- BURST_CHECK_FAIL (R392): a burst fails its check for the first to fourth time; the fourth starts a lane walk. -/
def execBurstCheckFail (t : Fin 144) (attempt : Fin 4) (s : State) : Out :=
  .next (if attempt.val < 3 ∨ (s.tile t.val).vbWidth = 3 then s else s.updTile t.val (fun x => { x with vbPaused := true }))

/-- Records of repaired lanes. DESIGN CHOICE: log entry 96. -/
def State.laneRepairs (s : State) (t : Nat) : Nat → State
  | 0 => s
  | n + 1 =>
    ((s.odInc 0x2310 5).report (s.mkRec 0x10 0x01 0 0 (BitVec.ofNat 32 t) noUnit noUnit 0 none 0)).laneRepairs t n

/-- The bundle of a tile is lost (R394). Which of the tile's requests had crossed is a free choice for each.
DESIGN CHOICE: log entry 97. -/
def State.loseBundle (s : State) (t : Nat) : State :=
  let s := s.updTile t (fun x => { x with vbWidth := 3, vbPaused := false })
  let own := s.reqs.filter (fun r => r.who.tile == some t && r.st == .sent && r.adm == 0)
  let s := own.foldl (fun s r => let (c, s) := s.choose 2; if c = 0 then s.dropReq r.id else s) s
  let store := s.reqs.filter (fun r => r.who.tile != some t && r.st == .sent && s.isLocal r.addr &&
    regionOf (addrOffset r.addr) == some .store && decide ((addrOffset r.addr - 0x101_0000_0000) / 0x80_0000 = t))
  let s := store.foldl (fun s r => s.refuseReq r ADDR_UNBACKED (some (sectorOf t))) s
  let (d, s) := s.freshDetail
  let s := (s.odInc 0x2310 7).report (s.mkRec 0x10 0x03 1 0 (BitVec.ofNat 32 t) noUnit noUnit 0 (s.tileCtx t) d)
  s.loseTile t

/-- LANE_WALK_COMPLETE (R392, R393): the walk has found that many more failed data lanes in each half; a reset of the tile is
completed before (R395). DESIGN CHOICE: log entry 96. -/
def execLaneWalkComplete (t : Fin 144) (half0 half1 : Fin 2049) (s : State) : Out :=
  .next (
    let x := s.tile t.val
    if !x.vbPaused || x.vbWidth == 3 || x.storing then s
    else
      let b0 := min 2048 (x.vbBad0 + half0.val)
      let b1 := min 2048 (x.vbBad1 + half1.val)
      let new := (b0 - x.vbBad0) + (b1 - x.vbBad1)
      let s := s.setTile t.val { x with vbBad0 := b0, vbBad1 := b1, vbPaused := false }
      if x.vbWidth = 0 ∧ x.vbSpares + new ≤ 128 then
        (s.updTile t.val (fun x => { x with vbSpares := x.vbSpares + new })).laneRepairs t.val new
      else
        let good := if x.vbWidth = 0 then (if b1 < b0 then 1 else 0) else x.vbWidth - 1
        let bad := if good = 0 then b0 else b1
        let fixed := if good = 0 then b0 - x.vbBad0 else b1 - x.vbBad1
        if 128 < bad then s.loseBundle t.val
        else
          let s := (s.updTile t.val (fun x => { x with vbWidth := 1 + good, vbSpares := bad })).laneRepairs t.val fixed
          if x.vbWidth = 0 then s.report (s.mkRec 0x10 0x02 2 0 (BitVec.ofNat 32 t.val) noUnit noUnit 0 (s.tileCtx t.val) 0) else s)

/-- CONTROL_LANE_TIMEOUT (R394). -/
def execControlLaneTimeout (t : Fin 144) (s : State) : Out :=
  .next (if (s.tile t.val).vbWidth = 3 then s else s.loseBundle t.val)

end Sys2Proof.Machine
end

