-- ==== Sys2Proof/Machine/PowerOff.lean ====
section
/-! DEFINITION. What a reset of a tile clears (R459, R463, R464), what a region takes with it when it is switched off, and
what the device loses with the module converter (R405). -/

namespace Sys2Proof.Machine

/-- The debug registers after a reset: the always-on counters and HALTS are kept (R499, R506). -/
def Dbg.cleared (d : Dbg) : Dbg :=
  { Dbg.init with halts := d.halts, busy := d.busy, array := d.array, stall := d.stall, corrected := d.corrected,
                  uncorrected := d.uncorrected }

/-- What the counters of the tile's array have counted since cold reset, a reset of the array being about to clear them. -/
def Tile.keptCounts (x : Tile) : SMap Nat :=
  [2, 3, 4, 0x0A].foldl (fun m k => if x.arr.count k = 0 then m else SMap.upd 0 m k (fun n => n + x.arr.count k)) x.kept

/-- The units of a tile as a reset leaves them. The blocks of a stuck array stay held disabled until the region is switched
off (R414). DESIGN CHOICE: log entry 102. -/
def Tile.unitsReset (x : Tile) (off : Bool) : Tile :=
  { x with core := Core.init, sb := [], movers := [], tge := Tge.init, dbg := x.dbg.cleared, kept := x.keptCounts,
           arr := { Arr.init with stuck := x.arr.stuck && !off } }

/-- Counters, locks and barrier channels lose a tile (R463). DESIGN CHOICE: log entry 102. -/
def State.tileLost (s : State) (t : Nat) : State :=
  ((s.producerLost t).loseLocks (fun w => w.tile == some t) false).chanTileLost t

/-- A tile reset (R463, R464): `off` where the tile's Face regions are switched off. The store is swept before the tile can be
placed again; where the region is off, the sweep follows its switch-on. -/
def State.resetTile (s : State) (t : Nat) (off : Bool) : State :=
  let s := (((s.dumpAbort t).tileLost t).withdrawWaits t).leaveStreams t
  let s := { s with reqs := s.reqs.filter (fun r => r.who.tile != some t) }
  let s := if off then { s with mem := { s.mem with stores := SMap.drop s.mem.stores t } } else s
  s.updTile t (fun x => { x.unitsReset off with task := none, ctx := 0, index := 0, aborting := false, storing := !off })

/-! Regions (R406). -/

/-- The sensor group that a Face region's sensors belong to (R420, R422): Upper Face 8 + n is group n, Lower Face n group
8 + n. -/
def regionGroup (r : Nat) : Nat := if r < 8 then 8 + r else r - 8

/-- A sensor group without samples: suspect and exclusion marks stay until cold reset (R421, R425). -/
def ThGroup.emptied (g : ThGroup) : ThGroup := { ThGroup.init with excluded := g.excluded, suspect := g.suspect }

def State.emptyGroup (s : State) (g : Nat) : State :=
  { s with thm := { s.thm with groups := SMap.put s.thm.groups g (s.thGroup g).emptied } }

/-- A region goes off; a region whose rail is lost stays so. -/
def State.regionOff (s : State) (r : Nat) : State :=
  let s := s.updRegion r (fun x => { x with state := if x.state = 4 then 4 else 0, volt := 0, current := 0, holdWait := false })
  let s := { s with pwr := { s.pwr with switches := s.pwr.switches.filter (fun w => w.region != r) } }
  if r < 16 then s.emptyGroup (regionGroup r) else s

/-- Both Face regions of a sector are switched off: a tile reset of every tile of the sector (R464). -/
def State.faceOff (s : State) (n : Nat) : State :=
  let on := (faceRegions n).any (fun r => (s.region r).state != 0 && (s.region r).state != 4)
  let s := (faceRegions n).foldl State.regionOff s
  if on then (sectorTiles n).foldl (fun s t => s.resetTile t true) s else s

/-! The module converter (R405). -/

/-- A link whose SerDes have lost power. -/
def Link.unpowered (l : Link) : Link :=
  { Link.init with enable := l.enable, serial := l.serial, known := l.known, state := if l.enable then 1 else 0,
                   tx := l.tx, rx := l.rx, fec := l.fec, bad := l.bad, replays := l.replays, downs := l.downs }

/-- A stack whose contents are lost: what its repair list and fences say is kept. -/
def Stack.unpowered (k : Stack) : Stack :=
  { Stack.init with good := k.good, fenced := k.fenced, repair := k.repair, overflow := k.overflow }

/-- The module converter is switched off: compute, Bedrock and HBM lose power and their contents; the management island goes
on. DEDUCED: log entry 103. -/
def State.converterOff (s : State) : State :=
  let s := match s.trc.dump with | some d => s.dumpAbort d.tile | none => s
  let regions := (List.range 25).foldl State.regionOff s
  { regions with
    tiles := s.tiles.map (fun e => (e.1, { e.2.unitsReset true with task := none, ctx := 0, index := 0, aborting := false, storing := false })),
    mem := Mems.init, reqs := [], resp := [], sync := Sync.init, sched := Sched.init, ports := [],
    bed := { Bed.init with nb := s.bed.nb, stackTab := s.bed.stackTab.map (fun e => (e.1, e.2.unpowered)) },
    fab := { Fab.init with links := s.fab.links.map (fun e => (e.1, e.2.unpowered)) },
    hild := Hild.init,
    pwr := { regions.pwr with converter := false, switches := [], inputThrottle := false, limitThrottle := false, limiting := false,
                              excess := false, under95 := false, high := 0, changing := false },
    trc := { s.trc with dump := none, reading := false } }

end Sys2Proof.Machine
end

