-- ==== Sys2Proof/Machine/Power.lean ====
section
/-! DEFINITION. Power delivery: inputs, rails, targets, switching regions on and off, power states (R403–R419). -/

namespace Sys2Proof.Machine

/-! Rails and regions (R406, R407). -/

def State.updPwr (s : State) (f : Pwr → Pwr) : State := { s with pwr := f s.pwr }
def State.rail (s : State) (k : Nat) : Rail := SMap.get Rail.init s.pwr.rails k
def State.setRail (s : State) (k : Nat) (x : Rail) : State := s.updPwr (fun p => { p with rails := SMap.put p.rails k x })

/-- Profile F is in force. -/
def State.profF (s : State) : Bool := s.odGet 0x2000 1 == 1

/-- The rail of a region in Profile F. -/
def railOf (r : Nat) : Nat := if r < 8 then 4 + r / 2 else if r < 16 then (r - 8) / 2 else if r < 24 then 8 else 9

/-- The regions that a rail feeds in Profile F. -/
def railRegions (k : Nat) : List Nat := (List.range 25).filter (fun r => railOf r == k)

/-- The regions that a rail feeds now: rails 0–9 are one output in Profile L. DEDUCED: log entry 100. -/
def State.feeds (s : State) (k : Nat) : List Nat := if !s.profF && decide (k < 10) then List.range 25 else railRegions k

/-- Phases and current limit, 0.1 A, of a rail (R407). -/
def railPhases (k : Nat) : Nat := [20, 20, 20, 20, 9, 9, 9, 9, 19, 6, 8, 12, 10].getD k 0
def railLimit (k : Nat) : Nat := if k < 4 then 3800 else if k < 8 then 1600 else if k = 8 then 3600 else 900

/-- A degraded rail loses 25 A per lost phase (R409). -/
def Rail.lower (x : Rail) : Nat := if 2 ≤ x.lost then 250 * x.lost else 0

/-- Limit and current, 0.1 A, of the output that feeds a region. -/
def State.outputLimit (s : State) (r : Nat) : Nat :=
  if s.profF then railLimit (railOf r) - (s.rail (railOf r)).lower
  else 17000 - ((List.range 10).map (fun k => (s.rail k).lower)).sum
def State.outputCurrent (s : State) (r : Nat) : Nat :=
  if s.profF then (s.rail (railOf r)).current else ((List.range 10).map (fun k => (s.rail k).current)).sum

/-- A region's share and its soft-start budget, 0.1 A (R406, R416). -/
def regionShare (r : Nat) : Nat := if r < 8 then 800 else 1900
def startBudget (r : Nat) : Nat := if r < 8 then 200 else 584

/-! Target voltages (R407, R411, R428). -/

/-- The key of the target that gives a region its voltage: the region in Profile L, its rail in Profile F. -/
def State.vkey (s : State) (r : Nat) : Nat := if s.profF then 32 + railOf r else r

/-- The keys of the profile in force. DESIGN CHOICE: log entry 99. -/
def State.vkeys (s : State) : List Nat := if s.profF then (List.range 10).map (fun k => 32 + k) else List.range 25

/-- The lower end of the range of a target, mV. -/
def vfloor (key : Nat) : Nat := if (16 ≤ key ∧ key < 25) ∨ key = 40 ∨ key = 41 then 720 else 680

/-- Keys whose targets power and thermal throttling move: Face regions and Face rails. -/
def faceKey (key : Nat) : Bool := decide (key < 16) || decide (32 ≤ key ∧ key < 40)

def Pwr.baseV (p : Pwr) (key : Nat) : Nat := SMap.get 0 p.base key
def Pwr.limitV (p : Pwr) (key : Nat) : Nat := SMap.get (p.baseV key) p.limit key
def Pwr.thermV (p : Pwr) (key : Nat) : Nat := SMap.get (p.baseV key) p.therm key
def Pwr.target (p : Pwr) (key : Nat) : Nat := min (p.limitV key) (p.thermV key)

/-- The voltage of a region that is on, mV. -/
def State.regionVolt (s : State) (r : Nat) : Nat := s.pwr.target (s.vkey r)

/-- The targets that firmware chooses for a profile: free within the range of R407. DESIGN CHOICE: log entry 99. -/
def State.newTargets (s : State) : State :=
  let s := s.updPwr (fun p => { p with base := [], limit := [], therm := [] })
  s.vkeys.foldl (fun s key =>
    let (c, s) := s.choose (821 - vfloor key)
    s.updPwr (fun p => { p with base := SMap.put p.base key (vfloor key + c) })) s

/-- The voltages of the regions that are on follow their targets. -/
def State.syncVolts (s : State) : State :=
  (List.range 25).foldl (fun s r => if (s.region r).state = 3 then s.updRegion r (fun x => { x with volt := s.regionVolt r }) else s) s

/-! Urgent throttle and region hold (R107, R112). -/

/-- Whether the urgent throttle of a region is asserted: by low input or a 1 ms excursion, a takeover of the management
cores, a throttled sector, or a rail without valid responses. -/
def State.urgentNow (s : State) (r : Nat) : Bool :=
  (decide (8 ≤ r ∧ r < 16) && (s.pwr.inputThrottle || s.pwr.limitThrottle || s.rel.takeover || s.thm.throttled.contains (r - 8))) ||
  (List.range 13).any (fun k => (s.rail k).fault && (s.feeds k).contains r)

/-- The throttles take the values that their causes give; an array that runs in normal service is throttled with its region
until it enters RIDDLE or OFF. -/
def State.syncUrgent (s : State) : State :=
  let s := (List.range 25).foldl (fun s r => let u := s.urgentNow r; s.updRegion r (fun x => { x with urgent := u })) s
  { s with tiles := s.tiles.map (fun e =>
      let a := e.2.arr
      if (s.region (8 + sectorOf e.1)).urgent ∧ (a.ramp = 1 ∨ a.ramp = 2 ∨ a.ramp = 3) then
        (e.1, { e.2 with arr := { a with urgent := true } })
      else e) }

/-- The causes of the region hold of a sector's Upper Face region: a switch-on of one of its Face regions, its degraded
state, a withdrawn sector (R409, R416, R429). -/
def State.holdCause (s : State) (n : Nat) : Bool :=
  (faceRegions n).any (fun r => (s.region r).state == 2 || (s.region r).holdWait) || (s.region (8 + n)).degraded ||
    s.thm.withdrawn.contains n

/-- DEDUCED: log entry 101. -/
def State.raiseHold (s : State) (n : Nat) : State := s.updRegion (8 + n) (fun x => { x with hold := true })
/-- DEDUCED: log entry 101. -/
def State.dropHold (s : State) (n : Nat) : State :=
  if s.holdCause n then s else s.updRegion (8 + n) (fun x => { x with hold := false })

/-- A record of the power manager (class 0x0D, layer module). -/
def State.pwrRec (s : State) (code sev : Nat) (source : W32) : State := s.report (s.mkRec 0x0D code sev 4 source noUnit noUnit 0 none 0)

/-! The inputs (R405). -/

/-- INPUT_SUPERVISION: one sample of the inputs, in mV. Without the 12 V input nothing is sampled; whether 48 V is present
matters to the shutdown latch (R433). DESIGN CHOICE: log entry 98. -/
def execInputSupervision (main : Bool) (mv auxMv : Fin 4294967296) (s : State) : Out :=
  .next (
    let mv := mv.val
    if !s.pwr.aux then s.updPwr (fun p => { p with main := main })
    else
      let s := (s.odSet 0x2000 0x0A (BitVec.ofNat 64 mv)).odSet 0x2000 0x0B (BitVec.ofNat 64 auxMv.val)
      let run := fun (b : Bool) (n : Nat) => if b then n + 1 else 0
      s.updPwr (fun p => { p with
        main := main, uvSamples := run (decide (mv < 40000)) p.uvSamples, uvDeep := run (decide (mv < 36000)) p.uvDeep,
        ovSamples := run (decide (59500 < mv)) p.ovSamples, upSamples := run (decide (41000 ≤ mv)) p.upSamples }))

/-- PWR_INPUT_UV: ten samples in a row are 100 µs. -/
def execPwrInputUv (s : State) : Out :=
  .next (
    if !s.pwr.converter then s
    else if 10 ≤ s.pwr.uvDeep then s.converterOff.pwrRec 0x01 4 noUnit
    else if 10 ≤ s.pwr.uvSamples ∧ !s.pwr.inputThrottle then
      ((s.updPwr (fun p => { p with inputThrottle := true })).syncUrgent).pwrRec 0x01 0 noUnit
    else s)

/-- PWR_INPUT_OV. -/
def execPwrInputOv (s : State) : Out :=
  .next (if s.pwr.converter && decide (10 ≤ s.pwr.ovSamples) then s.converterOff.pwrRec 0x02 4 noUnit else s)

/-- UNDERVOLTAGE_RECOVERY. -/
def execUndervoltageRecovery (s : State) : Out :=
  .next (
    if s.pwr.inputThrottle && decide (100 ≤ s.pwr.upSamples) then (s.updPwr (fun p => { p with inputThrottle := false })).syncUrgent
    else s)

/-! Rails (R408, R409). -/

/-- AVS_POLL: current in 0.1 A, temperature and status of a rail, or no valid response. DESIGN CHOICE: log entry 98. -/
def execAvsPoll (rail : Fin 13) (response : Option (Nat × Nat × Nat)) (s : State) : Out :=
  .next (
    let x := s.rail rail.val
    if !s.pwr.converter || x.off then s
    else match response with
      | some (i, t, st) => (s.setRail rail.val { x with current := i, temp := t, status := st, fault := false }).syncUrgent
      | none =>
        if x.fault then s
        else ((s.setRail rail.val { x with fault := true }).syncUrgent).pwrRec 0x03 0 (BitVec.ofNat 32 rail.val))

/-- Cause bit 13 of OD 0x2302: region or rail (R446). -/
def causeRail : Nat := 0x20

/-- A tile of a sector whose rail is lost: its units stop, and it is retired once its task has left it. Which of its posted
requests had left the tile is a free choice for each. DESIGN CHOICE: log entries 15, 102. -/
def State.tileDark (s : State) (t : Nat) : State :=
  let own := s.reqs.filter (fun r => r.who.tile == some t && r.st == .sent && r.adm == 0)
  let s := own.foldl (fun s r =>
    if r.kind == .load then s.dropReq r.id else let (c, s) := s.choose 2; if c = 0 then s.dropReq r.id else s) s
  let s := { s with mem := { s.mem with stores := SMap.drop s.mem.stores t } }
  (s.withdrawWaits t).updTile t (fun x => { x.unitsReset true with storing := false })

/-- The tiles of a sector are retired for a lost rail. -/
def State.sectorLost (s : State) (n : Nat) : State :=
  let ts := sectorTiles n
  let s := ts.foldl (fun s t => (s.updTile t (fun x => { x with causes := x.causes ||| causeRail })).tileDark t) s
  ts.foldl (fun s t =>
    let x := s.tile t
    if x.role = 0 then
      let s := s.abortTask t 0x13
      if x.task.isNone then s.retireNow t else s
    else if x.role = 1 then s.retireNow t else s) s

/-- A region of a lost rail. -/
def State.regionLost (s : State) (r : Nat) : State := (s.regionOff r).updRegion r (fun x => { x with state := 4 })

/-- A rail with more than three lost phases is switched off. DEDUCED: log entry 104. -/
def State.railLost (s : State) (k : Nat) : State :=
  let src := BitVec.ofNat 32 k
  let s := s.setRail k { s.rail k with off := true, current := 0 }
  if s.profF && decide (k < 8) then
    let s := (railRegions k).foldl State.regionLost s
    let g := if k < 4 then k else k - 4
    ((s.sectorLost (2 * g)).sectorLost (2 * g + 1)).pwrRec 0x05 3 src
  else
    let s := s.converterOff
    let s := (s.feeds k).foldl (fun s r => s.updRegion r (fun x => { x with state := 4 })) s
    s.pwrRec 0x05 4 src

/-- PWR_PHASE_LOST. DEDUCED: log entries 100, 104. -/
def execPwrPhaseLost (rail : Fin 13) (s : State) : Out :=
  .next (
    let k := rail.val
    let x := s.rail k
    if !s.pwr.converter || x.off || decide (railPhases k ≤ x.lost) then s
    else
      let n := x.lost + 1
      let s := (s.setRail k { x with lost := n }).pwrRec 0x04 (if n = 1 then 0 else 2) (BitVec.ofNat 32 k)
      let s := if n < 2 then s
        else
          (s.feeds k).foldl (fun s r => s.updRegion r (fun x => { x with degraded := true, hold := x.hold || decide (8 ≤ r ∧ r < 16) })) s
      if 3 < n then s.railLost k else s)

/-! Power limit (R410, R411). -/

/-- POWER_MEASURE: the averages over 1 ms and 100 ms, W, and the regions that their regulators clamp in pass mode.
DESIGN CHOICE: log entry 98. -/
def execPowerMeasure (ms1 ms100 : Fin 65536) (clamped : List (Fin 26)) (s : State) : Out :=
  .next (
    let ms1 := ms1.val
    let ms100 := ms100.val
    if !s.pwr.converter then s
    else
      let lim := s.odNat 0x2000 2
      let lim1 := if lim = 2600 then 3000 else lim
      let high := if 2600 < ms1 then s.pwr.high + 1 else 0
      let exceeded := decide (lim1 < ms1) || (lim == 2600 && decide (1000 < high))
      let s := (s.odSet 0x2000 9 (BitVec.ofNat 64 ms1)).updPwr (fun p =>
        { p with excess := decide (lim < ms100), under95 := decide (100 * ms100 < 95 * lim), high := high })
      let s := if s.profF then clamped.foldl (fun s r =>
          if (s.region r.val).state = 3 then s.pwrRec 0x06 0 (BitVec.ofNat 32 r.val) else s) s else s
      if exceeded ∧ !s.pwr.limitThrottle then
        ((s.updPwr (fun p => { p with limitThrottle := true })).syncUrgent).odInc 0x2000 0x0D
      else if s.pwr.limitThrottle ∧ !exceeded ∧ ms1 < lim then (s.updPwr (fun p => { p with limitThrottle := false })).syncUrgent
      else s)

/-- The sectors whose throttle lowers the target of a key (R428). -/
def State.throttledKey (s : State) (key : Nat) : Bool :=
  s.thm.throttled.any (fun n => (faceRegions n).any (fun r => s.vkey r == key))

/-- A target one step lower or higher. -/
def vdown (key v : Nat) : Nat := max (min v (vfloor key)) (v - 10)
def vup (base v : Nat) : Nat := min (max v base) (v + 10)

/-- VOLTAGE_STEP: the targets of the Face move by 10 mV. A rail without valid responses keeps its voltage.
DESIGN CHOICE: log entry 165. -/
def execVoltageStep (s : State) : Out :=
  .next (
    if !s.pwr.converter || s.pwr.changing || s.rel.takeover then s
    else
      let keys := s.vkeys.filter (fun key => faceKey key && !(decide (32 ≤ key) && (s.rail (key - 32)).fault))
      let s := keys.foldl (fun s key =>
        let th := s.throttledKey key
        s.updPwr (fun p =>
          let l := p.limitV key
          let t := p.thermV key
          let l' := if p.excess then vdown key l else if p.under95 then vup (p.baseV key) l else l
          let t' := if th then vdown key t else vup (p.baseV key) t
          { p with limit := SMap.put p.limit key l', therm := SMap.put p.therm key t' })) s
      let s := if s.pwr.excess ∧ !s.pwr.limiting then (s.updPwr (fun p => { p with limiting := true })).pwrRec 0x07 0 noUnit
        else if s.pwr.limiting ∧ !s.pwr.excess ∧ s.vkeys.all (fun key => s.pwr.limitV key == s.pwr.baseV key) then
          s.updPwr (fun p => { p with limiting := false })
        else s
      s.syncVolts)

/-! Profiles (R412). -/

/-- A write of the power profile. -/
def State.setProfile (s : State) (v : W64) : State :=
  let s := s.odSet 0x2000 1 v
  let s := (List.range 8).foldl State.faceOff s
  (s.updPwr (fun p => { p with changing := s.pwr.converter })).newTargets.syncUrgent

/-- PROFILE_CHANGE_COMPLETE. -/
def execProfileChangeComplete (s : State) : Out :=
  .next (if s.pwr.changing then (s.updPwr (fun p => { p with changing := false })).syncVolts else s)

/-! Switching a region on (R415–R417). -/

/-- The output on which switch-ons queue: the rail of the region in Profile F, the common one in Profile L. -/
def State.queueOf (s : State) (r : Nat) : Nat := if s.profF then railOf r else 0

/-- The switch-on of a region, where it is its output's turn. -/
def State.turnOf (s : State) (r : Nat) : Option SwitchOn :=
  let q := s.queueOf r
  if (List.range 16).any (fun k => (s.region k).state == 2 && s.queueOf k == q) then none
  else match s.pwr.switches.find? (fun w => s.queueOf w.region == q) with
    | some w => if w.region = r ∧ (s.region r).state = 1 then some w else none
    | none => none

/-- Step 3 of R416: the hold is asserted and the region soft-starts. -/
def State.softStart (s : State) (r : Nat) : State :=
  let s := s.updPwr (fun p => { p with switches := p.switches.filter (fun w => w.region != r) })
  (s.updRegion r (fun x => { x with state := 2 })).raiseHold (r % 8)

/-- Whether a neighbour lies at or below the threshold; a region that is off or deferring is none. -/
def State.neighbourOk (s : State) (k cur : Nat) : Bool :=
  decide ((s.region k).state < 2) || decide (100 * cur ≤ s.odNat 0x2000 7 * regionShare k)

/-- The measured current of a region that is on. DESIGN CHOICE: log entry 164. -/
def State.setCurrent (s : State) (k cur : Nat) : State :=
  if (s.region k).state < 2 then s else s.updRegion k (fun x => { x with current := cur })

/-- NEIGHBOUR_CHECK: `same` and `other` are the mean currents, 0.1 A, of the region of the same layer in the sector beside, and
of the other Face region of the sector. DESIGN CHOICE: log entry 98. -/
def execNeighbourCheck (region : Fin 26) (same other : Nat) (s : State) : Out :=
  .next (
    let r := region.val
    match s.turnOf r with
    | none => s
    | some w =>
      let a := r / 8 * 8 + (r % 8 ^^^ 1)
      let b := (r + 8) % 16
      let s := (s.setCurrent a same).setCurrent b other
      if s.neighbourOk a same && s.neighbourOk b other then s.softStart r
      else s.updPwr (fun p => { p with switches := p.switches.map (fun x => if x.region = r then { x with defer := w.defer + 1 } else x) }))

/-- Headroom (R416 step 2): the rail current with the budget within 90 % of its limit, the 1 ms input power with the budget
within the power limit. -/
def State.headroom (s : State) (r : Nat) : Bool :=
  let mv := if s.profF then s.regionVolt r else 950
  decide (10 * (s.outputCurrent r + startBudget r) ≤ 9 * s.outputLimit r) &&
  decide (s.odNat 0x2000 9 * 10000 + startBudget r * mv ≤ s.odNat 0x2000 2 * 10000)

/-- The request of a region fails: the placements that waited for it retry. DEDUCED: log entry 47. -/
def State.switchFailed (s : State) (r : Nat) : State :=
  let p := mapPart (s.odGet 0x2B20 1) (r % 8)
  let s := s.regionOff r
  let s := { s with sched := { s.sched with retry := insertNew s.sched.retry p } }
  (s.odInc 0x2000 0x0C).pwrRec 0x08 0 (BitVec.ofNat 32 r)

/-- PWR_DEFER_TIMEOUT. DESIGN CHOICE: log entry 3. -/
def execPwrDeferTimeout (region : Fin 26) (s : State) : Out :=
  .next (match s.turnOf region.val with
    | none => s
    | some w =>
      if 10 * w.defer < s.odNat 0x2000 6 then s
      else if s.headroom region.val then s.softStart region.val else s.switchFailed region.val)

/-- A region is on; its sensors start without history, and the stores of a Lower Face are swept (R416, R431, R464). Its current
is free until a check measures it. DESIGN CHOICE: log entry 164. -/
def State.regionOn (s : State) (r : Nat) : State :=
  let v := s.regionVolt r
  let (i, s) := s.choose 65536
  let s := s.updRegion r (fun x => { x with state := 3, volt := v, current := i, holdWait := true })
  let s := if r < 16 then s.emptyGroup (regionGroup r) else s
  if r < 8 then (sectorTiles r).foldl (fun s t => s.updTile t (fun x => { x with storing := true })) s else s

/-- REGION_ON: a soft-start that no throttle suspends ends. -/
def execRegionOn (region : Fin 26) (s : State) : Out :=
  .next (if (s.region region.val).state = 2 ∧ !s.pwr.limitThrottle then s.regionOn region.val else s)

/-- REGION_HOLD_RELEASE. -/
def execRegionHoldRelease (region : Fin 26) (s : State) : Out :=
  .next (
    let r := region.val
    let x := s.region r
    if x.state ≠ 3 ∨ !x.holdWait then s
    else
      let upper := decide (8 ≤ r ∧ r < 16)
      let s := s.setRegion r { x with holdWait := false, hold := x.hold && upper }
      if r < 16 then s.dropHold (r % 8) else s)

/-- PLACEMENT_RETRY. DEDUCED: log entry 47. -/
def execPlacementRetry (p : Fin 8) (s : State) : Out :=
  .next { s with sched := { s.sched with retry := without s.sched.retry p.val } }

/-- REGION_GATE_OFF: both Face regions of an idle sector are switched off; a region that is switching on keeps the sector on. -/
def execRegionGateOff (sector : Fin 8) (s : State) : Out :=
  .next (
    let n := sector.val
    let st := fun r => (s.region r).state
    let switching := (faceRegions n).any (fun r => st r == 1 || st r == 2)
    let on := (faceRegions n).any (fun r => st r == 3)
    if s.odGet 0x2000 4 ≠ 1 ∨ switching ∨ !on ∨ s.bup.stage = 4 ∨ !((sectorTiles n).all (fun t => s.tileIdle t)) then s
    else s.faceOff n)

/-! Power states (R418). -/

/-- A write of the power state request. A return to ACTIVE puts the stacks back in service. -/
def State.setPowerState (s : State) (v : W64) : State :=
  let s := s.odSet 0x2000 3 v
  if v = 1 then ((List.range 8).foldl State.faceOff s).updPwr (fun p => { p with standby := true })
  else
    let s := s.updPwr (fun p => { p with standby := false })
    { s with bed := { s.bed with stackTab := s.bed.stackTab.map (fun e => (e.1, { e.2 with selfRefresh := false })) } }

/-- SELF_REFRESH_ENTRY: no request to the stack is in flight. -/
def execSelfRefreshEntry (stack : Fin 8) (s : State) : Out :=
  .next (
    let busy := (s.stack stack.val).fillBusy || !(s.slice stack.val).misses.isEmpty || s.reqs.any (fun r => !r.st.ended &&
      s.isLocal r.addr && regionOf (addrOffset r.addr) == some .hbm && sliceOf (addrOffset r.addr / 256) == stack.val)
    if s.pwr.standby && (s.stack stack.val).good && !busy then s.updStack stack.val (fun k => { k with selfRefresh := true }) else s)

end Sys2Proof.Machine
end

