-- ==== Sys2Proof/Machine/Stored.lean ====
section
/-! DEFINITION. DOMAIN entries written as bytes and their effects (R361, R381, R373), and the load of the stored values in
bring-up stage 0 (R374, R375). -/

namespace Sys2Proof.Machine

/-! Bytes written to an entry. -/

/-- The contents of a VSTRING: ASCII 0x20–0x7E, then zero bytes (R367). -/
def vstringOk : List Byte → Bool
  | [] => true
  | b :: bs => if b = 0 then bs.all (fun c => c == 0) else decide (0x20 ≤ b.toNat ∧ b.toNat ≤ 0x7E) && vstringOk bs


/-- Byte i of an entry once data has been written from an offset on. -/
def State.overlay (s : State) (idx sub off : Nat) (data : List Byte) (i : Nat) : Byte :=
  if off ≤ i ∧ i < off + data.length then data.getD (i - off) 0 else s.odByte idx sub i

/-- Word w of an entry once data has been written. -/
def State.newWord (s : State) (idx sub off : Nat) (data : List Byte) (w : Nat) : W64 :=
  BitVec.ofNat 64 (leNat ((List.range 8).map (fun j => s.overlay idx sub off data (8 * w + j))))

/-- The units of n bytes that a write of a length at an offset touches. -/
def unitsOver (n off len : Nat) : List Nat :=
  if len = 0 then [] else (List.range ((off + len - 1) / n - off / n + 1)).map (fun i => off / n + i)

/-- Budgets of a port (OD 0x2602): LOCK makes those of masters 0x090–0x0FB ignore writes (R310). -/
def State.writeBudgets (s : State) (n off : Nat) (data : List Byte) : State :=
  (unitsOver 8 off data.length).foldl (fun s m =>
    let p := s.port n
    if midReserved m || (p.lock && decide (0x90 ≤ m)) then s
    else s.setPort n { p with budget := SMap.put p.budget m (fld (s.newWord 0x2602 n off data m) 0 23) }) s

/-- Route entries (OD 0x2802); each entry written is one route change (R342). -/
def State.writeRoutes (s : State) (off : Nat) (data : List Byte) : State :=
  (unitsOver 16 off data.length).foldl (fun s d =>
    let r := s.route d
    let r := if s.upMask = 0 then r else r.changed s.upMask
    s.setRoute d { r with mask := s.newWord 0x2802 0 off data (2 * d), valid := bitOf (s.newWord 0x2802 0 off data (2 * d + 1)) 63 }) s

/-- A barrier group (OD 0x2803): a valid group takes nothing but VALID = 0 (R343). -/
def State.writeBar (s : State) (c off : Nat) (data : List Byte) : State :=
  let b := s.ybar c
  let ctrl := s.newWord 0x2803 c off data 0
  if b.valid then
    (if bitOf ctrl 63 then s else ((s.setYbar c { b with ctrl := b.ctrl &&& 0x7FFF_FFFF_FFFF_FFFF }).barCheck c).syncSettle)
  else
    let child := (List.range 16).foldl (fun m i => SMap.put m i (fld (s.newWord 0x2803 c off data (1 + i / 4)) (16 * (i % 4)) 12)) b.child
    ((s.setYbar c { b with ctrl := ctrl &&& 0xC01F_0FFF_0000_0000, child := child }).barCheck c).syncSettle

/-- A write of bytes to a DOMAIN entry that has passed its checks; the flash window has a row of its own. -/
def State.odWriteBytes (s : State) (idx sub off : Nat) (data : List Byte) : State :=
  if idx = 0x2602 then s.writeBudgets sub off data
  else if idx = 0x2802 then s.writeRoutes off data
  else if idx = 0x2803 then s.writeBar sub off data
  else match s.odEntry idx sub with
    | some e => s.setBlob idx sub ((List.range e.size).map (s.overlay idx sub off data))
    | none => s

/-! Scalars whose values other blocks hold. -/

/-- The ports of a kind (OD 0x2601): slice ports, HBM fronts, link egress, synchronisation, management, Hild. -/
def kindPorts (kind : Nat) : List Nat :=
  if kind = 0 then List.range 8
  else if kind = 1 then (List.range 8).map (fun i => 8 + i)
  else if kind = 2 then (List.range 64).map (fun i => 16 + i)
  else if kind = 3 then (List.range 8).map (fun i => 80 + i)
  else if kind = 4 then [88] else [89]

/-- The quota of one high input of a kind of ports; LOCK makes a port ignore it. -/
def State.writeQuota (s : State) (sub v : Nat) : State :=
  let sh := 2 ^ (16 * (sub % 4))
  let put := fun (q : W64) => BitVec.ofNat 64 (q.toNat - q.toNat / sh % 65536 * sh + v % 65536 * sh)
  (kindPorts (sub / 4)).foldl (fun s n => s.updPort n (fun p => if p.lock then p else { p with quota := put p.quota })) s

/-! Loading the stored values (R375). -/

/-- The copy in use: the valid one with the higher sequence number. A copy that could not be read counts as invalid. -/
def State.copyInUse (s : State) : Option StoreCopy :=
  let cs := (List.zipWith (fun i c => (i, c)) (List.range s.od.copies.length) s.od.copies).filter
    (fun e => e.2.valid && !s.bup.unread.contains e.1)
  cs.foldl (fun o e => match o with | none => some e.2 | some c => if c.seq < e.2.seq then some e.2 else some c) none

/-- OD_STORE_RANGE: the entry takes its default. -/
def State.storeRange (s : State) (key : Nat) : State :=
  let s := { s with od := { s.od with val := SMap.drop s.od.val key } }
  (s.odInc 0x1F00 5).odRec 0x10 .load (key / 256) (key % 256) false

/-- Entries that firmware itself keeps current in flash. -/
def ownList (idx : Nat) : Bool := idx == 0x2503 || idx == 0x2504 || idx == 0x2300 || idx == 0x6015 || idx == 0x6017

/-- Entries that a constraint binds to another entry (R371). DEDUCED: log entry 91. -/
def crossKeys : List Nat :=
  [odKey 0x2700 1, odKey 0x2700 2, odKey 0x2400 4, odKey 0x2400 5, odKey 0x2600 4, odKey 0x2600 5, odKey 0x2800 3, odKey 0x2800 4,
   odKey 0x2900 0x10, odKey 0x2900 0x11, odKey 0x2900 0x12, odKey 0x2900 0x13, odKey 0x2000 1, odKey 0x2000 2, odKey 0x2100 1,
   odKey 0x2100 2] ++ (List.range 8).flatMap (fun p => [odKey (0x2B00 + p) 3, odKey (0x2B00 + p) 4])

/-- One scalar of the copy, by the rules for a single entry. -/
def State.loadScalar (s : State) (key : Nat) (v : W64) : State :=
  match s.odEntry (key / 256) (key % 256) with
  | none => s
  | some e =>
    if !e.stored || !e.scalar || ownList e.idx then s
    else if typeOk e.type v && decide (e.min ≤ odNumber e.type v ∧ odNumber e.type v ≤ e.max) &&
        (crossKeys.contains key || s.odSpecial (key / 256) (key % 256) v) then s.odSet (key / 256) (key % 256) v
    else s.storeRange key

/-- The constraints between entries, tested in the one state as loaded: the entries of one that fails take their defaults.
DEDUCED: log entry 91. -/
def State.loadCross (s : State) : State :=
  let bad := crossKeys.filter (fun k => !s.odSpecial (k / 256) (k % 256) (s.odGet (k / 256) (k % 256)))
  bad.foldl State.storeRange s

/-- The bytes of an entry of the copy. -/
def State.loadBlob (s : State) (key : Nat) (bs : List Byte) : State :=
  match s.odEntry (key / 256) (key % 256) with
  | none => s
  | some e =>
    if !e.stored || e.scalar || ownList e.idx then s
    else if e.type = 10 ∧ !vstringOk (takeAt bs 0 e.size) then s.storeRange key
    else s.odWriteBytes (key / 256) (key % 256) 0 (takeAt bs 0 e.size)

/-- Entries whose default is *flash*: device id, route table, barrier groups, expected topology. DEDUCED: log entry 92. -/
def flashKeys : List Nat := [odKey 0x2700 1, odKey 0x2802 0] ++ (List.range 32).map (odKey 0x2803) ++ [odKey 0x2203 0]

/-- A *flash* entry without a valid value: the device is not ready. -/
def State.flashCheck (s : State) (c : StoreCopy) (key : Nat) : State :=
  if (SMap.find s.od.val key).isSome || (SMap.find c.blobs key).isSome then s
  else { s with bup := { s.bup with flashMiss := true } }.odRec 0x11 .load (key / 256) (key % 256) false

/-- Lists that the copy in use does not hold take their defaults. DEDUCED: log entry 92. -/
def State.loadLists (s : State) (c : StoreCopy) : State :=
  let val := fun idx sub => (SMap.find c.vals (odKey idx sub)).isSome
  let blob := fun idx sub => (SMap.find c.blobs (odKey idx sub)).isSome
  let s := (List.range 8).foldl (fun s n => s.updStack n (fun k =>
    { k with repair := if blob 0x2503 n then k.repair else [], overflow := if val 0x2504 n then k.overflow else 0 })) s
  let s := if blob 0x2300 3 then s else { s with od := { s.od with blob := SMap.drop s.od.blob (odKey 0x2300 3) } }
  { s with tiles := s.tiles.map (fun e =>
      (e.1, { e.2 with baseline := if val 0x6015 e.1 then e.2.baseline else 0, lifeMin := if val 0x6017 e.1 then e.2.lifeMin else 0 })) }

/-- The entries of a copy that load: of one with another OD version only those whose index, subindex and type match an entry
of this version. -/
def State.loadable (s : State) (c : StoreCopy) : StoreCopy :=
  if c.version = 0x0100 then c
  else
    let p := fun (key : Nat) => match s.odEntry (key / 256) (key % 256) with
      | some e => SMap.find c.types key == some e.type
      | none => false
    { c with vals := c.vals.filter (fun e => p e.1), blobs := c.blobs.filter (fun e => p e.1) }

/-- The whole load: OD 0x1F00.02, .04, .05, the entries, and the blocks that take their values from them.
DEDUCED: log entry 91. -/
def State.loadStored (s : State) : State :=
  let c := s.loadable (s.copyInUse.getD StoreCopy.empty)
  let s := match s.copyInUse with
    | some _ => s.odSet 0x1F00 2 (BitVec.ofNat 64 c.seq)
    | none =>
      (s.odSet 0x1F00 4 (if s.od.copies.isEmpty then 1 else 2)).report (s.mkRec 0x11 0x12 0 0 noUnit noUnit noUnit 0 none (detByte 38 3))
  let s := s.loadLists c
  let s := c.vals.foldl (fun s e => s.loadScalar e.1 e.2) s
  let s := s.loadCross
  let s := c.blobs.foldl (fun s e => s.loadBlob e.1 e.2) s
  let s := flashKeys.foldl (fun s k => s.flashCheck c k) s
  let s := (List.range 24).foldl (fun s q => s.writeQuota q (match SMap.find s.od.val (odKey 0x2601 q) with
    | some v => v.toNat | none => quotaDefault (q / 4))) s
  let en := s.odGet 0x2800 1
  (List.range 65).foldl (fun s l =>
    let on := if l = hildLink then s.bup.flashHild else bitOf en l
    s.updLink l (fun k => { k with enable := on, state := if on then 1 else 0 })) s

/-! Store commands (R376). -/

/-- Every stored entry: its key and its row. -/
def State.storedRows (s : State) : List (Nat × OdEntry) :=
  (odTable.filter (fun e => e.stored)).flatMap (fun e => (List.range (e.hi - e.lo + 1)).map (fun i => (odKey e.idx (e.lo + i), e))) ++
  (s.od.board.filter (fun b => b.2.stored)).filterMap (fun b => (s.odEntry (b.1 / 256) (b.1 % 256)).map (fun e => (b.1, e)))

/-- The sequence number of the newer copy, 0 where none is valid. -/
def State.newerSeq (s : State) : Nat := (s.od.copies.filter (fun c => c.valid)).foldl (fun a c => max a c.seq) 0

/-- One entry of a copy, as it stands. -/
def State.snapRow (s : State) (c : StoreCopy) (key : Nat) (e : OdEntry) : StoreCopy :=
  if e.scalar then { c with vals := SMap.put c.vals key (s.odValue (key / 256) (key % 256)) }
  else { c with blobs := SMap.put c.blobs key (s.odBytes (key / 256) (key % 256) 0 e.size) }

/-- A copy of the entries as they stand. DEDUCED: log entry 89. -/
def State.snapshot (s : State) (rows : List (Nat × OdEntry)) : StoreCopy :=
  let c0 : StoreCopy := { valid := true, seq := s.newerSeq + 1, vals := [], blobs := [] }
  rows.foldl (fun c r => s.snapRow c r.1 r.2) c0

/-- "save" and "dflt": the store runs. DEDUCED: log entry 89. -/
def State.storeStart (s : State) (rows : List (Nat × OdEntry)) : State :=
  let c := s.snapshot rows
  ({ s with od := { s.od with busy := some c } } : State).odSet 0x1F00 3 1

/-- The two copies, and the one that a store writes: an invalid one, else the older. -/
def State.twoCopies (s : State) : List StoreCopy :=
  (s.od.copies ++ List.replicate 2 StoreCopy.empty).take 2

/-- DEDUCED: log entry 89. -/
def State.storeTarget (s : State) : Nat :=
  match s.twoCopies with
  | [a, b] => if !a.valid then 0 else if !b.valid then 1 else if a.seq ≤ b.seq then 0 else 1
  | _ => 0

/-- A store that does not finish: whether the copy that it was writing is still valid is a free choice.
DESIGN CHOICE: log entry 90. -/
def State.storeBroken (s : State) : State :=
  if s.od.busy.isNone then s
  else
    let (c, s) := s.choose 2
    let cs := s.twoCopies
    let i := s.storeTarget
    let cs := if c = 0 then cs else match cs[i]? with | some x => cs.set i { x with valid := false } | none => cs
    { s with od := { s.od with busy := none, copies := cs } }

/-- The copy as it is written: an entry that was written during the store appears with its old or its new value. -/
def State.storeImage (s : State) (c : StoreCopy) : StoreCopy × State :=
  let (vals, s) := c.vals.foldl (fun (m, s) e =>
    let now := s.odValue (e.1 / 256) (e.1 % 256)
    if now = e.2 then (m, s) else let (x, s) := s.choose 2; (if x = 0 then m else SMap.put m e.1 now, s)) (c.vals, s)
  let (blobs, s) := c.blobs.foldl (fun (m, s) e =>
    let now := s.odBytes (e.1 / 256) (e.1 % 256) 0 e.2.length
    if now = e.2 then (m, s) else let (x, s) := s.choose 2; (if x = 0 then m else SMap.put m e.1 now, s)) (c.blobs, s)
  ({ c with vals := vals, blobs := blobs }, s)

/-- The end of a store command. DESIGN CHOICE: log entry 90. -/
def State.storeEnd (s : State) (ok : Bool) : State :=
  match s.od.busy with
  | none => s
  | some c =>
    if ok then
      let (c, s) := s.storeImage c
      ({ s with od := { s.od with busy := none, copies := s.twoCopies.set s.storeTarget c } } : State).odSet 0x1F00 3 2
    else s.storeBroken.odSet 0x1F00 3 3

/-- The bytes measured as kind 3: the copy in use, or nothing. -/
def State.copyMeasured (s : State) : List Byte :=
  match s.copyInUse with | some c => Config.copyBytes c.seq c.vals c.blobs | none => []

/-- The firmware's access-table entries; those that admit fabric ingress masters are loaded invalid (R52, R453). -/
def State.loadTables (s : State) : State :=
  s.bup.flashAct.foldl (fun s f =>
    s.updTable f.1 (fun t => { t with entries := f.2.foldl (fun m e =>
      SMap.put m e.1 (if e.2.ingress then { e.2 with ctrl := e.2.ctrl &&& 0x7FFF_FFFF_FFFF_FFFF } else e.2)) t.entries })) s

end Sys2Proof.Machine
end

