-- ==== Sys2Proof/Machine/Cold.lean ====
section
/-! DEFINITION. Cold reset (R404, R436, R459, R472, R516): what it clears, what outlives it in fuses, flash and on the pins. -/

namespace Sys2Proof.Machine

/-- A tile after cold reset: what flash keeps of it is its rate baseline and its lowest rate. -/
def Tile.cold (x : Tile) : Tile := { Tile.init with baseline := x.baseline, lifeMin := x.lifeMin }

/-- A stack after cold reset: its repair list and repair overflow lie in flash (R299). -/
def Stack.cold (k : Stack) : Stack := { Stack.init with repair := k.repair, overflow := k.overflow }

/-- Flash and the sources of a cold reset. An image area that was erased and not verified since holds no valid image once power
is lost (R457). -/
def Bup.cold (b : Bup) (source : Nat) (powerLost : Bool) : Bup :=
  { Bup.init with held := true, coldSource := source, image := b.image, imageOk := b.imageOk && !(powerLost && b.erased),
                  flashAct := b.flashAct, flashHild := b.flashHild, saved := b.saved }

/-- Pins: levels outside the module, and THERM_TRIP_N under the latch. -/
def Pins.cold (p : Pins) (latch : Bool) : Pins :=
  { Pins.init with levels := p.levels, straps := p.straps, cages := p.cages, refBad := p.refBad, tripN := latch }

/-- A burn of SVN_FUSE that a cold reset cuts leaves a floor between the old and the new one, by free choice (R490). -/
def State.burnCut (s : State) : State :=
  if !s.sec.burning then s
  else
    let (c, s) := s.choose (s.bup.svn - s.fuses.svnFloor + 1)
    { s with fuses := { s.fuses with svnFloor := s.fuses.svnFloor + c } }

/-- A cold reset; the module is held in it until COLD_RESET_RELEASE. DEDUCED: log entry 122. -/
def State.cold (s : State) (source : Nat) (powerLost : Bool) : State :=
  let s := s.storeBroken.burnCut
  { State.reset with
    pending := s.pending, free := s.free, fuses := s.fuses,
    tiles := s.tiles.map (fun e => (e.1, e.2.cold)),
    bed := { Bed.init with stackTab := s.bed.stackTab.map (fun e => (e.1, e.2.cold)) },
    od := { OdState.init with board := s.od.board, copies := s.od.copies,
                              blob := s.od.blob.filter (fun e => e.1 == odKey 0x2300 3) },
    pwr := { Pwr.init with aux := s.pwr.aux, main := s.pwr.main },
    thm := { Thm.init with latch := s.thm.latch },
    bup := s.bup.cold source powerLost,
    pins := s.pins.cold s.thm.latch }

/-- AUX_INPUT_LOSS: without the 12 V input everything but the latch loses power. -/
def execAuxInputLoss (s : State) : Out :=
  .next (if !s.pwr.aux then s else let c := s.cold 0 true; { c with pwr := { c.pwr with aux := false } })

/-- COLD_RESET: power is applied, or COLD_RST_N is low. DEDUCED: log entry 122. -/
def execColdReset (power : Bool) (s : State) : Out :=
  .next (
    if power then let c := s.cold 0 s.pwr.aux; { c with pwr := { c.pwr with aux := true } }
    else if s.pwr.aux then s.cold 1 false else s)

/-- ROM recovery (R456): the boot ROM serves the management port, no image runs. -/
def State.romRecovery (s : State) : State := { s with bup := { s.bup with rom := true, fw := false, state := 5 } }

/-- COLD_RESET_RELEASE (R472, R516): straps are sampled, stage 0 begins; with RECOV_N low the ROM enters recovery instead. -/
def execColdResetRelease (straps : Byte) (s : State) : Out :=
  .next (
    if !s.bup.held || !s.pwr.aux then s
    else
      let n := straps.toNat % 16
      let s := { s with pins := { s.pins with straps := n },
                        bup := { s.bup with held := false, stage := 0, state := 0, lastReset := BitVec.ofNat 32 s.bup.coldSource } }
      if n < 8 then s.romRecovery else s)

end Sys2Proof.Machine
end

