-- ==== Sys2Proof/Machine/Thermal.lean ====
section
/-! DEFINITION. The thermal monitor (R420–R435). Temperatures are in 0.1 °C. -/

namespace Sys2Proof.Machine

def State.setGroup (s : State) (g : Nat) (x : ThGroup) : State := { s with thm := { s.thm with groups := SMap.put s.thm.groups g x } }

/-- Sensors of a group (R420). DEDUCED: log entry 105. -/
def sensorCount (g : Nat) : Nat := if g < 8 then 8 else if g < 16 then 6 else if g < 24 then 4 else 1

/-- The layer of a group. -/
def groupLayer (g : Nat) : Nat := if g < 8 then 2 else if g < 16 then 1 else if g < 24 then 0 else 3

/-- The region that powers a Face group's sensors. -/
def groupRegion (g : Nat) : Nat := if g < 8 then 8 + g else g - 8

/-- Whether the sensors of a group have power (R422). -/
def State.groupPowered (s : State) (g : Nat) : Bool :=
  s.pwr.converter && (decide (16 ≤ g) || (s.region (groupRegion g)).state == 3)

def State.thmRec (s : State) (code sev g : Nat) : State :=
  s.report (s.mkRec 0x0E code sev (groupLayer g) (BitVec.ofNat 32 g) noUnit noUnit 0 none 0)

/-! Sensors (R421). -/

/-- A list of numbers in rising order. -/
def insertInt (x : Int) : List Int → List Int
  | [] => [x]
  | y :: ys => if x ≤ y then x :: y :: ys else y :: insertInt x ys

/-- Twice the median of readings: of an even number, the sum of the middle two. DEDUCED: log entry 107. -/
def median2 (xs : List Int) : Int :=
  let l := xs.foldl (fun a x => insertInt x a) []
  let n := l.length
  if n = 0 then 0 else l.getD ((n - 1) / 2) 0 + l.getD (n / 2) 0

/-- A group with more than half of its sensors excluded is suspect; outside Lower Face its comparisons end (R424).
DEDUCED: log entry 108. -/
def ThGroup.exclude (x : ThGroup) (g i : Nat) : ThGroup :=
  let ex := insertNew x.excluded i
  if sensorCount g < 2 * ex.length then
    (if 8 ≤ g ∧ g < 16 then { x with excluded := ex, suspect := true }
     else { x with excluded := ex, suspect := true, cool := 0, overShut := 0 })
  else { x with excluded := ex }

/-- The sensors that a group's readings exclude at once. -/
def outOfRange (x : ThGroup) (temps : List Int) : List Nat :=
  (List.range temps.length).filter (fun i => !(x.excluded.contains i) && (decide (temps.getD i 0 < -400) || decide (1500 < temps.getD i 0)))

/-- The readings of the valid sensors. -/
def validTemps (x : ThGroup) (temps : List Int) : List Int :=
  ((List.range temps.length).filter (fun i => !(x.excluded.contains i))).map (fun i => temps.getD i 0)

def maxInt (d : Int) : List Int → Int
  | [] => d
  | t :: ts => ts.foldl (fun a b => if a < b then b else a) t

/-- How long each valid sensor has differed from the median by more than 15 °C. -/
def ThGroup.deviations (x : ThGroup) (temps : List Int) : SMap Nat :=
  let m := median2 (validTemps x temps)
  ((List.range temps.length).filter (fun i => !(x.excluded.contains i))).foldl (fun a i =>
    let d := (2 * temps.getD i 0 - m).natAbs
    if 300 < d then SMap.put a i (SMap.get 0 x.dev i + 1) else a) []

/-! The inferred Lower Face temperature (R423). -/

/-- A quotient, rounded down where it is exact; else its rounding is a free choice. DEDUCED: log entry 106. -/
def State.freeDiv (s : State) (n : Int) (d : Nat) : Int × State :=
  if n % (d : Int) = 0 then (n / (d : Int), s)
  else let (c, s) := s.choose 2; (n.fdiv d + c, s)

/-- The measured temperature of a group as R423 uses it: of a suspect group, that of the other group of the sum (R424). Of a group
without a reading, and where both are suspect, it is a free value. DESIGN CHOICE: log entry 144. -/
def State.measFor (s : State) (g other : Nat) : Int × State :=
  let x := s.thGroup g
  let y := if x.suspect then s.thGroup other else x
  if y.valid ∧ ¬ y.suspect then (y.meas, s)
  else let (w, s) := s.fresh; ((w.setWidth 16).toInt, s)

/-- T_inf of sector n after one more sample. DEDUCED: log entry 106. -/
def State.inferNext (s : State) (n : Nat) : Int × State :=
  let x := s.thGroup (8 + n)
  let (a, s) := s.measFor n (16 + n)
  let (b, s) := s.measFor (16 + n) n
  let th := match decFP32 (BitVec.ofNat 32 (s.odNat 0x2100 0x0A)) with | .fin _ v => v | _ => Dy.ofInt 0
  let p : Int := (SMap.get 0 s.thm.power n : Nat)
  let m := shlInt th.m th.e
  let den : Nat := 2 ^ (-th.e).toNat
  let target := (a + b) * den + 20 * p * m            -- over 2 × den
  let tau := s.odNat 0x2100 0x0B
  if x.valid then s.freeDiv (x.inferred * ((tau : Int) - 20) * (2 * den : Nat) + 20 * target) (2 * den * tau)
  else s.freeDiv target (2 * den)

/-! Levels (R426, R431). -/

/-- The thresholds of a group for levels 1 to 3 and shutdown; 0 where there is none. Without 64 samples they act 10 °C lower. -/
def State.thresholds (s : State) (g : Nat) (x : ThGroup) : List Int :=
  let low : Int := if x.hist.length < 64 then 100 else 0
  let n := fun (v : Nat) => (10 * v : Int) - low
  if g < 24 then [n (s.odNat 0x2100 1), n (s.odNat 0x2100 2), n 115, n 125] else [n 85, n 95, 0, n 105]

/-- The highest level whose threshold a temperature reaches. -/
def levelReached (g : Nat) (ths : List Int) (eff : Int) : Nat :=
  if g < 24 ∧ ths.getD 2 0 ≤ eff then 3 else if ths.getD 1 0 ≤ eff then 2 else if ths.getD 0 0 ≤ eff then 1 else 0

/-- Code and severity of the record of a level. -/
def levelRec (l : Nat) : Nat × Nat := if l = 1 then (0x04, 0) else if l = 2 then (0x05, 0) else (0x06, 2)

/-- A rise of the level writes the record of the level entered. DEDUCED: log entry 109. -/
def State.levelRise (s : State) (g : Nat) : State :=
  let x := s.thGroup g
  let l := levelReached g (s.thresholds g x) x.eff
  if l ≤ x.level then s
  else (s.setGroup g { x with level := l, cool := 0 }).thmRec (levelRec l).1 (levelRec l).2 g

/-- The counts toward a fall of the level and toward shutdown. -/
def State.levelCounts (s : State) (g : Nat) : State :=
  let x := s.thGroup g
  let ths := s.thresholds g x
  let margin : Int := if g < 24 then 30 else 20
  let below := decide (0 < x.level) && decide (x.eff ≤ ths.getD (x.level - 1) 0 - margin)
  s.setGroup g { x with cool := if below then x.cool + 1 else 0,
                        overShut := if ths.getD 3 0 ≤ x.eff then x.overShut + 1 else 0 }

/-! Rates (R427). -/

/-- The rate of rise from a full history: 384/25 of it, in 0.1 °C/ms, is the difference of the sums of the newest and the
oldest sixteen. -/
def ThGroup.rise (x : ThGroup) : Int := ((x.hist.take 16).sum - (x.hist.drop 48).sum) * 25

/-- The rate, and the marks that it sets and clears. DEDUCED: log entry 106. -/
def State.rates (s : State) (g : Nat) : State :=
  let x := s.thGroup g
  if x.hist.length < 64 then s.setGroup g { x with rate := 0, rateWarn := false, rateThr := false }
  else
    let r := x.rise
    let (rate, s) := s.freeDiv r 384
    let warn := if 40 * 384 ≤ r then true else if r < 20 * 384 then false else x.rateWarn
    let thr := if 120 * 384 ≤ r then true
      else if r < 40 * 384 ∧ x.eff < (s.thresholds g x).getD 1 0 then false else x.rateThr
    let s := s.setGroup g { x with rate := rate, rateWarn := warn, rateThr := thr }
    let s := if warn ∧ !x.rateWarn then s.thmRec 0x08 0 g else s
    if thr ∧ !x.rateThr then s.thmRec 0x09 0 g else s

/-! Sectors (R425, R428, R429). -/

def sectorGroups (n : Nat) : List Nat := [n, 8 + n, 16 + n]

def State.sectorHot (s : State) (n : Nat) : Bool :=
  (sectorGroups n).any (fun g => let x := s.thGroup g; decide (2 ≤ x.level) || x.rateThr || x.suspect)

/-- A sector is withdrawn at level 3, and while its Upper Face or Bedrock group is suspect. -/
def State.sectorCritical (s : State) (n : Nat) : Bool :=
  (sectorGroups n).any (fun g => let x := s.thGroup g; x.level == 3 || (x.suspect && !(decide (8 ≤ g ∧ g < 16))))

/-- Throttle and withdrawal of a sector follow its groups. -/
def State.syncSector (s : State) (n : Nat) : State :=
  let hot := s.sectorHot n
  let s := if hot && !(s.thm.throttled.contains n) then s.odInc 0x2100 0x11 else s
  let s := { s with thm := { s.thm with throttled := if hot then insertNew s.thm.throttled n else without s.thm.throttled n } }
  let out := s.sectorCritical n
  let was := s.thm.withdrawn.contains n
  let s := { s with thm := { s.thm with withdrawn := if out then insertNew s.thm.withdrawn n else without s.thm.withdrawn n } }
  let s := if out then s.raiseHold n else if was then s.dropHold n else s
  s.syncUrgent

/-! Commands. -/

/-- The reference sensors of a layer: it is compensated against the mean of the pair, or against the higher of the two while they
differ by more than 3 °C (R422). -/
def State.refCheck (s : State) (g : Nat) (refs : Int × Int) : State :=
  let l := groupLayer g
  if 24 ≤ g then s
  else
  let apart := decide (30 < (refs.1 - refs.2).natAbs)
  let c := if apart then 2 * (if refs.1 < refs.2 then refs.2 else refs.1) else refs.1 + refs.2
  let s := { s with thm := { s.thm with refComp := SMap.put s.thm.refComp l c } }
  if apart then
    (if s.thm.refMis.contains l then s
     else ({ s with thm := { s.thm with refMis := insertNew s.thm.refMis l } }).report
       (s.mkRec 0x0E 0x02 0 l noUnit noUnit noUnit 0 none 0))
  else { s with thm := { s.thm with refMis := without s.thm.refMis l } }

/-- The temperatures of a group from its readings. -/
def State.groupTemps (s : State) (g : Nat) (temps : List Int) (plf : Nat) : State :=
  let x := s.thGroup g
  let s := s.setGroup g { x with meas := maxInt x.meas (validTemps x temps), dev := x.deviations temps }
  if 8 ≤ g ∧ g < 16 then
    let s := { s with thm := { s.thm with power := SMap.put s.thm.power (g - 8) plf } }
    let (t, s) := s.inferNext (g - 8)
    let x := s.thGroup g
    s.setGroup g { x with inferred := t, valid := true, eff := if x.suspect ∨ x.meas < t then t else x.meas,
                          hot := if x.meas + 10 * (s.odNat 0x2100 0x0C : Int) < t then x.hot + 1 else 0 }
  else
    let x := s.thGroup g
    s.setGroup g { x with valid := true, eff := if x.suspect then x.eff else x.meas }

/-- THERMAL_SAMPLE: one sample of a group's sensors, of its sector's Lower Face power, W, and of its layer's reference pair.
DEDUCED: log entry 105. -/
def execThermalSample (group : Fin 32) (temps : List Int) (plf : Fin 65536) (refs : Int × Int) (s : State) : Out :=
  if temps.length ≠ sensorCount group.val then .fault .illFormed
  else .next (
    let g := group.val
    if !s.groupPowered g then s
    else
      let out := outOfRange (s.thGroup g) temps
      let s := out.foldl (fun s i => (s.setGroup g ((s.thGroup g).exclude g i)).thmRec 0x01 0 g) s
      let s := (s.refCheck g refs).groupTemps g temps plf.val
      let x := s.thGroup g
      let s := if x.suspect && !(decide (8 ≤ g ∧ g < 16)) then s
        else
          let s := s.setGroup g { x with hist := (x.eff :: x.hist).take 64 }
          (((s.rates g).levelRise g).levelCounts g)
      if g < 24 then s.syncSector (g % 8) else s)

/-- THERM_SENSOR_FAULT: fifty samples are 1 ms. -/
def execThermSensorFault (group : Fin 32) (sensor : Nat) (s : State) : Out :=
  .next (
    let x := s.thGroup group.val
    if x.excluded.contains sensor ∨ SMap.get 0 x.dev sensor < 50 then s
    else
      let s := (s.setGroup group.val { x.exclude group.val sensor with dev := SMap.drop x.dev sensor }).thmRec 0x01 0 group.val
      if group.val < 24 then s.syncSector (group.val % 8) else s)

/-- THERM_SENSOR_SUSPECT: the gap has held for the suspect time. -/
def execThermSensorSuspect (group : Fin 32) (s : State) : Out :=
  .next (
    let g := group.val
    let x := s.thGroup g
    if x.suspect ∨ ¬ (8 ≤ g ∧ g < 16) ∨ x.hot < 50 * s.odNat 0x2100 0x0D then s
    else ((s.setGroup g { x with suspect := true }).thmRec 0x03 2 g).syncSector (g - 8))

/-- LEVEL_FALL: fifty samples below the threshold are 1 ms. -/
def execLevelFall (group : Fin 32) (s : State) : Out :=
  .next (
    let g := group.val
    let x := s.thGroup g
    if x.cool < 50 ∨ x.level = 0 then s
    else
      let s := s.setGroup g { x with level := x.level - 1, cool := 0 }
      if g < 24 then s.syncSector (g % 8) else s)

/-- THERM_SHUTDOWN (R432). -/
def execThermShutdown (group : Fin 32) (s : State) : Out :=
  .next (
    let g := group.val
    if !s.pwr.converter ∨ (s.thGroup g).overShut < 2 then s
    else
      let r := s.mkRec 0x0E 0x07 4 (groupLayer g) (BitVec.ofNat 32 g) noUnit noUnit 0 none 0
      let n := s.rel.seq + s.rel.queue.length
      let s := s.converterOff.report r
      { s with thm := { s.thm with latch := true, lastShut := r.bytes n }, pins := { s.pins with tripN := true } })

/-- SHUTDOWN_LATCH_CLEAR (R433): both inputs are absent. -/
def execShutdownLatchClear (s : State) : Out :=
  .next (
    if s.pwr.aux ∨ s.pwr.main then s
    else { s with thm := { s.thm with latch := false }, pins := { s.pins with tripN := false } })

end Sys2Proof.Machine
end

