-- ==== Sys2Proof/Machine/Reliability.lean ====
section
/-! DEFINITION. Delivery of error records, the actions of severities, NOTIFY, the management core pair (R364, R475–R489). -/

namespace Sys2Proof.Machine

/-! Actions of severities (R475, R484, R488). -/

/-- The capacity is reported (R488). -/
def State.capacityChange (s : State) : State :=
  let s := (s.odInc 0x2D30 2)
  let s := { s with rel := { s.rel with degraded := true } }
  if s.odNat 0x2D30 1 = 0xFFFF then s else (s.incOwn (s.odNat 0x2D30 1) 1).syncSettle

/-- Severity 2: capacity, and the retirement that the record's own rule leaves to R484: the tile of a stuck array.
DEDUCED: log entry 129. -/
def State.sev2 (s : State) (r : Rec) : State :=
  let s := s.capacityChange
  if r.cls = 0x07 ∧ r.code = 0x0A then s.loseTile (r.source.toNat % 144) else s

/-- The sectors that a record of severity 3 names: those of a lost Face rail (R409). DEDUCED: log entry 129. -/
def Rec.sectors (r : Rec) : List Nat :=
  if r.cls = 0x0D ∧ r.code = 0x05 then let g := r.source.toNat % 4; [2 * g, 2 * g + 1] else []

/-- Every task of a partition that has not ended aborts. -/
def State.abortPart (s : State) (p code : Nat) : State :=
  (s.sched.tasks.filter (fun k => k.part == p && decide (k.st = .placed))).foldl (fun s k => s.abortTaskOf p k.seq code) s

/-- Severity 3: each partition that holds a named sector is fatal and stops. -/
def State.sev3 (s : State) (r : Rec) : State :=
  let ps := (List.range 8).filter (fun p => r.sectors.any (fun n => mapPart (s.odGet 0x2B20 1) n == p))
  ps.foldl (fun s p => ((s.updPart p (fun x => { x with fatal := true })).abortPart p codeTaskFault).pausePart p) s

/-- Severity 4: every placed task aborts, the device scheduler stops fetching, ALERT_N goes low. -/
def State.sev4 (s : State) : State :=
  let s := (List.range 8).foldl (fun s p => s.abortPart p codeTaskFault) s
  { s with sched := { s.sched with running := false }, rel := { s.rel with fatal := true, alert := true } }

/-- The action of a record's severity. During a warm reset severities 3 and 4 wait for its end (R489). The action of a
record whose loss RECORD_LOST reports has been taken already. -/
def State.severity (s : State) (r : Rec) : State :=
  if r.cls = 0x11 ∧ r.code = 0x22 then s
  else if r.sev = 2 then s.sev2 r
  else if 3 ≤ r.sev ∧ s.bup.warmStep ≠ 0 then { s with rel := { s.rel with late := s.rel.late ++ [r] } }
  else if r.sev = 3 then s.sev3 r
  else if r.sev = 4 then s.sev4
  else s

/-! NOTIFY (R364). -/

/-- Whether a NOTIFY may be sent: a millisecond of the Bedrock count has passed since the last one (R364).
DESIGN CHOICE: log entry 84. -/
def State.notifyRoom (s : State) : Bool := s.mgp.notifyAt.all (fun t => decide (t + 100000 ≤ s.bedLosc))

/-- A NOTIFY with the record's bytes; a record that finds no room is counted. -/
def State.notify (s : State) (r : Rec) (seq : Nat) : State :=
  if r.sev < s.odNat 0x1100 5 ∨ s.odGet 0x1100 6 = 0 then s
  else if !s.notifyRoom then s.odInc 0x1100 7
  else
    let m : Deale := { command := 5, response := false, status := 0, session := 0, seq := s.mgp.notifySeq, index := 0, sub := 0,
                       role := 0, offset := 0, data := r.bytes seq, mac := s.odNat 0x1100 6 }
    { s with mgp := { s.mgp with outbox := s.mgp.outbox ++ [m], notifySeq := (s.mgp.notifySeq + 1) % 65536,
                                 notifyAt := some s.bedLosc } }

/-! Delivery (R478–R480). -/

/-- The record of a discarded one whose action has been taken, once there is room (R480). DEDUCED: log entry 128. -/
def State.reportLost (s : State) : State :=
  match s.rel.lost with
  | [] => s
  | r :: rs =>
    let full := if 2 ≤ r.sev then decide (1024 ≤ s.rel.queue.length) else decide (960 ≤ s.rel.queue.length)
    if full then s
    else ({ s with rel := { s.rel with lost := rs } }).report
      (s.mkRec 0x11 0x22 r.sev 0 r.source noUnit noUnit 0 none 0)

/-- RECORD_DELIVER. DEDUCED: log entry 130. -/
def execRecordDeliver (s : State) : Out :=
  .next (match s.firmware, s.rel.queue with
    | true, r :: rs =>
      let n := s.rel.seq
      let s := { s with rel := { s.rel with queue := rs, seq := (n + 1) % 2 ^ 64 } }
      let s := s.trace srcMgmt 0x0B r.layer (if r.ctx = 0x8000 then none else some (r.ctx.toNat % 256)) ((r.bytes n).take 16)
      let s := (s.severity r).logRecord r n
      (s.notify r n).reportLost
    | _, _ => s)

/-- SEVERITY_LINE: the action of a discarded record. DEDUCED: log entry 128. -/
def execSeverityLine (s : State) : Out :=
  .next (match s.firmware, s.rel.lines with
    | true, r :: rs =>
      let s := { s with rel := { s.rel with lines := rs, lost := s.rel.lost ++ [r] } }
      (s.severity r).reportLost
    | _, _ => s)

/-! Management cores (R485–R487). -/

/-- HEARTBEAT: the standby hears the active core. What missed heartbeats lead to is MGT_FAILOVER. DEDUCED: log entry 127. -/
def execHeartbeat (s : State) : Out := .next s

/-- MGT_FAILOVER: the standby begins its takeover; hardware throttles until it is complete. DEDUCED: log entry 126. -/
def execMgtFailover (s : State) : Out :=
  .next (
    if !s.rel.standby || s.rel.dead || s.rel.takeover then s
    else
      let s := if s.sec.signing then { s with sec := { s.sec with signing := false, repState := 3, report := [] } }.report
          (s.mkRec 0x12 0x14 0 0 noUnit noUnit noUnit 0 none 0) else s
      ({ s with rel := { s.rel with takeover := true } }).syncUrgent)

/-- TAKEOVER_COMPLETE: the other core is active, the failed one is held in reset. -/
def execTakeoverComplete (s : State) : Out :=
  .next (
    if !s.rel.takeover || s.rel.dead then s
    else
      let failed := Who.mgt s.rel.active
      let s := ({ s with rel := { s.rel with takeover := false, standby := false, active := 1 - s.rel.active } }).syncUrgent
      s.report (s.mkRec 0x11 0x20 2 0 noUnit noUnit (failed.waiter 0) 0 none 0))

/-- MGT_NO_CORE: no core is left. The record stays in the queue. -/
def execMgtNoCore (s : State) : Out :=
  .next (
    if s.rel.dead || (s.rel.standby && !s.rel.takeover) then s
    else
      let s := { s with rel := { s.rel with dead := true, standby := false, alert := true } }
      s.report (s.mkRec 0x11 0x21 4 0 noUnit noUnit noUnit 0 none 0))

/-- NO_CORE_CONVERTER_OFF. -/
def execNoCoreConverterOff (s : State) : Out := .next (if s.rel.dead && s.pwr.converter then s.converterOff else s)

end Sys2Proof.Machine
end

