-- ==== Sys2Proof/Machine/BringUp.lean ====
section
/-! DEFINITION. Bring-up (R436–R454): the stages, the merge of the unit map, training of the HBM stacks. -/

namespace Sys2Proof.Machine

def State.updBup (s : State) (f : Bup → Bup) : State := { s with bup := f s.bup }

/-- A record of class 0x0F with no unit. -/
def State.bringRec (s : State) (code sev : Nat) (object : W32) : State :=
  s.report (s.mkRec 0x0F code sev 0 noUnit object noUnit 0 none 0)

/-- The time that a stage took: no value is stated for it. DESIGN CHOICE: log entry 118. -/
def State.stageTime (s : State) (n : Nat) : State := let (v, s) := s.fresh; s.odSet 0x2201 n (v &&& 0xFFFF_FFFF)

/-- Bring-up stops and the device is REFUSED (R440, R441). -/
def State.bringStop (s : State) (cause : Nat) : State := s.updBup (fun b => { b with state := 4, cause := cause, stage := 6 })

/-- Bedrock cannot be repaired (R441). -/
def State.bedrockBad (s : State) : State := ((s.updBup (fun b => { b with bdrBad := true })).bringRec 0x03 4 noUnit).bringStop 0x100

/-! Stage 0 (R439, R491, R493). -/

/-- The bytes of the firmware image. -/
def Bup.imageBytes (b : Bup) : List Byte := (List.range (Config.imageLength b.image)).map (SMap.get 0xFF b.image)

/-- Whether the image in flash passes the checks of R439. -/
def State.imageGood (s : State) : Bool := s.bup.imageOk && Config.imageVerifies s.fuses.keyHash s.bup.image

/-- The ROM starts the image, or records why it does not and enters ROM recovery. -/
def State.startImage (s : State) : State :=
  let b := s.bup
  let s := s.measure 0 s.fuses.romDigest
  let refuse := fun code => (s.report (s.mkRec 0x12 code 4 0 noUnit noUnit noUnit 0 none 0)).romRecovery
  if !s.imageGood then refuse 0x01
  else if Config.imageSvn b.image < s.fuses.svnFloor then refuse 0x10
  else
    let s := (s.measure 1 b.imageBytes).measure 2 [byteOf s.fuses.svnFloor, byteOf s.fuses.debugLock]
    s.updBup (fun b => { b with fw := true, fwVersion := Config.imageVersion b.image, svn := Config.imageSvn b.image % 256 })

/-- Firmware's part of stage 0: fuse votes by bit position, stored values, access tables. -/
def State.stage0 (s : State) (votes : List Nat) : State :=
  let s := s.startImage
  if !s.bup.fw then s
  else
    let s := votes.foldl (fun s v => s.bringRec 0x01 0 (BitVec.ofNat 32 v)) s
    let s := s.loadStored
    ((s.measure 3 s.copyMeasured).loadTables.stageTime 0).updBup (fun b => { b with stage := 1 })

/-! Stage 1. -/

/-- Scratch banks per slice by the setting of R230. -/
def scratchBanks (setting : Nat) : Nat := if setting = 0 then 0 else if setting = 1 then 32 else 64

/-- Whether the module converter can go on (R404, R433). -/
def State.canConvert (s : State) : Bool := s.pwr.aux && s.pwr.main && !s.thm.latch

/-- The module converter goes on. -/
def State.convert (s : State) : State := (s.updPwr (fun p => { p with converter := true })).newTargets

/-- The converter goes on, Bedrock runs, the layer oscillators count from 0; the sweeps of stage 2 begin.
DESIGN CHOICE: log entry 164. -/
def State.stage1 (s : State) : State :=
  let s := s.convert
  let s := (List.range 9).foldl (fun s i =>
    let (c, s) := s.choose 65536
    s.setRegion (16 + i) { Region.init with state := 3, holdWait := true, current := c }) s
  let s := { s with bedLosc := 0, lfLosc := 0, ufLosc := 0,
                    bed := { s.bed with nb := scratchBanks (s.odNat 0x2400 1), sweeping := true } }
  (s.syncVolts.stageTime 1).updBup (fun b => { b with stage := 2 })

/-! Stage 2 (R296, R299, R443). -/

/-- Whether every stack has been trained and swept, and Bedrock swept. -/
def State.memoriesDone (s : State) : Bool :=
  (List.range 8).all (fun n => (SMap.find s.bup.trained n).isSome && !(s.stack n).sweeping) && !s.bed.sweeping

/-- A fence is recorded (R299). DEDUCED: log entry 117. -/
def State.fenceRec (s : State) (n : Nat) (object : W32) : State :=
  s.report (s.mkRec 0x01 0x06 2 3 (BitVec.ofNat 32 n) object noUnit 0 none 0)

/-- The pseudo-channels with a row in the repair list of a stack. -/
def Stack.listedPcs (k : Stack) : Nat := (List.range 64).foldl (fun a p => if k.repair.any (fun e => fld e 32 32 == p) then a + 2 ^ p else a) 0

/-- Repair and fencing of a stack whose training has ended: `failed` the pseudo-channels that fail it, `noRes` those where a
listed row finds no repair resource. DEDUCED: log entry 117. -/
def State.fenceStack (s : State) (n : Nat) (trained : Bool) (failed noRes : W64) : State :=
  let k := s.stack n
  let f := failed ||| (noRes &&& BitVec.ofNat 64 k.listedPcs) ||| k.overflow
  let clear := { k with repair := [], overflow := 0, rowCes := [], trained := trained }
  if !trained || decide (8 < popCount 64 f.toNat) then (s.setStack n { clear with good := false, fenced := f }).fenceRec n noUnit
  else (onesFrom 64 0 f.toNat).foldl (fun s p => s.fenceRec n (BitVec.ofNat 32 p)) (s.setStack n { clear with fenced := f, sweeping := true })

/-- HBM_TRAINING_DONE. DESIGN CHOICE: log entry 116. -/
def execHbmTrainingDone (stack : Fin 8) (outcome : Fin 4) (failed noRes : W64) (s : State) : Out :=
  .next (
    let n := stack.val
    if s.bup.stage ≠ 2 ∨ s.bup.state ≠ 0 ∨ s.bup.held ∨ (SMap.find s.bup.trained n).isSome then s
    else
      let band := s.band (24 + n)
      let (s', ok, full) := s.trainItem n band outcome.val false false
      if !ok then s
      else
        let s := if full then s'.saveItem n band (s'.fuses.stackId n) else s'
        s.fenceStack n (outcome.val != 3) failed noRes)

/-! Stage 3. -/

/-- Enabled links begin to train; those of an open cage stay DOWN. The temperature bands of the slices are taken (R442). -/
def State.trainLinks (s : State) : State :=
  let s := s.updBup (fun b => { b with bands := (List.range 8).map (fun i => (16 + i, s.band (16 + i))) })
  (List.range 65).foldl (fun s l =>
    if !(s.link l).enable then s
    else if s.seated l then s.updLink l (fun k => { k with state := 2, retrainDue := false })
    else s.updLink l (fun k => { k with state := 1, retrainDue := true })) s

def State.linksDone (s : State) : Bool := (List.range 65).all (fun l => (s.link l).state != 2 && (s.link l).state != 3)

/-! Stage 4 (R446, R447). -/

/-- Sectors are switched on in ascending order. -/
def State.facesOn (s : State) : State := ((List.range 8).flatMap faceRegions).foldl State.requestRegion s

/-- Whether a region's switch-on has ended, on or off. -/
def State.facesDone (s : State) : Bool := (List.range 16).all (fun r => (s.region r).state != 1 && (s.region r).state != 2)

/-- What the lane test found, by tile: failed data lanes of each half, the fuses' bad lanes among them. -/
abbrev LaneTest := List (Fin 144 × Fin 2049 × Fin 2049)

/-- The spares that a tile's bundle needs (R396). -/
def laneSpares (lanes : LaneTest) (t : Nat) : Nat :=
  match lanes.find? (fun e => e.1.val == t) with | some e => e.2.1.val + e.2.2.val | none => 0

/-- Whether the fuses mark a tile bad; such a tile is not tested. -/
def Fuses.marks (f : Fuses) (t : Nat) : Bool := f.badTiles.contains t || decide (128 < SMap.get 0 f.badLanes t)

/-- The causes of R446 that hold for a tile before its rate is looked at. DESIGN CHOICE: log entry 116. -/
def State.testCauses (s : State) (found : List Nat) (lanes : LaneTest) (t : Nat) : Nat :=
  let off := (faceRegions (sectorOf t)).any (fun r => (s.region r).state != 3)
  (if s.fuses.marks t then 0x01 else 0) + (if found.contains t && !s.fuses.marks t then 0x02 else 0) + (if 128 < laneSpares lanes t then 0x04 else 0) +
  (if off then causeRail else 0) + (if s.listed t then 0x40 else 0)

/-- The causes by rate and margin: a first sample below a floor. DEDUCED: log entry 145. -/
def State.rateCauses (s : State) (t : Nat) : Nat :=
  let x := s.tile t
  if x.rate = 0 then 0
  else (if x.norm < s.odNat 0x2310 1 then 0x08 else 0) +
    (if fld x.rate 48 8 < s.odNat 0x2310 2 ∨ fld x.rate 56 8 < s.odNat 0x2310 2 then 0x10 else 0)

/-- Whether the work of stage 4 has ended: every sector on or refused, its stores swept, its tiles sampled, at a cold reset the lanes
tested, the fuses' bad lanes among what the test finds. -/
def State.facesReady (s : State) (found : List Nat) (lanes : LaneTest) : Bool :=
  s.facesDone && allTiles.all (fun t =>
    let x := s.tile t
    x.causes != 0 || s.testCauses found lanes t != 0 ||
      (!x.storing && x.rate != 0 && (s.bup.warmStep == 8 || decide (SMap.get 0 s.fuses.badLanes t ≤ laneSpares lanes t))))

/-- The lane test assigns spares at full width. -/
def State.applyLanes (s : State) (lanes : LaneTest) : State :=
  lanes.foldl (fun s e => s.updTile e.1.val (fun x =>
    { x with vbBad0 := e.2.1.val, vbBad1 := e.2.2.val, vbSpares := min 128 (e.2.1.val + e.2.2.val), vbWidth := 0, vbPaused := false })) s

/-- Marks are merged as a union; within each sector the 16 lowest good tiles are active, the others spare (R447). -/
def State.mergeUnits (s : State) (found : List Nat) (lanes : LaneTest) : State :=
  let s := s.applyLanes lanes
  let s := allTiles.foldl (fun s t =>
    let c := s.testCauses found lanes t ||| s.rateCauses t
    s.updTile t (fun x => { x with causes := x.causes ||| c })) s
  (List.range 8).foldl (fun s n =>
    let good := (sectorTiles n).filter (fun t => (s.tile t).causes == 0)
    let s := (sectorTiles n).foldl (fun s t =>
      let r := if (s.tile t).causes ≠ 0 then 2 else if (good.take 16).contains t then 0 else 1
      s.updTile t (fun x => { x with role := r })) s
    s.remap n) s

/-- The start-up hold is released (R107). -/
def State.releaseHold (s : State) : State :=
  let s := { s with startupHold := false }
  allTiles.foldl (fun s t => s.updArr t (fun a => a.riddlePoint (s.riddle t))) s

def State.stage4 (s : State) (found : List Nat) (lanes : LaneTest) : State := (s.mergeUnits found lanes).releaseHold

/-! Stage 5 (R450). -/

/-- The class of one link is acted on. DEDUCED: log entry 113. -/
def State.topoLink (s : State) (l : Nat) : State :=
  let rec_ := fun sev => s.report (s.mkRec 0x0F 0x05 sev 0 (BitVec.ofNat 32 l) noUnit noUnit 0 none 0)
  match s.topoClass l with
  | .good => s
  | .absent => rec_ 0
  | .wrong => (rec_ 2).setEnable l false
  | .unexpected => (rec_ 2).setEnable l false

def State.stage5 (s : State) : State :=
  let bad := !s.topoHolds
  let s := (List.range 65).foldl State.topoLink s
  (s.updBup (fun b => { b with topoBad := bad, stage := 6 })).decideReady

/-! The stages in order (R440). -/

/-- The end of a warm reset (R466 step 9): the decision, then the records that waited for it; with one of severity 4, or of
severity 3 that names a sector, the scheduler is not released (R489). DEDUCED: log entry 146. -/
def State.warmEnd (s : State) : State :=
  let s := (s.updBup (fun b => { b with warmStep := 0, stage := 6 })).decideReady
  let late := s.rel.late
  let s := late.foldl State.severity { s with rel := { s.rel with late := [] } }
  if late.any (fun r => r.sev == 4 || !r.sectors.isEmpty) then { s with sched := { s.sched with running := false } } else s

/-- BRINGUP_STAGE_COMPLETE (at a warm reset no lane is tested, R395): `found` holds what the stage's tests report (stage 0: bit positions on which the fuse copies
disagree; stages 1 and 2: failures of the Bedrock network, subarrays beyond repair; stage 4: tiles that fail BIST).
DESIGN CHOICE: log entry 116. -/
def execBringupStageComplete (found : List Nat) (lanes : LaneTest) (s : State) : Out :=
  .next (
    let b := s.bup
    if b.warmStep = 8 then (if s.facesReady found [] then ((s.stage4 found []).stageTime 4).warmEnd else s)
    else if b.held ∨ b.rom ∨ b.state ≠ 0 ∨ b.warmStep ≠ 0 then s
    else match b.stage with
      | 0 => s.stage0 found
      | 1 =>
        if !s.canConvert then s
        else if found.isEmpty then s.stage1 else s.stage1.bedrockBad
      | 2 =>
        if !found.isEmpty then s.bedrockBad
        else if s.memoriesDone then ((s.trainLinks).stageTime 2).updBup (fun b => { b with stage := 3 }) else s
      | 3 => if s.linksDone then (s.facesOn.stageTime 3).updBup (fun b => { b with stage := 4 }) else s
      | 4 =>
        if s.facesReady found lanes then ((s.stage4 found lanes).stageTime 4).updBup (fun b => { b with stage := 5 }) else s
      | 5 => (s.stageTime 5).stage5
      | _ => s)

/-- A stage other than 3 exceeds its limit under firmware. -/
def State.stageLate (s : State) (n : Nat) : State :=
  ((s.updBup (fun b => { b with stagesOver := [n] })).bringRec 0x02 4 noUnit).bringStop 0x80

/-- Links that are not UP stay DOWN until their holdoff ends. DEDUCED: log entry 112. -/
def State.linksGiveUp (s : State) : State :=
  (List.range 65).foldl (fun s l =>
    s.updLink l (fun k => if k.state = 2 ∨ k.state = 3 then { k with state := 1, retrainDue := true } else k)) s

/-- BRINGUP_STAGE_TIMEOUT. In stage 0 whether the image had started is a free choice where the image can start.
DESIGN CHOICE: log entry 3. DEDUCED: log entry 112. -/
def execBringupStageTimeout (s : State) : Out :=
  .next (
    let b := s.bup
    if b.warmStep = 8 then (s.stageLate 4).updBup (fun b => { b with warmStep := 0 })
    else if b.held ∨ b.rom ∨ b.state ≠ 0 ∨ b.warmStep ≠ 0 then s
    else match b.stage with
      | 0 =>
        let (c, s) := s.choose 2
        let t := s.startImage
        if c = 1 ∧ t.bup.fw then t.stageLate 0 else (s.bringRec 0x02 4 noUnit).romRecovery
      | 1 => (if s.canConvert then s.convert else s).stageLate 1
      | 2 => s.stageLate 2
      | 3 => ((s.linksGiveUp.stageTime 3).updBup (fun b => { b with stage := 5 }))
      | 4 => s.stageLate 4
      | 5 => s.stageLate 5
      | _ => s)

end Sys2Proof.Machine
end

