-- ==== Sys2Proof/Machine/Debug.lean ====
section
/-! DEFINITION. The end of a halt (R501), the trace output (R508), the tensor dump (R509). -/

namespace Sys2Proof.Machine

/-! Halt (R501). -/

/-- Whether everything of a tile that had begun has finished: the core stands at a boundary, no pass has rows in the array, no
started descriptor and no request is left. -/
def State.drained (s : State) (t : Nat) : Bool :=
  let x := s.tile t
  (x.core.st == 4 || x.core.st == 0 || x.core.st == 5) && (x.arr.stuck || x.arr.passes.all (fun p => p.rowsIn == 0)) &&
  x.movers.all (fun m => m.2.all (fun e => !e.started)) && x.tge.gmx.all (fun e => e.2.isEmpty) && x.tge.slots.all (fun g => g.2.loads.isEmpty) &&
  !s.tileReqs t

/-- HALT_COMPLETE. -/
def execHaltComplete (t : Fin 144) (s : State) : Out :=
  .next (
    let x := s.tile t.val
    if x.dbg.state ≠ 1 ∨ !s.drained t.val then s
    else
      let s := s.setTile t.val { x with dbg := { x.dbg with state := 2, halts := wrapAdd 32 x.dbg.halts 1 },
                                        tge := { x.tge.rcFlush with turn := [] } }
      let s := s.traceTile t.val 0x0C (leBytes 8 x.core.pc.toNat ++ leBytes 1 x.dbg.cause)
      if x.dbg.cause = 2 ∨ x.dbg.cause = 3 then
        s.report (s.mkRec 0x13 0x01 0 1 (BitVec.ofNat 32 t.val) noUnit noUnit x.core.pc (s.tileCtx t.val) 0)
      else s)

/-- DBG_DRAIN_LATE: recorded once for a drain. -/
def execDbgDrainLate (t : Fin 144) (s : State) : Out :=
  .next (
    let x := s.tile t.val
    if x.dbg.state ≠ 1 ∨ x.dbg.drainLate then s
    else
      let s := s.setTile t.val { x with dbg := { x.dbg with drainLate := true } }
      s.report (s.mkRec 0x13 0x02 0 1 (BitVec.ofNat 32 t.val) noUnit noUnit x.core.pc (s.tileCtx t.val) 0))

/-! Trace output. -/

/-- A store of the trace unit to local HBM: false where it is refused. -/
def State.traceStore (s : State) (off : Nat) (bs : List Byte) : State × Bool :=
  match s.access (newReq .trace 0 .store (s.globalOf off).toNat bs.length (clean bs) 0) .W with
  | (s, some _) => (s, true)
  | (s, none) => (s, false)

/-- The oldest record of the buffer leaves it. -/
def State.tracePop (s : State) : State :=
  s.updTrc (fun x =>
    let buf := x.buf.drop 1
    { x with buf := buf, urgent := s.tide x.urgent (32 * buf.length) (32 * traceCap) })

/-- A record is placed in the line of the ring; a full line is written, or refused with TRC_DENY. -/
def State.ringPut (s : State) (r : TraceRec) : State :=
  let line := s.trc.line ++ r
  if line.length < 256 then s.updTrc (fun x => { x with line := line })
  else
    let pos := s.trc.ringPos
    match s.traceStore (s.odNat 0x2E01 5 + pos % s.odNat 0x2E01 6) line with
    | (s, true) => s.updTrc (fun x => { x with line := [], ringPos := (pos + 256) % 2 ^ 64 })
    | (s, false) =>
      (s.updTrc (fun x => { x with line := [], stopped := true })).report
        (s.mkRec 0x13 0x04 0 0 noUnit noUnit (Who.trace.waiter 0) (s.globalOf (s.odNat 0x2E01 5 + pos % s.odNat 0x2E01 6)) (some 0) 0)

/-- TRACE_OUTPUT. -/
def execTraceOutput (s : State) : Out :=
  .next (match s.trc.buf with
    | [] => s
    | (_, r) :: _ =>
      if s.odGet 0x2E01 1 = 1 then s.tracePop.updTrc (fun x => { x with port := x.port ++ [r] })
      else if s.odGet 0x2E01 1 = 2 ∧ !s.trc.stopped ∧ s.odNat 0x2E01 6 ≠ 0 then s.tracePop.ringPut r
      else s)

/-! Tensor dump. -/

/-- DUMP_READ_START: the pass has released its write of TAG_OUT. -/
def execDumpReadStart (s : State) : Out :=
  .next (match s.trc.dump with
    | none => s
    | some d => if mayRead (s.tile d.tile).sb d.op d.pd.tagOut false then s.updTrc (fun x => { x with reading := true }) else s)

/-- The OUT operand row by row, packed. -/
def State.dumpData (s : State) (d : DumpRun) : List Byte × State :=
  (List.range d.pd.m).foldl (fun (acc : List Byte × State) m =>
    let (bs, s) := acc.2.memRead (.store d.tile (d.pd.outAddr + m * d.pd.outStride)) (d.pd.nCols * d.pd.outSize) (Who.waiter .debug 0)
    (acc.1 ++ vals bs, s)) ([], s)

/-- The dump header. -/
def DumpRun.header (d : DumpRun) (written : Nat) (truncated : Bool) : List Byte :=
  takeAt (leBytes 4 d.name ++ leBytes 4 d.pass ++ leBytes 1 d.tile ++ leBytes 1 d.index ++ leBytes 1 d.pd.mode ++ leBytes 1 d.pd.outFmt ++
    leBytes 2 d.pd.nCols ++ leBytes 2 d.pd.m ++ leBytes 8 d.seq ++ leBytes 4 written ++ leBytes 1 (if truncated then 1 else 0)) 0 64

/-- Write bytes to the buffer in lines of 256 bytes, until one is refused. -/
def State.dumpLines : Nat → State → Nat → List Byte → State × Bool
  | 0, s, _, _ => (s, true)
  | f + 1, s, off, bs =>
    if bs.isEmpty then (s, true)
    else match s.traceStore off (bs.take 256) with
      | (s, true) => State.dumpLines f s (off + 256) (bs.drop 256)
      | (s, false) => (s, false)

/-- Where the dump of a tile lies in HBM, and how many bytes it may take: the whole buffer, or the part of its task tile.
DEDUCED: log entry 137. -/
def State.dumpPart (s : State) (d : DumpRun) : Nat × Nat :=
  let size := s.odNat 0x2E10 6
  if s.odNat 0x2E10 3 = 0xFF then
    let part := size / max d.tiles 1 / 256 * 256
    (s.odNat 0x2E10 5 + d.index * part, part)
  else (s.odNat 0x2E10 5, size)

/-- The dump to HBM: the state and OD 0x2E10.07. DEDUCED: log entry 137. -/
def State.dumpHbm (s : State) (d : DumpRun) (data : List Byte) : State × Nat :=
  let (base, part) := s.dumpPart d
  let n := min data.length (part - 64)
  let cut := decide (n < data.length)
  let bytes := (d.header n cut ++ data.take n).take part
  match State.dumpLines (bytes.length / 256 + 1) s base bytes with
  | (s, true) => (s, if cut then 3 else 2)
  | (s, false) => (s.report (s.mkRec 0x13 0x05 0 1 (BitVec.ofNat 32 d.tile) noUnit (Who.trace.waiter 0) (s.globalOf base) (some d.ctx) 0), 4)

/-- The records that a dump to the trace port has still to generate: TENSOR_HEAD as 0, chunk i of the data as i + 1, of the types
and sources that the masks select (R508). DEDUCED: log entry 137. -/
def State.dumpTodo (s : State) (d : DumpRun) : List Nat :=
  ((List.range (1 + (d.pd.m * (d.pd.nCols * d.pd.outSize) + 15) / 16)).filter (fun i =>
    s.traced (srcTile d.tile) (if i = 0 then 0x0E else 0x0F))).drop d.sent

/-- One record of a dump to the trace port enters the buffer; TENSOR_DATA holds its chunk number in bytes 13–15. -/
def State.dumpRecord (s : State) (d : DumpRun) (data : List Byte) (i : Nat) : State :=
  let src := srcTile d.tile
  if i = 0 then s.tracePut src 0x0E 1 (some d.ctx) ((d.header data.length false).take 16)
  else
    let n := SMap.get 0 s.trc.seq src
    let r := s.traceBytes src 0x0F 1 n (some d.ctx) (takeAt data (16 * (i - 1)) 16)
    let buf := s.trc.buf ++ [(src, r.take 13 ++ leBytes 3 (i - 1) ++ r.drop 16)]
    s.updTrc (fun x => { x with buf := buf, seq := SMap.put x.seq src ((n + 1) % 2 ^ 32),
                                urgent := s.tide x.urgent (32 * buf.length) (32 * traceCap) })

/-- The read registration is released; OD 0x2E10.07 takes the outcome. -/
def State.dumpEnd (s : State) (d : DumpRun) (st : Nat) : State :=
  ((s.release d.tile d.op .dumpRead).updTrc (fun x => { x with dump := none, reading := false })).odSet 0x2E10 7 (BitVec.ofNat 64 st)

/-- DUMP_COMPLETE. Records for the trace port that find no room in the buffer wait, and the dump ends by a later DUMP_COMPLETE.
DEDUCED: log entry 137. -/
def execDumpComplete (s : State) : Out :=
  .next (match s.trc.dump with
    | none => s
    | some d =>
      if !s.trc.reading then s
      else
        let todo := s.dumpTodo d
        let room := traceCap - s.trc.buf.length
        let port := s.odGet 0x2E10 4 == 1
        let (data, s) := s.dumpData d
        if port then
          let s := (todo.take room).foldl (fun s i => s.dumpRecord d data i) s
          if todo.length ≤ room then s.dumpEnd d 2
          else s.updTrc (fun x => { x with dump := some { d with sent := d.sent + room } })
        else
          let (s, st) := s.dumpHbm d data
          s.dumpEnd d st)

end Sys2Proof.Machine
end

