-- ==== Sys2Proof/Machine/RowOps.lean ====
section
/-! DEFINITION. In-bank row operations (R267–R286). -/

namespace Sys2Proof.Machine

/-! Codes of class 0x02 (R282, R481). -/
def ROP_VERSION : Nat := 0x01
def ROP_RESERVED : Nat := 0x02
def ROP_FIELD : Nat := 0x03
def ROP_ALIGN : Nat := 0x04
def ROP_RANGE : Nat := 0x05
def ROP_ACT_DENY : Nat := 0x06
def ROP_SRC_UE : Nat := 0x10
def ROP_STUCK : Nat := 0x11
def ROP_QUEUE_FULL : Nat := 0x12

/-! The descriptor (R269). -/

def ropOp (ws : List W64) : Nat := fld (wd ws 0) 0 4
def ropStatusEn (ws : List W64) : Bool := bitOf (wd ws 0) 8
def ropCount (ws : List W64) : Nat := fld (wd ws 0) 16 9 + 1
def ropSrc (ws : List W64) (i : Nat) : Nat := fld (wd ws 0) (32 + 9 * i) 9
def ropDst (ws : List W64) : Nat := (wd ws 1).toNat
def ropStat (ws : List W64) : Nat := (wd ws 3).toNat

/-- Sources of an operation (R268). -/
def ropSources (op : Nat) : Nat := if op = 1 then 0 else if op = 0 ∨ op = 2 then 1 else if op = 6 then 3 else 2

/-- Weight of a start (R277). -/
def ropWeight (op : Nat) : Nat := if op = 1 then 1 else 4

/-- The scratch offset of an address, and the Bedrock place of a destination row. -/
def scratchOff (a : Nat) : Nat := addrOffset a - 0x100_0000_0000
def State.ropPhys (s : State) (ws : List W64) : Nat := scratchPhys s.bed.nb (scratchOff (ropDst ws))

/-- Row r of the subarray that holds a row (R232, R269). -/
def subRow (phys r : Nat) : Nat := (phys / 8388608) * 8388608 + (physRow phys / 512 * 512 + r) * 2048

/-- The global address of row r of the subarray of a scratch address. -/
def State.rowAddr (s : State) (dst r : Nat) : Nat :=
  let step := s.bed.nb * 16384
  let y := scratchOff dst
  let cur := physRow (scratchPhys s.bed.nb y) % 512
  (s.globalOf (0x100_0000_0000 + (y - cur * step + r * step))).toNat

/-- Checks 3–5 of R270, each alone. -/
def State.ropFieldOk (s : State) (ws : List W64) : Bool :=
  let op := ropOp ws
  let r := physRow (s.ropPhys ws) % 512
  let used := (List.range 3).filter (fun i => decide (i < ropSources op))
  let rows := r :: used.map (ropSrc ws)
  decide (op ≤ 6) && (List.range 3).all (fun i => decide (i < ropSources op) || ropSrc ws i == 0) &&
  (op == 1 || (ropCount ws == 1 && wd ws 2 == 0)) && decide rows.Nodup &&
  (op != 1 || decide (r + ropCount ws ≤ 512)) && (ropStatusEn ws || ropStat ws == 0)
def ropAlignOk (ws : List W64) : Bool := decide (ropDst ws % 2048 = 0 ∧ ropStat ws % 8 = 0)
def State.ropRangeOk (s : State) (ws : List W64) : Bool :=
  addrFormatOk (ropDst ws) && s.isLocal (ropDst ws) && regionOf (addrOffset (ropDst ws)) == some .scratch &&
    s.backed (addrOffset (ropDst ws)) .scratch

/-- The checks of R270. -/
def State.ropCheck (s : State) (ws : List W64) : Option Nat :=
  if fld (wd ws 0) 62 2 ≠ 0 then some ROP_VERSION
  else if wd ws 0 &&& 0x3800_0000_FE00_FEF0 ≠ 0 then some ROP_RESERVED
  else if !s.ropFieldOk ws then some ROP_FIELD
  else if !ropAlignOk ws then some ROP_ALIGN
  else if !s.ropRangeOk ws then some ROP_RANGE
  else none

/-- The addresses of the rows that an operation names. -/
def State.ropRows (s : State) (ws : List W64) : List Nat :=
  let r := physRow (s.ropPhys ws) % 512
  let dst := if ropOp ws = 1 then (List.range (ropCount ws)).map (fun i => r + i) else [r]
  (dst ++ (List.range (ropSources (ropOp ws))).map (ropSrc ws)).map (s.rowAddr (ropDst ws))

/-- A record of class 0x02 (R283). -/
def State.ropRec (s : State) (code sev : Nat) (ws : List W64) (who : Who) (ctx count first : Nat) (retry : Bool) : State :=
  let known := s.ropRangeOk ws
  let p := s.ropPhys ws
  let src : W32 := if known then BitVec.ofNat 32 (physBank p) else noUnit
  let obj : W32 := if known then BitVec.ofNat 32 (physRow p) else noUnit
  s.report (s.mkRec 0x02 code sev 0 src obj (who.waiter 0) (wd ws 1) (some ctx)
    (detField 38 8 (wd ws 0).toNat ||| detField 46 2 count ||| detByte 48 first ||| detByte 49 (if retry then 1 else 0)))

/-- Severity of a record about a descriptor: 1 from a mover, 0 from a submit queue (R481). -/
def ropSev (mover : Option (Nat × Nat × Nat)) : Nat := if mover.isSome then 1 else 0

/-- The engine writes the status word (R282), on the issuer's behalf. The request names the descriptor of the mover that
waits for it. DEDUCED: log entry 58. -/
def State.ropStatus (s : State) (slice : Nat) (ws : List W64) (who : Who) (ctx code corrected poisoned state : Nat)
    (mover : Option (Nat × Nat × Nat)) : State :=
  if !(ropStatusEn ws && decide (ropStat ws % 8 = 0)) then s
  else match s.checkAccess who.mid ctx .W (ropStat ws) 8 with
    | .error _ => s
    | .ok ok =>
      let v := place code 48 8 ||| place corrected 32 16 ||| place poisoned 16 16 ||| place state 0 2
      let r := newReq (.rop slice) ctx .store (ropStat ws) 8 (clean (leBytes 8 v.toNat)) 0
      let r := match mover with | some (t, m, op) => { r with aux := ropMoverKey t m, op := op } | none => r
      (s.issue r ok).1

/-- A row operation of a mover's descriptor has ended. -/
def State.ropEnded (s : State) (mover : Option (Nat × Nat × Nat)) : State :=
  match mover with
  | some (t, m, op) => s.updEnt t m op (fun e => { e with rops := e.rops - 1 })
  | none => s

/-- A descriptor is rejected (R282): its record, its status, and the abort of a mover's task. -/
def State.ropReject (s : State) (slice code : Nat) (ws : List W64) (who : Who) (ctx : Nat) (mover : Option (Nat × Nat × Nat)) : State :=
  let s := (s.ropRec code (ropSev mover) ws who ctx 0 0 false).ropStatus slice ws who ctx code 0 0 3 mover
  match mover with | some (t, _, _) => s.abortTask t codeTaskFault | none => s

/-- The slice of a bank number, and the bank group (R277). -/
def groupOfBank (b : Nat) : Nat := b / 8

/-- Hand a descriptor to its bank (R270–R273): rejected, refused, or queued. It waits where the bank's queue is full, and where
its slice port does not let it in (R307, R308). The second component tells whether it went. -/
def State.ropHand (s : State) (slice : Nat) (ws : List W64) (bad : Bool) (who : Who) (ctx : Nat) (mover : Option (Nat × Nat × Nat)) :
    State × Bool :=
  let code := if bad then some (if mover.isSome && decide (fld (wd ws 0) 62 2 ≠ 0) then ROP_VERSION else ROP_RESERVED) else s.ropCheck ws
  match code with
  | some c => (s.ropReject slice c ws who ctx mover, true)
  | none =>
    let p := s.ropPhys ws
    let b := physBank p
    let sl := b / 64
    let deny := (s.ropRows ws).findSome? (fun a => match s.checkAccess who.mid ctx .O a 2048 with
      | .error (c, t) => some (a, c, t) | .ok _ => none)
    let deny := match deny, ropStatusEn ws with
      | none, true => (match s.checkAccess who.mid ctx .W (ropStat ws) 8 with
        | .error (c, t) => some (ropStat ws, c, t) | .ok _ => none)
      | d, _ => d
    match deny with
    | some (a, c, t) => ((s.refuse who ctx c t a).ropReject sl ROP_ACT_DENY ws who ctx mover, true)
    | none =>
      let k := s.bank b
      if k.stuck then
        ((s.ropRec ROP_STUCK 2 ws who ctx 0 0 false).ropStatus sl ws who ctx ROP_STUCK 0 0 3 mover, true)
      else if 4 ≤ k.queue.length then (s, false)
      else
        let (s, here) := if s.bundleHeld who.mid (ropDst ws) then (s, false) else s.portPass sl who.mid (s.clsAt who.mid ctx .O (ropDst ws) 2048) 1
        if !here then (s, false)
        else
          let n := s.slice sl
          let e : RopEnt := { words := ws, who := who, ctx := ctx, mover := mover, retry := false, corrected := 0, waited := false,
                              initAt := 0, order := n.ropOrder }
          let s := s.setSlice sl { n with ropOrder := n.ropOrder + 1 }
          let s := s.setBank b { k with queue := k.queue ++ [e] }
          (match mover with | some (t, m, op) => s.updEnt t m op (fun e => { e with rops := e.rops + 1 }) | none => s, true)

/-- Thirty-two bytes of a descriptor as its words, and whether one was poisoned. -/
def ropWords (bs : List PByte) : List W64 × Bool := (wordsOf bs 4, poisoned bs)

/-- DMA_ROWOP (R272): the descriptor starts where its tags let it; its next row-op descriptor is read and handed to its bank.
With a full bank queue the mover waits. -/
def execDmaRowop (t : Fin 144) (m : Fin 4) (s : State) : Out :=
  .next (
    let s0 := s
    let s := s.startDma t.val m.val 3
    let x := s.tile t.val
    match x.issuing m.val with
    | none => s
    | some e =>
      if e.dd.op ≠ 3 ∨ x.aborting then s0
      else
        let a := (e.dd.src.toNat + e.row * 32) % 2 ^ 64
        let who := Who.mover t.val m.val
        let next := fun (s : State) => s.updEnt t.val m.val e.op (fun e =>
          { e with row := e.row + 1, issued := decide (e.dd.rows ≤ e.row + 1) })
        let hint := if a % 256 == 224 || decide (e.dd.rows ≤ e.row + 1) then e.dd.lastUse else 0
        match s.directPeek who x.ctx .R a 32 e.op hint with
        | (s, .wait) => s
        | (s, .denied c tg) => next (s.refuse who x.ctx c tg a)
        | (s, .failed _ _) => next (s.dropDirect who e.op)
        | (s, .bytes bs) =>
          let (ws, bad) := ropWords bs
          (match (next (s.dropDirect who e.op)).ropHand (sectorOf t.val) ws bad who x.ctx (some (t.val, m.val, e.op)) with
          | (s', true) => s'
          | (s', false) => { s with ports := s'.ports }))

/-- ROP_SUBMIT (R272). The record of a dropped write has no DST to name: its descriptor is never read. DEDUCED: log entry 163. -/
def execRopSubmit (w : Wr) (s : State) : Out :=
  .next (match s.takeWr w (inCtrl (fun c => decide (0x400_0000 ≤ c ∧ c < 0x408_0000) && c % 0x1_0000 / 8 == 0x118 / 8)) with
    | (s, none) => s
    | (s, some x) =>
      let n := (x.off - 0x103_0400_0000) / 0x1_0000
      let k := s.slice n
      let a := (x.merge 0).toNat / 32 * 32
      if 64 ≤ k.submit.length then
        ((s.setSlice n { k with ropOverflow := true }).odInc 0x2410 5).report
          (s.mkRec 0x02 ROP_QUEUE_FULL 0 0 noUnit noUnit (x.who.waiter 0) 0 (some x.ctx) 0)
      else s.setSlice n { k with submit := k.submit ++ [(a, x.who, x.ctx)] })

/-- ROP_DESCRIPTOR_READ (R272): the oldest submitted descriptor is read, and handed to its bank when it has come. -/
def execRopDescriptorRead (slice : Fin 8) (s : State) : Out :=
  .next (
    match (s.slice slice.val).submit with
    | [] => s
    | (a, who, ctx) :: rest =>
      let op := 2 ^ 32 + slice.val
      let next := fun (s : State) => (s.dropDirect who op).updSlice slice.val (fun k => { k with submit := rest })
      match s.directPeek who ctx .R a 32 op 0 with
      | (s, .wait) => s
      | (s, .denied c tg) => (next (s.refuse who ctx c tg a)).ropRec ROP_ACT_DENY 0 [] who ctx 0 0 false
      | (s, .failed _ _) => (next s).ropRec ROP_RESERVED 0 [] who ctx 0 0 false
      | (s, .bytes bs) =>
        let (ws, bad) := ropWords bs
        (match (next s).ropHand slice.val ws bad who ctx none with
        | (s', true) => s'
        | (s', false) => { s with ports := s'.ports }))

/-! Starts (R276–R278). -/

/-- Whether a bank's head may start but for the window: nothing in progress, every waiting access served. -/
def State.headReady (s : State) (b : Nat) : Option RopEnt :=
  let k := s.bank b
  match k.queue with
  | [] => none
  | e :: _ => if k.busy || k.ended || k.stuck || k.serve.any (fun id => (s.findReq id).isSome) then none else some e

/-- Whether a start of a weight keeps within tROPW: 16 units in any 200 ns, 20 counts. -/
def State.windowFree (s : State) (b w : Nat) : Bool :=
  let l := SMap.get [] (s.slice (b / 64)).starts (groupOfBank b)
  let recent := l.filter (fun e => decide (s.bedLosc < e.1 + 20))
  decide ((recent.foldl (fun a e => a + e.2) 0) + w ≤ 16)

/-- Start the head of a bank, where it is of the operation. -/
def State.ropStart (s : State) (b op : Nat) : State :=
  match s.headReady b with
  | none => s
  | some e =>
    if ropOp e.words ≠ op then s
    else
      let w := ropWeight op
      let sl := b / 64
      if !s.windowFree b w then
        if e.waited then s
        else
          (s.updBank b (fun k => { k with queue := { e with waited := true } :: k.queue.drop 1 })).updSlice sl
            (fun k => { k with windowWaits := wrapAdd 32 k.windowWaits 1 })
      else
        let g := groupOfBank b
        let earlier := (List.range 8).any (fun i => match s.headReady (8 * g + i) with
          | some h => decide (h.order < e.order) && s.windowFree b (ropWeight (ropOp h.words))
          | none => false)
        if earlier then s
        else
          (s.updBank b (fun k => { k with busy := true, serve := [] })).updSlice sl (fun k =>
            let l := (SMap.get [] k.starts g).filter (fun e => decide (s.bedLosc < e.1 + 20))
            { k with starts := SMap.put k.starts g (l ++ [(s.bedLosc, w)]) })

/-- ROP_COPY. -/
def execRopCopy (b : Fin 512) (s : State) : Out := .next (s.ropStart b.val 0)
/-- ROP_INIT: its next row. DEDUCED: log entry 56. -/
def execRopInit (b : Fin 512) (s : State) : Out := .next (s.ropStart b.val 1)
/-- ROP_NOT. -/
def execRopNot (b : Fin 512) (s : State) : Out := .next (s.ropStart b.val 2)
/-- ROP_AND. -/
def execRopAnd (b : Fin 512) (s : State) : Out := .next (s.ropStart b.val 3)
/-- ROP_OR. -/
def execRopOr (b : Fin 512) (s : State) : Out := .next (s.ropStart b.val 4)
/-- ROP_XOR. -/
def execRopXor (b : Fin 512) (s : State) : Out := .next (s.ropStart b.val 5)
/-- ROP_MAJ3. -/
def execRopMaj3 (b : Fin 512) (s : State) : Out := .next (s.ropStart b.val 6)

/-! Completion (R279–R282). -/

/-- A result word (R268). DESIGN CHOICE: log entry 57. -/
def ropWord (op : Nat) (pat a b c : W64) : W64 :=
  if op = 0 then a
  else if op = 1 then pat
  else if op = 2 then ~~~ a
  else if op = 3 then a &&& b
  else if op = 4 then a ||| b
  else if op = 5 then a ^^^ b
  else (a &&& b) ||| (a &&& c) ||| (b &&& c)

/-- Correct the source words of a first attempt in place (R280): the words corrected. -/
def State.ropCorrect (s : State) (rows : List Nat) : State × Nat :=
  rows.foldl (fun acc p => (List.range 256).foldl (fun (acc : State × Nat) i =>
    let w := p / 8 + i
    match acc.1.mem.bed.look w with
    | (x, 1) =>
      let s := { acc.1 with mem := { acc.1.mem with bed := acc.1.mem.bed.putWord w x false } }
      (s.bedCe (8 * w) (s.bedOff (8 * w)), acc.2 + 1)
    | _ => acc) acc) (s, 0)

/-- Write the destination row: the memory, the free values used, the words poisoned, the first failing source. -/
def State.ropWrite (s : State) (op : Nat) (pat : W64) (dst : Nat) (rows : List Nat) (retry : Bool) : State × Nat × Nat :=
  let m := s.mem.bed
  let at_ := fun k i => match rows[k]? with | some p => m.look (p / 8 + i) | none => ((0 : W64), 0)
  let badAt := fun k i => let c := (at_ k i).2; c == 2 || (retry && c == 1)
  let bad := fun i => badAt 0 i || badAt 1 i || badAt 2 i
  let n := ((List.range 256).filter bad).length
  let first := ((List.range 3).find? (fun k => (List.range 256).any (fun i => badAt k i))).getD 0
  let m' := (List.range 256).foldl (fun (m' : EccMem) i =>
    let v := if bad i then Config.free64 (s.free + i) else ropWord op pat (at_ 0 i).1 (at_ 1 i).1 (at_ 2 i).1
    m'.putWord (dst / 8 + i) v (bad i)) m
  ({ s with mem := { s.mem with bed := m' }, free := s.free + 256 }, n, first)

/-- An operation has ended with its destination written. DEDUCED: log entry 56. -/
def State.ropDone (s : State) (b : Nat) (e : RopEnt) (n : Nat) : State :=
  let sl := b / 64
  let code := if n = 0 then 0 else ROP_SRC_UE
  let s := s.updBank b (fun k => { k with queue := k.queue.drop 1, busy := false, ended := true })
  (s.ropStatus sl e.words e.who e.ctx code e.corrected n (if n = 0 then 1 else 2) e.mover).ropEnded e.mover

/-- The operation in progress at a bank ends. DESIGN CHOICE: log entry 57. -/
def State.rowOpComplete (s : State) (b : Nat) : State :=
  let k := s.bank b
  match k.queue with
  | [] => s
  | e :: rest =>
    if !k.busy then s
    else
      let op := ropOp e.words
      let sl := b / 64
      let dst := s.ropPhys e.words
      let rows := (List.range (ropSources op)).map (fun i => subRow dst (ropSrc e.words i))
      let (s', n) := if e.retry then (s, 0) else s.ropCorrect rows
      if n ≠ 0 then
        -- nothing is written; the operation is retried at the head of the queue
        let s := s'.updSlice sl (fun k => { k with ropCorrected := wrapAdd 32 k.ropCorrected n })
        let s := s.odSet 0x2410 3 (s.odGet 0x2410 3 + BitVec.ofNat 64 n)
        s.setBank b { k with queue := { e with retry := true, corrected := n, waited := false } :: rest, busy := false, ended := true }
      else
        let (s, bad, first) := s.ropWrite op (wd e.words 2) (dst + e.initAt * 2048) rows e.retry
        let s := s.updSlice sl (fun k => { k with ops := wrapAdd 32 k.ops 1, ropPoison := wrapAdd 32 k.ropPoison bad })
        let s := if bad = 0 then s
          else (s.odInc 0x2410 4).ropRec ROP_SRC_UE (ropSev e.mover) e.words e.who e.ctx bad first e.retry
        if op = 1 ∧ e.initAt + 1 < ropCount e.words then
          s.setBank b { k with queue := { e with initAt := e.initAt + 1, waited := false } :: rest, busy := false, ended := true }
        else s.ropDone b e bad

/-- ROW_OP_COMPLETE. DESIGN CHOICE: log entry 59. -/
def execRowOpComplete (b : Fin 512) (s : State) : Out := .next (s.rowOpComplete b.val)

/-- Ordinary accesses waiting at a bank. -/
def State.waitingAt (s : State) (b : Nat) : List Nat :=
  (s.reqs.filter (fun r => r.st == .sent && r.adm == 2 && s.isLocal r.addr && regionOf (addrOffset r.addr) == some .scratch &&
    s.bankOf (addrOffset r.addr) == b)).map (fun r => r.id)

/-- BANK_READY (R276). -/
def execBankReady (b : Fin 512) (s : State) : Out :=
  .next (if (s.bank b.val).ended then s.updBank b.val (fun k => { k with ended := false, serve := s.waitingAt b.val }) else s)

/-- Every word of a row marked as unwritten: poisoned, its data free values, since the operation may have written any part of it.
DESIGN CHOICE: log entry 57. -/
def State.unwriteRow (s : State) (p : Nat) : State :=
  (List.range 256).foldl (fun s i =>
    let (x, s) := s.fresh
    { s with mem := { s.mem with bed := s.mem.bed.putWord (p / 8 + i) x true } }) s

/-- ROP_STUCK (R284): the operation in progress is abandoned, the queued ones end, and the bank leaves row-op service. -/
def execRopStuck (b : Fin 512) (s : State) : Out :=
  .next (
    let k := s.bank b.val
    match k.queue with
    | [] => s
    | e :: _ =>
      if !k.busy then s
      else
        let sl := b.val / 64
        let p := s.ropPhys e.words + e.initAt * 2048
        let s := s.unwriteRow p
        let s := s.setBank b.val { queue := [], busy := false, ended := false, serve := [], stuck := true }
        let s := s.updSlice sl (fun k => { k with ropStuck := true })
        k.queue.zipIdx.foldl (fun s (e, i) =>
          ((s.ropRec ROP_STUCK 2 e.words e.who e.ctx (if i = 0 then 256 else 0) 0 e.retry).ropStatus sl e.words e.who e.ctx ROP_STUCK
            e.corrected 0 3 e.mover).ropEnded e.mover) s)

end Sys2Proof.Machine
end

