-- ==== Sys2Proof/Machine/Reset.lean ====
section
/-! DEFINITION. Warm, partition, tile and link resets (R459–R470). -/

namespace Sys2Proof.Machine

/-! Ending tasks at once. -/

/-- A tile's units are cut off: which of its posted requests had been accepted is a free choice for each; its loads are lost. -/
def State.cutTile (s : State) (t : Nat) : State :=
  let own := s.reqs.filter (fun r => r.who.tile == some t && r.st == .sent && r.adm == 0 && !(r.kind == .load))
  let s := own.foldl (fun s r => let (c, s) := s.choose 2; if c = 0 then s.dropReq r.id else s) s
  s.withdrawWaits t

/-- Every placed task ends ABORTED at once; a task that was aborting keeps its first cause (R189). -/
def State.killTasks (s : State) (code : Nat) : State :=
  (s.sched.tasks.filter (fun k => decide (k.st = .placed))).foldl (fun s k =>
    let s := k.tiles.foldl State.cutTile s
    let s := k.tiles.foldl (fun s t => s.taskLeaves t false) s
    s.endBadly k 6 (k.abort.getD code)) s

/-- The last reset (OD 0x2210.05). -/
def State.setLast (s : State) (source target outcome : Nat) : State :=
  s.updBup (fun b => { b with lastReset := BitVec.ofNat 32 (source + target * 2 ^ 8 + outcome * 2 ^ 16) })

/-! Warm reset (R466). -/

/-- Steps 1, 2 and 4. A request during a cold bring-up, in RECOVERY, while a warm reset runs or while the module converter is
off has no effect (R470). DEDUCED: log entry 123. -/
def State.warmStart (s : State) (source : Nat) : State :=
  let b := s.bup
  if b.state = 0 ∨ b.state = 5 ∨ b.held ∨ b.rom ∨ b.warmStep ≠ 0 ∨ !s.pwr.converter then s
  else
    let s := (s.updBup (fun b => { b with warmStep := 3, state := 0 })).setLast source 0 0
    let s := { s with sched := { s.sched with running := false } }
    let s := s.odInc 0x2210 6
    (List.range 8).foldl (fun s p => s.abortPart p TASK_RESET) s

/-- WARM_RST_N. -/
def execWarmRstN (s : State) : Out := .next (s.warmStart 2)

/-- WARM_RESET_QUIESCE_BOUND. DEDUCED: log entry 123. -/
def execWarmResetQuiesceBound (s : State) : Out :=
  .next (if s.bup.warmStep = 3 then (s.killTasks TASK_RESET).updBup (fun b => { b with warmStep := 5 }) else s)

/-- Step 5: the dirty lines are written back, or in immediate mode counted and lost (R468). DEDUCED: log entry 124. -/
def State.warmWriteback (s : State) : State :=
  if s.odGet 0x2210 4 = 1 then
    let (d, s) := s.freshDetail
    s.report (s.mkRec 0x03 0x05 3 0 noUnit noUnit noUnit 0 none d)
  else (List.range 8).foldl (fun s n =>
    ((s.slice n).lines.filter (fun l => !l.remote)).foldl (fun s l => s.writebackLine n l) s) s

/-- A row operation that has started completes, an INIT with all its rows (R285). DEDUCED: log entry 56. -/
def State.ropFinish : Nat → State → Nat → State
  | 0, s, _ => s
  | f + 1, s, b =>
    let k := s.bank b
    match k.queue with
    | [] => s
    | e :: _ =>
      if k.busy || e.retry || e.initAt != 0 then
        let s := (s.setBank b { k with busy := true }).rowOpComplete b
        if (s.bank b).queue.length < k.queue.length then s else State.ropFinish f s b
      else s

/-- A slice: tags, misses, Hoist, filter, thrash detector and row-op queues are reset, its counters kept (R265, R459). -/
def Slice.warm (k : Slice) (now : Nat) : Slice :=
  { Slice.init with hits := k.hits, missCount := k.missCount, joins := k.joins, pinDenied := k.pinDenied, hoistFills := k.hoistFills,
                    rereads := k.rereads, ops := k.ops, ropCorrected := k.ropCorrected, ropPoison := k.ropPoison,
                    windowWaits := k.windowWaits, sweepDone := k.sweepDone, corrected := k.corrected, uncorrected := k.uncorrected,
                    lastCe := k.lastCe, lap := k.lap, lapStart := now, nextKey := k.nextKey }

/-- A stack: its bucket is empty, no fill runs, the scrub lap restarts. -/
def Stack.warm (k : Stack) (now : Nat) : Stack := { k with bucket := 0, fillBusy := false, fill := none, scrubPos := 0, lapStart := now }

/-- Banks whose role changes with the scratch setting are swept (R231). -/
def State.sweepRoles (s : State) (nb : Nat) : State :=
  let lo := 64 - max nb s.bed.nb
  let hi := 64 - min nb s.bed.nb
  let mem := (List.range 8).foldl (fun (m : EccMem) n => m.poisonRange ((n * 64 + lo) * 8388608) ((n * 64 + hi) * 8388608)) s.mem.bed
  { s with mem := { s.mem with bed := mem }, bed := { s.bed with nb := nb } }

/-- The blocks of Bedrock. -/
def State.warmBedrock (s : State) : State :=
  let busy := s.bed.banks.map (fun e => e.1)
  let s := busy.foldl (fun s b => State.ropFinish 2048 s b) s
  let now := s.bedLosc
  let s := { s with bed := { s.bed with
    slices := SMap.mapVals (fun (x : Slice) => x.warm now) s.bed.slices, stackTab := SMap.mapVals (fun (x : Stack) => x.warm now) s.bed.stackTab,
    banks := [], pinBad := false, pinWhile := false, fence := false, sectorBucket := [],
    pins := SMap.mapVals (fun (x : Pin) => { x with walk := false }) s.bed.pins } }
  s.sweepRoles (scratchBanks (s.odNat 0x2400 1))

/-- Requests after the reset: those of tiles and schedulers are gone, the others are looked up anew; the status words of row
operations that have completed are still written (R285). -/
def State.warmReqs (s : State) : State :=
  let keep := fun (r : Req) => r.who.tile.isNone && r.who != .devSched && r.kind != .prefetch &&
    (match r.who with | .l1 _ => false | _ => true)
  let rs := (s.reqs.filter keep).map (fun r => if r.st = .waitFill then { r with st := .sent, seen := false } else { r with seen := false })
  let ids := rs.map (fun r => r.id)
  { s with reqs := rs, fab := { s.fab with wait := s.fab.wait.filter (fun id => ids.contains id) } }

/-- Masters that a warm reset clears: tiles and schedulers. -/
def warmMid (m : Nat) : Bool := decide (m < 0x99)

/-- A port: requests of the masters that were reset are discarded, a new window starts (R317). -/
def Port.warm (p : Port) : Port :=
  ({ p with queues := SMap.mapVals (fun (q : List PReq) => q.filter (fun r => !warmMid r.mid)) p.queues,
            ret := p.ret.filter (fun e => !warmMid e.2.mid),
            transfer := match p.transfer with | some (i, r) => if warmMid r.mid then none else some (i, r) | none => none }).freshWindow

/-- Steps 6 and 7. The sectors' Face regions that are off are switched on for step 8. DEDUCED: log entry 123. -/
def State.warmClear (s : State) : State :=
  let s := s.warmBedrock
  let s := allTiles.foldl (fun s t => s.resetTile t ((s.region (sectorOf t)).state != 3)) s
  let s := s.warmReqs
  let parts := s.sched.parts.map (fun (e : Nat × Part) => (e.1, { Part.init with
    fatal := e.2.fatal, state := if e.2.fatal || (e.2.state == 2 && (s.partSectors e.1).isEmpty) then 2 else 0 }))
  let s := { s with
    sched := { Sched.init with parts := parts }, sync := Sync.init, startupHold := true,
    act := SMap.mapVals (fun (x : ActTable) => { x with badEntry := false, whileValid := false }) s.act,
    ports := SMap.mapVals Port.warm s.ports,
    fab := { s.fab with links := SMap.mapVals (fun (x : Link) => { x with urgent := false }) s.fab.links,
                        bars := SMap.mapVals (fun (x : YBar) => { x with arrived := 0, sent := false }) s.fab.bars } }
  (s.updBup (fun b => { b with warmStep := 8, stage := 4 })).facesOn

/-- LLC_WRITEBACK_DONE. Step 5 begins once every unit is quiet or cut off. DEDUCED: log entry 123. -/
def execLlcWritebackDone (s : State) : Out :=
  .next (
    let quiet := s.bup.warmStep == 3 && !(s.sched.tasks.any (fun k => decide (k.st = .placed)))
    if s.bup.warmStep = 5 ∨ quiet then s.warmWriteback.warmClear else s)

/-! Partition and tile resets (R460, R463, R465, R470). -/

/-- A reset of tiles: refused with a record, or done. -/
def State.resetTiles (s : State) (source target : Nat) (ts : List Nat) (after : State → State) : Nat × State :=
  let refuse := fun (code outcome : Nat) (src : W32) =>
    (OD_ACCESS, (s.setLast source target outcome).report (s.mkRec 0x0F code 0 0 src noUnit noUnit 0 none 0))
  if ts.any s.resetReaches then refuse 0x09 2 noUnit
  else match ts.find? (fun t => !s.tileIdle t) with
    | some t => refuse 0x08 1 (BitVec.ofNat 32 t)
    | none => (OD_OK, ((after (ts.foldl (fun s t => s.resetTile t ((s.region (sectorOf t)).state != 3)) s)).setLast source target 0).syncSettle)

/-- The task-scoped objects whose PART is the partition are cleared. -/
def State.clearPart (s : State) (p : Nat) : State := (List.range 16).foldl (fun s c => s.clearHeld p c false) s

/-- A write of OD 0x2210.02. The fatal mark of R475 is cleared. DEDUCED: log entry 125. -/
def State.partReset (s : State) (p : Nat) : Nat × State :=
  s.resetTiles 4 p ((s.partSectors p).flatMap sectorTiles) (fun s => (s.clearPart p).updPart p (fun x => { x with fatal := false }))

/-- A write of OD 0x2210.03. DEDUCED: log entry 125. -/
def State.tileReset (s : State) (t : Nat) : Nat × State := s.resetTiles 5 t [t] id

/-! Link reset (R461). -/

/-- A write of OD 0x7004.ll: the link goes DOWN under R341 and trains fully without the holdoff. -/
def State.linkReset (s : State) (l : Nat) : State :=
  let s := s.setLast 6 l 0
  let k := s.link l
  if !k.enable then s
  else
    let s := if k.state = 4 then s.yonusFail l else s.linkLeave l 1
    let on := s.seated l
    s.updLink l (fun k => { k with full := true, state := if on then 2 else 1, retrainDue := !on })

end Sys2Proof.Machine
end

