-- ==== Sys2Proof/Machine/Recovery.lean ====
section
/-! DEFINITION. Recovery by reloading flash (R455–R457), flash errors (R518), the pins of the module (R511–R521). -/

namespace Sys2Proof.Machine

/-! Recovery (R455, R457). -/

/-- "recv": every placed task aborts with TASK_RESET, compute is held in reset, the Face regions go off. -/
def State.recvCmd (s : State) : Nat × State :=
  if s.bup.state = 0 then (OD_RANGE, s)
  else if s.bup.state = 5 then (OD_OK, s)
  else
    let s := { s with sched := { s.sched with running := false } }
    let s := s.killTasks TASK_RESET
    let s := (List.range 8).foldl State.faceOff s
    (OD_OK, (s.updBup (fun b => { b with state := 5, recovery := 0, erased := false })).syncSettle)

/-- "eras". -/
def State.erasCmd (s : State) : Nat × State :=
  if s.bup.state ≠ 5 then (OD_RANGE, s) else (OD_OK, s.updBup (fun b => { b with recovery := 1, erased := false }))

/-- "comt": the image area has been erased, and neither an erase nor a verification is running. DEDUCED: log entry 119. -/
def State.comtCmd (s : State) : Nat × State :=
  let b := s.bup
  if b.state ≠ 5 ∨ !b.erased ∨ b.recovery = 1 ∨ b.recovery = 3 then (OD_RANGE, s)
  else (OD_OK, s.updBup (fun b => { b with recovery := 3 }))

/-- A write of OD 0x2200.06. -/
def State.recoveryCmd (s : State) (v : W64) : Nat × State :=
  if v = 0x76636572 then s.recvCmd
  else if v = 0x73617265 then s.erasCmd
  else if v = 0x746D6F63 then s.comtCmd
  else (OD_RANGE, s)

/-- ERASE_COMPLETE, or an erase failure that the flash reports. -/
def execEraseComplete (ok : Bool) (s : State) : Out :=
  .next (
    if s.bup.recovery ≠ 1 then s
    else if ok then s.updBup (fun b => { b with image := [], written := [], erased := true, recovery := 2 })
    else s.updBup (fun b => { b with recovery := 5 }))

/-- Bytes written through the flash window: its status. -/
def State.flashWrite (s : State) (off : Nat) (data : List Byte) : Nat × State :=
  let b := s.bup
  let at_ := s.odNat 0x2200 7 % 256 * 65536 + off
  if b.state ≠ 5 ∨ !b.erased ∨ b.recovery = 1 ∨ b.recovery = 3 then (OD_ACCESS, s)
  else if 65536 < off + data.length ∨ (List.range data.length).any (fun i => SMap.get false b.written (at_ + i)) then (OD_RANGE, s)
  else
    let idx := List.range data.length
    (OD_OK, s.updBup (fun b => { b with
      image := idx.foldl (fun m i => SMap.write 0xFF m (at_ + i) (data.getD i 0)) b.image,
      written := idx.foldl (fun m i => SMap.put m (at_ + i) true) b.written }))

/-- COMT_VERIFY_DONE: a verified image starts by a cold reset of the module, which no code of OD 0x2210.05 names.
DEDUCED: log entry 119. -/
def execComtVerifyDone (s : State) : Out :=
  .next (
    if s.bup.recovery ≠ 3 then s
    else if Config.imageVerifies s.fuses.keyHash s.bup.image then
      let (c, s) := s.choose 2
      (s.updBup (fun b => { b with imageOk := true, erased := false })).cold c false
    else s.updBup (fun b => { b with recovery := 4 }))

/-! Flash errors (R518). -/

/-- An item that stage 0 reads is lost: the image, a stored-values copy, or a saved training entry; which one is being read is a
free choice. DESIGN CHOICE: log entry 120. -/
def State.flashItemLost (s : State) : State :=
  let (c, s) := s.choose 76
  if c = 0 then s.updBup (fun b => { b with imageOk := false })
  else s.updBup (fun b => { b with unread := insertNew b.unread (c - 1) })

/-- XSPI_TIMEOUT. DESIGN CHOICE: log entry 120. -/
def execXspiTimeout (s : State) : Out :=
  .next (
    if s.od.busy.isSome then s.storeEnd false
    else if s.bup.state = 5 then s.updBup (fun b => { b with recovery := 5 })
    else if s.bup.state = 0 ∧ s.bup.stage = 0 ∧ s.bup.warmStep = 0 ∧ !s.bup.held then s.flashItemLost
    else s)

/-! Pins. -/

/-- What the module does to a signal (R473, R514). -/
inductive Drive where
  | hiz | pullUp | pullDown | low | high
  deriving DecidableEq, Repr

def driveOf (n : Nat) : Drive :=
  if n = 1 then .pullUp else if n = 2 then .pullDown else if n = 3 then .low else if n = 4 then .high else .hiz

/-- What the module does to sideband pin n: SBIO0–SBIO7, ALERT_N (8), THERM_TRIP_N (9). From power-on its fuse state, once
claimed its object's; ALERT_N and THERM_TRIP_N are low where R475, R487 or R432 drives them (R473, R514). -/
def State.pinDrive (s : State) (n : Nat) : Drive :=
  if n = 9 ∧ s.pins.tripN then .low
  else if !s.pwr.aux then .hiz
  else if n = 8 ∧ s.rel.alert then .low
  else driveOf (s.odValue 0x2211 n).toNat

/-- Whether the transmitters of a link are electrically idle (R513, R514): without power, in cold reset and stage 0, in DISABLED
and DOWN, with an open cage. -/
def State.txIdle (s : State) (l : Nat) : Bool :=
  !s.pwr.aux || !s.pwr.converter || s.bup.held || s.bup.stage == 0 || decide ((s.link l).state ≤ 1) || !s.seated l

/-- Whether the trace transmitters are electrically idle (R514). -/
def State.traceIdle (s : State) : Bool :=
  !s.pwr.aux || s.bup.held || s.bup.stage == 0 || s.odGet 0x2E01 1 != 1

/-- CAGE_PRESENCE (R513): a plug that is removed takes the links of its cage DOWN. DESIGN CHOICE: log entry 138. -/
def execCagePresence (cage : Fin 16) (seated : Bool) (s : State) : Out :=
  .next (
    let c := cage.val
    if 9 ≤ c ∨ s.pins.cages.testBit c = seated then s
    else
      let s := { s with pins := { s.pins with cages := s.pins.cages ^^^ 2 ^ c } }
      if seated then
        -- in stage 3 the links train with those of the other cages
        if s.bup.stage = 3 ∧ s.bup.state = 0 then
          (List.range 4).foldl (fun s i => s.updLink (28 + 4 * c + i) (fun k =>
            if k.enable && k.state == 1 then { k with state := 2, retrainDue := false } else k)) s
        else s
      else
        (List.range 4).foldl (fun s i =>
          let l := 28 + 4 * c + i
          let k := s.link l
          if k.state = 4 then s.yonusFail l
          else if k.state = 2 ∨ k.state = 3 then s.setLink l { k with state := 1, retrainDue := true }
          else s) s)

/-- SIDEBAND_INPUT_CHANGE (R517). DESIGN CHOICE: log entry 138. -/
def execSidebandInputChange (pin : Fin 16) (level : Bool) (s : State) : Out :=
  .next (
    if 10 ≤ pin.val ∨ s.pins.levels.testBit pin.val = level then s
    else { s with pins := { s.pins with levels := s.pins.levels ^^^ 2 ^ pin.val } })

/-- REFERENCE_CLOCK_FAIL (R521): the first failure switches the cleaner; with both gone the converter goes off.
DESIGN CHOICE: log entry 138. -/
def execReferenceClockFail (ref : Fin 2) (s : State) : Out :=
  .next (
    if s.pins.refBad.testBit ref.val then s
    else
      let bad := s.pins.refBad ^^^ 2 ^ ref.val
      let s := { s with pins := { s.pins with refBad := bad } }
      if bad = 3 then
        let s := if s.pwr.converter then s.converterOff else s
        s.report (s.mkRec 0x0D 0x01 4 4 noUnit noUnit noUnit 0 none (detByte 38 1))
      else { s with pins := { s.pins with refSwitches := (s.pins.refSwitches + 1) % 2 ^ 32 } })

/-- Instructions of the TAP: what IEEE 1149.1 makes mandatory (BYPASS 0, EXTEST 1, SAMPLE 2, PRELOAD 3), the instructions of IEEE
1149.6 (EXTEST_PULSE 4, EXTEST_TRAIN 5), and others. The numbers are the model's. -/
def jtagMandatory (code : Nat) : Bool := decide (code ≤ 5)

/-- Whether an instruction drives pins. -/
def jtagDrives (code : Nat) : Bool := code == 1 || code == 4 || code == 5

/-- JTAG_INSTRUCTION (R496, R520). DESIGN CHOICE: log entry 121. -/
def execJtagInstruction (code : Nat) (s : State) : Out :=
  .next (
    let ready := s.bup.state == 1 || s.bup.state == 2
    let refused := (s.debugLocked && !jtagMandatory code) || (jtagDrives code && ready)
    { s with pins := { s.pins with jtag := if refused then 0 else code } })

end Sys2Proof.Machine
end

