-- ==== Sys2Proof/Machine/Secure.lean ====
section
/-! DEFINITION. Rollback floor, debug unlock, keys and attestation (R490–R498). -/

namespace Sys2Proof.Machine

def State.updSec (s : State) (f : Sec → Sec) : State := { s with sec := f s.sec }

/-- A record of class 0x12 with severity 0. -/
def State.secRec (s : State) (code : Nat) : State := s.report (s.mkRec 0x12 code 0 0 noUnit noUnit noUnit 0 none 0)

/-! SVN (R492). -/

/-- A write of "svnb". -/
def State.svnbCmd (s : State) : Nat × State :=
  if s.bup.state = 5 ∨ s.sec.burning ∨ s.sec.signing then (OD_ACCESS, s)
  else if s.bup.svn ≤ s.fuses.svnFloor then (OD_RANGE, s)
  else (OD_OK, s.updSec (fun x => { x with burning := true }))

/-- FW_SVN_RAISED. -/
def execFwSvnRaised (s : State) : Out :=
  .next (
    if !s.sec.burning then s
    else ({ s with fuses := { s.fuses with svnFloor := max s.fuses.svnFloor s.bup.svn } }.updSec (fun x => { x with burning := false })).secRec 0x11)

/-! Debug lock (R496). -/

/-- A write of "dbgu" by a Deale owner session of a MAC address, or by another master (none). DEDUCED: log entry 132. -/
def State.dbguCmd (s : State) (mac : Option Nat) : Nat × State :=
  match mac with
  | some m =>
    if s.fuses.debugLock = 1 then
      (OD_OK, ((s.updSec (fun x => { x with unlocked := true })).measure 5 (leBytes 4 0x75676264 ++ leBytes 6 m)).secRec 0x12)
    else if s.fuses.debugLock = 0 then (OD_OK, s)
    else (OD_ACCESS, s.secRec 0x13)
  | none => (OD_ACCESS, s.secRec 0x13)

/-! Keys (R494). -/

/-- The bytes of an ASCII text. -/
def ascii (cs : List Nat) : List Byte := cs.map byteOf

/-- The digest of the kind-1 item. -/
def State.kind1 (s : State) : List Byte :=
  match s.sec.log.find? (fun e => e.1 == 1) with | some e => e.2 | none => List.replicate 64 0

/-- The three seeds of a key pair. DEDUCED: log entry 134. -/
def keySeeds (x : List Byte) : List Byte := takeAt (Config.shake256 x 96) 0 96

/-- Seeds of the identity key: "GX1 identity". DEDUCED: log entry 134. -/
def State.idSeeds (s : State) : List Byte :=
  keySeeds (s.fuses.seed ++ ascii [0x47, 0x58, 0x31, 0x20, 0x69, 0x64, 0x65, 0x6E, 0x74, 0x69, 0x74, 0x79])

/-- Seeds of the attestation key: "GX1 attest", SVN, digest. DEDUCED: log entry 134. -/
def State.attSeeds (s : State) : List Byte :=
  keySeeds (s.fuses.seed ++ ascii [0x47, 0x58, 0x31, 0x20, 0x61, 0x74, 0x74, 0x65, 0x73, 0x74] ++ [byteOf s.bup.svn] ++ s.kind1)

def State.attPublic (s : State) : List Byte := takeAt (Config.slhPublic true s.attSeeds) 0 64

/-- ENDORSEMENT_READY: once per cold bring-up, after READY or READY_DEGRADED. OD 0x2F01.01 and .02 take their bytes. -/
def execEndorsementReady (s : State) : Out :=
  .next (
    if s.sec.endorsed ∨ !s.measured 4 ∨ !s.bup.fw then s
    else
      let msg := s.attPublic ++ [byteOf s.bup.svn] ++ s.kind1
      let s := s.setBlob 0x2F01 1 (takeAt (Config.slhPublic false s.idSeeds) 0 64)
      let s := s.setBlob 0x2F01 2 (takeAt (Config.slhSign false s.idSeeds msg) 0 29792)
      s.updSec (fun x => { x with endorsed := true }))

/-! Attestation (R495). -/

/-- Bytes 0–799 of a report. DEDUCED: log entry 133. -/
def State.reportHead (s : State) : List Byte :=
  let log := s.sec.log.flatMap (fun e => leBytes 8 e.1 ++ takeAt e.2 0 64)
  leBytes 4 1 ++ s.odBytes 0x1000 2 0 16 ++ s.odBytes 0x1000 4 0 16 ++ leBytes 4 s.bup.fwVersion.toNat ++ leBytes 1 s.bup.svn ++
  leBytes 1 s.fuses.svnFloor ++ leBytes 1 (s.odValue 0x2F00 4).toNat ++ leBytes 1 s.bup.state ++ leBytes 4 s.capacity.toNat ++
  s.blobOf 0x2F10 1 32 ++ takeAt s.sec.chain 0 64 ++ leBytes 1 s.sec.log.length ++ leBytes 7 0 ++ takeAt log 0 576 ++ s.attPublic ++
  leBytes 8 0

/-- A write of "atpt": what is signed is taken now. DEDUCED: log entry 133. -/
def State.atptCmd (s : State) : Nat × State :=
  if !s.sec.endorsed ∨ s.sec.signing then (OD_ACCESS, s)
  else (OD_OK, s.updSec (fun x => { x with signing := true, repState := 1, report := s.reportHead }))

/-- REPORT_SIGNED. DEDUCED: log entry 133. -/
def execReportSigned (ok : Bool) (s : State) : Out :=
  .next (
    if !s.sec.signing then s
    else if ok then
      let head := s.sec.report
      s.updSec (fun x => { x with signing := false, repState := 2, report := head ++ takeAt (Config.slhSign true s.attSeeds head) 0 49856 })
    else (s.updSec (fun x => { x with signing := false, repState := 3, report := [] })).secRec 0x14)

end Sys2Proof.Machine
end

