-- ==== Sys2Proof/Machine/OdRows.lean ====
section
/-! DEFINITION. What a write of a dictionary entry does (R373), the OD mirror and the block ports (R379–R381). -/

namespace Sys2Proof.Machine

def storeSave : W64 := 0x65766173
def storeDflt : W64 := 0x746C6664

/-- The links' enables (OD 0x2800.01): every bit that changes is a write of ENABLE. -/
def State.writeEnables (s : State) (v : W64) : State :=
  (List.range 64).foldl (fun s l => if (s.link l).enable = bitOf v l then s else s.setEnable l (bitOf v l)) (s.odSet 0x2800 1 v)

/-- A store command that has passed its checks. -/
def State.storeCmd (s : State) (v : W64) : State :=
  if v = storeSave then s.storeStart s.storedRows
  else if v = storeDflt then s.storeStart (s.storedRows.filter (fun r => flashKeys.contains r.1))
  else s

/-- A scalar write that has passed the checks of R370: its effect, and the status where the command itself gives one. `mac` is
the address of the Deale session it came through. -/
def State.odPerform (s : State) (idx sub : Nat) (v : W64) (mac : Option Nat) : Nat × State :=
  if 0x2B00 ≤ idx ∧ idx ≤ 0x2B07 ∧ 1 ≤ sub ∧ sub ≤ 4 then (OD_OK, s.taskListObj (idx - 0x2B00) sub v)
  else if 0x2B00 ≤ idx ∧ idx ≤ 0x2B07 ∧ sub = 7 then (OD_OK, s.partCommand (idx - 0x2B00) v.toNat)
  else if idx = 0x1F00 ∧ sub = 1 then (OD_OK, s.storeCmd v)
  else if idx = 0x2000 ∧ sub = 1 then (OD_OK, s.setProfile v)
  else if idx = 0x2000 ∧ sub = 3 then (OD_OK, s.setPowerState v)
  else if idx = 0x2200 ∧ sub = 3 then (OD_OK, (s.odSet idx sub v).redecide)
  else if idx = 0x2200 ∧ sub = 6 then s.recoveryCmd v
  else if idx = 0x2210 ∧ sub = 1 then (OD_OK, s.warmStart 3)
  else if idx = 0x2210 ∧ sub = 2 then s.partReset (v.toNat % 8)
  else if idx = 0x2210 ∧ sub = 3 then s.tileReset (v.toNat % 144)
  else if idx = 0x2601 then (OD_OK, (s.odSet idx sub v).writeQuota sub v.toNat)
  else if idx = 0x2800 ∧ sub = 1 then (OD_OK, s.writeEnables v)
  else if idx = 0x7004 then (OD_OK, s.linkReset sub)
  else if idx = 0x2F00 ∧ sub = 2 then s.svnbCmd
  else if idx = 0x2F00 ∧ sub = 3 then s.dbguCmd mac
  else if idx = 0x2F10 ∧ sub = 2 then s.atptCmd
  else if idx = 0x2E01 ∧ (sub = 5 ∨ sub = 6) then
    (OD_OK, (s.odSet idx sub v).updTrc (fun x => { x with ringPos := 0, stopped := false, line := [] }))
  else if idx = 0x2E10 ∧ sub = 1 then (OD_OK, (s.odSet idx sub v).odSet 0x2E10 7 (if v = 0 then 0 else 1))
  else (OD_OK, s.odSet idx sub v)

/-- A scalar write after its role check: its status and effect. -/
def State.odWrite (s : State) (idx sub : Nat) (v : W64) (mac : Option Nat) : Nat × State :=
  let st := s.odCheckWrite idx sub v
  if st = OD_OK then s.odPerform idx sub v mac else (st, s)

/-- A block write after its role check: its status and effect. The in-service retirement list takes only cleared bits (R447); the
nonce is refused while a report is signed (R495); the flash window has checks of its own (R457). -/
def State.odWriteBlock (s : State) (idx sub off : Nat) (data : List Byte) : Nat × State :=
  match s.odEntry idx sub with
  | none => (OD_NO_OBJECT, s)
  | some e =>
    if !e.writable || e.scalar || (e.access == 3 && !s.blockStopped e 0) || (idx == 0x2F10 && s.sec.signing) then (OD_ACCESS, s)
    else if e.size < off + data.length then (OD_RANGE, s)
    else if e.type = 10 ∧ !vstringOk ((List.range e.size).map (s.overlay idx sub off data)) then (OD_RANGE, s)
    else if idx = 0x2200 ∧ sub = 8 then s.flashWrite off data
    else if idx = 0x2300 ∧ sub = 3 ∧ !((List.range data.length).all (fun i =>
        decide ((data.getD i 0) &&& ~~~ (s.odByte idx sub (off + i)) = 0))) then (OD_RANGE, s)
    else (OD_OK, s.odWriteBytes idx sub off data)

/-! The mirror (R379, R380). -/

/-- A write of a value word by a master. -/
def State.mirrorWrite (s : State) (who : Who) (idx sub : Nat) (v : W64) : State :=
  let (st, s) := s.odWrite idx sub v none
  s.odEnd (.mirror who (mirrorOff idx sub)) idx sub true st

/-- Entries and values whose writes have a row of their own. DEDUCED: log entry 87. -/
def ownOd (idx sub : Nat) (v : W64) : Bool :=
  (decide (0x2B00 ≤ idx ∧ idx ≤ 0x2B07) && (decide (1 ≤ sub ∧ sub ≤ 4) || (sub == 7 && (v == 1 || v == 2 || v == 3)))) ||
  (idx == 0x2B20 && sub == 1) || (idx == 0x1F00 && sub == 1 && (v == storeSave || v == storeDflt)) ||
  (idx == 0x2000 && (sub == 1 || sub == 3)) ||
  (idx == 0x2200 && sub == 6 && (v == 0x76636572 || v == 0x73617265 || v == 0x746D6F63)) ||
  (idx == 0x2210 && ((sub == 1 && v == 0x6D726177) || sub == 2 || sub == 3)) ||
  (idx == 0x7004 && decide (sub < 64) && v == 1) || (idx == 0x2F00 && sub == 2 && v == 0x626E7673) ||
  (idx == 0x2F00 && sub == 3 && v == 0x75676264) || (idx == 0x2F10 && sub == 2 && v == 0x74707461)

/-- Whether an offset lies in the mirror. -/
def inMirror (off : Nat) : Bool := decide (0x103_8000_0000 ≤ off ∧ off < 0x103_9000_0000)

/-- OD_MIRROR_READ: its answer in `resp`. DEDUCED: log entry 86. -/
def execOdMirrorRead (mid : Mid) (idx : Half) (sub : Byte) (desc : Bool) (s : State) : Out :=
  .next (
    if !s.firmware then s
    else
      let off := mirrorOff idx.toNat sub.toNat + if desc then 8 else 0
      s.masterRead mid.toNat (s.globalOf off).toNat 8 (fun s =>
        let (v, s) := s.mirrorRead (whoOfMid mid.toNat) off idx.toNat sub.toNat desc
        (leBytes 8 v.toNat, s)))

/-- OD_MIRROR_WRITE: anything but an aligned 8-byte write of a value word is refused with OD_ACCESS. DEDUCED: log entry 87. -/
def execOdMirrorWrite (w : Wr) (s : State) : Out :=
  .next (
    if !s.firmware then s
    else match s.takeWr w inMirror with
    | (s', none) => s'
    | (s', some x) =>
      let idx := (x.off - 0x103_8000_0000) / 0x1000
      let sub := x.off % 0x1000 / 0x10
      if x.off % 16 = 0 ∧ x.full ∧ x.whole then (if ownOd idx sub x.data then s else s'.mirrorWrite x.who idx sub x.data)
      else (s'.dropReq (w.rq.getD s.nextReq)).odEnd (.mirror x.who x.off) idx sub true
        (if (s'.odEntry idx sub).isNone then OD_NO_OBJECT else OD_ACCESS))

/-! Block ports (R381). -/

/-- The offset of byte i of a block port's window. -/
def portOff (k i : Nat) : Nat := 0x103_9000_0000 + k * 0x2000 + 0x1000 + i

/-- BLOCK_PORT_READ. DEDUCED: log entry 88. -/
def execBlockPortRead (port : Fin 16) (mid : Mid) (off : Nat) (len : Nat) (s : State) : Out :=
  .next (
    if !s.firmware ∨ len = 0 ∨ 256 < len ∨ 0x1000 < off + len then s
    else s.masterRead mid.toNat (s.globalOf (portOff port.val off)).toNat len (fun s => s.portRead (whoOfMid mid.toNat) port.val off len))

/-- The write of bytes to a window: the posted request of the master that carries them, or a write by a master outside the
tiles. The first component is the state where the write ends here. DEDUCED: log entry 88. -/
def State.takeBlock (s : State) (mid off : Nat) (data : List Byte) : State × Option Who :=
  match s.reqs.find? (fun r => r.who.mid == mid && s.storeReady r && s.isLocal r.addr && addrOffset r.addr == off && vals r.data == data) with
  | some r =>
    let (s, here) := s.atPort r.id
    if here then (s.dropReq r.id, some r.who) else (s, none)
  | none =>
    if mid < 0x98 || !midIssued mid || (mid == 0x0FB && s.debugLocked) then (s, none)
    else
      let a := (s.globalOf off).toNat
      match s.checkAccess mid 0 .W a data.length with
      | .error (c, t) => (s.refuse (whoOfMid mid) 0 c t a, none)
      | .ok g =>
        let (s, here) := s.enter (whoOfMid mid) g.cls a ((data.length + 63) / 64)
        (s, if here then some (whoOfMid mid) else none)

/-- A block write through a port whose selector names the flash window, or one that does not. -/
def State.portWriteBlock (s : State) (k mid off : Nat) (data : List Byte) (flash : Bool) : State :=
  let sel := SMap.get (0 : W64) s.od.sel k
  let idx := fld sel 0 16
  let sub := fld sel 16 8
  if !s.firmware ∨ data.length = 0 ∨ 256 < data.length ∨ 0x1000 < off + data.length ∨ (idx == 0x2200 && sub == 8) ≠ flash then s
  else match s.takeBlock mid (portOff k off) data with
  | (s, none) => s
  | (s, some who) =>
    let (st, s) := s.odWriteBlock idx sub (fld sel 32 24 + off) data
    s.odEnd (.port who (portOff k off)) idx sub true st

/-- BLOCK_PORT_WRITE. DEDUCED: log entry 88. -/
def execBlockPortWrite (port : Fin 16) (mid : Mid) (off : Nat) (data : List Byte) (s : State) : Out :=
  .next (s.portWriteBlock port.val mid.toNat off data false)

/-- FLASH_WINDOW_WRITE. -/
def execFlashWindowWrite (port : Fin 16) (mid : Mid) (off : Nat) (data : List Byte) (s : State) : Out :=
  .next (s.portWriteBlock port.val mid.toNat off data true)

/-- STORE_COMPLETE. -/
def execStoreComplete (ok : Bool) (s : State) : Out := .next (if s.firmware then s.storeEnd ok else s)

end Sys2Proof.Machine
end

