-- ==== Sys2Proof/Machine/Deale.lean ====
section
/-! DEFINITION. The management port: Deale frames, sessions and their requests (R360–R363, R369, R456), and the rows that write
one dictionary entry through the mirror or through Deale. -/

namespace Sys2Proof.Machine

/-! Frames (R361). -/

/-- A field of a frame; bytes beyond its end are zero. -/
def frameNat (f : List Byte) (i n : Nat) : Nat := leNat (takeAt f i n)

def frameLen (f : List Byte) : Nat := frameNat f 16 2

/-- The message of a frame from a station. -/
def dealeOf (mac : Nat) (f : List Byte) : Deale :=
  { command := frameNat f 1 1, response := bitOf (BitVec.ofNat 64 (frameNat f 2 1)) 0, status := frameNat f 3 1, session := frameNat f 4 2,
    seq := frameNat f 6 2, index := frameNat f 8 2, sub := frameNat f 10 1, role := frameNat f 11 1, offset := frameNat f 12 4,
    data := takeAt f 20 (frameLen f), mac := mac }

/-- The response to a message. -/
def Deale.reply (d : Deale) (status : Nat) (data : List Byte) : Deale :=
  { d with response := true, status := status, role := 0, data := data }

def State.updMgp (s : State) (f : Mgp → Mgp) : State := { s with mgp := f s.mgp }

def State.dealeSend (s : State) (m : Deale) : State := s.updMgp (fun g => { g with outbox := g.outbox ++ [m] })

/-- The record of a refused message; one refused before its INDEX was read names no entry (R531). -/
def State.dealeRec (s : State) (d : Deale) (code : Nat) (known : Bool) : State :=
  s.report (s.mkRec 0x11 code 0 0 noUnit (if known then BitVec.ofNat 32 (d.index * 256 + d.sub) else noUnit) noUnit 0 none
    (detByte 38 2 ||| detByte 39 (if d.command = 2 ∨ d.command = 4 then 1 else 0) ||| detField 40 6 d.mac ||| detField 46 2 d.session))

/-- Answer with a status before any entry is looked at. -/
def State.dealeRefuse (s : State) (d : Deale) (code : Nat) : State := (s.dealeSend (d.reply code [])).dealeRec d code false

/-! Roles (R362, R369, R456). -/

/-- The role that a role table of 64 bytes gives a station: the first of its eight entries that names it.
DEDUCED: log entry 82. -/
def tableRole (bs : List Byte) (mac : Nat) : Option Nat :=
  ((List.range 8).find? (fun i => frameNat bs (8 * i) 6 == mac)).map (fun i => min 2 (frameNat bs (8 * i + 6) 1))

/-- The highest role that a station may have. In ROM recovery the table of the copy in use counts; with no valid copy a station that
neither copy names is owner where the recovery strap is asserted. DEDUCED: log entry 82. -/
def State.stationRole (s : State) (mac : Nat) : Nat :=
  if s.bup.rom then
    match s.copyInUse with
    | some c => (tableRole ((SMap.find c.blobs (odKey 0x1100 4)).getD []) mac).getD 0
    | none =>
      let named := s.od.copies.any (fun c => (tableRole ((SMap.find c.blobs (odKey 0x1100 4)).getD []) mac).isSome)
      if s.pins.straps < 8 && !named then 2 else 0
  else (tableRole (s.odBytes 0x1100 4 0 64) mac).getD 0

/-- Entries served in ROM recovery. DEDUCED: log entry 82. -/
def romServes (idx sub : Nat) : Bool :=
  (idx == 0x1000 && decide (1 ≤ sub ∧ sub ≤ 6)) || (idx == 0x2200 && (sub == 1 || decide (6 ≤ sub ∧ sub ≤ 9)))

/-! Execution of a request. -/

/-- A value of a whole entry as its value word holds it. -/
def wholeValue (type : Nat) (data : List Byte) : W64 :=
  let v := BitVec.ofNat 64 (leNat data)
  if type = 5 then sext64 8 v else if type = 6 then sext64 16 v else if type = 7 then sext64 32 v else v

/-- READ of a whole entry. -/
def State.dealeGet (s : State) (d : Deale) (e : OdEntry) : Nat × List Byte :=
  if !e.readable || decide (8 < e.size) then (OD_ACCESS, [])
  else if e.scalar then (OD_OK, leBytes e.size (s.odValue d.index d.sub).toNat)
  else (OD_OK, s.odBytes d.index d.sub 0 e.size)

/-- WRITE of a whole entry. -/
def State.dealePut (s : State) (d : Deale) (e : OdEntry) : Nat × State :=
  if 8 < e.size ∨ d.data.length ≠ e.size then (OD_ACCESS, s)
  else if e.scalar then s.odWrite d.index d.sub (wholeValue e.type d.data) (some d.mac)
  else s.odWriteBlock d.index d.sub 0 d.data

/-- A request of a session with a role: its status, its data and its effect (R370). What an entry that ROM recovery does not serve
answers is not stated. DEDUCED: log entry 80. -/
def State.dealeExec (s : State) (role : Nat) (d : Deale) (len : Nat) : Nat × List Byte × State :=
  if d.command = 0x11 then (OD_OK, [], s)
  else if s.bup.rom && !romServes d.index d.sub then
    let (c, s) := s.choose 2
    (if c = 0 then OD_NO_OBJECT else OD_ACCESS, [], s)
  else match s.odEntry d.index d.sub with
    | none => (OD_NO_OBJECT, [], s)
    | some e =>
      let write := d.command == 2 || d.command == 4
      if role < (if write then (odRoles d.index).2 else (odRoles d.index).1) then (DEALE_ROLE, [], s)
      else if d.command = 1 then let (st, bs) := s.dealeGet d e; (st, bs, s)
      else if d.command = 2 then let (st, s) := s.dealePut d e; (st, [], s)
      else if d.command = 3 then
        let st := s.odCheckRead d.index d.sub true d.offset len
        (st, if st = OD_OK then s.odBytes d.index d.sub d.offset len else [], s)
      else let (st, s) := s.odWriteBlock d.index d.sub d.offset d.data; (st, [], s)

/-- A request within a session (R363). -/
def State.dealeRequest (s : State) (d : Deale) (len : Nat) : State :=
  match s.mgp.sessions.find? (fun x => x.id == d.session && x.mac == d.mac) with
  | none => s.dealeRefuse d DEALE_SESSION
  | some x =>
    if d.seq = x.seq then (match x.kept with | some r => s.dealeSend r | none => s.dealeRefuse d DEALE_SEQ)
    else if d.seq ≠ (x.seq + 1) % 65536 then s.dealeRefuse d DEALE_SEQ
    else
      let (st, bs, s) := s.dealeExec x.role d len
      let r := d.reply st bs
      let s := if st = OD_OK then s else s.dealeRec d st true
      let keep := fun (y : Session) => if y.id = x.id then { y with seq := d.seq, kept := some r } else y
      (s.updMgp (fun g => { g with sessions := if d.command = 0x11 then g.sessions.filter (fun y => y.id != x.id) else g.sessions.map keep })).dealeSend r

/-- OPEN (R362). Which number a session gets is a free choice among those not in use. DESIGN CHOICE: log entry 81. -/
def State.dealeOpen (s : State) (d : Deale) : State :=
  if 4 ≤ s.mgp.sessions.length then s.dealeRefuse d DEALE_BUSY
  else
    let role := min d.role (s.stationRole d.mac)
    let (c, s) := s.choose 65531
    let n := (((List.range 5).map (fun i => c + 1 + i)).find? (fun k => !(s.mgp.sessions.any (fun x => x.id == k)))).getD 0
    (s.updMgp (fun g => { g with sessions := g.sessions ++ [{ id := n, mac := d.mac, role := role, seq := 0, kept := none }] })).dealeSend
      { d.reply OD_OK [] with session := n, role := role }

/-- Whether the port is enabled and served (R360, R456). DEDUCED: log entry 83. -/
def State.dealeServed (s : State) : Bool :=
  if s.bup.rom then !s.rel.dead else s.firmware && !s.bup.held && decide (0 < s.bup.stage)

/-- The PLCA node of the management port (R360); none while the port is high-impedance. -/
def State.plcaNode (s : State) : Option Nat := if s.dealeServed then some (1 + s.pins.straps % 8) else none

/-- Whether the port accepts a frame (R360): it is addressed to the port's MAC address and carries Deale's EtherType. -/
def State.accepts (s : State) (e : Eth) : Bool :=
  s.plcaNode.isSome && e.dst.toNat == s.fuses.mac.toNat && e.type == 0x88B5

/-- DEDUCED: log entry 80. -/
def dealeCommands : List Nat := [1, 2, 3, 4, 0x10, 0x11]

/-- A frame: its version, its length and its command, then the request. DEDUCED: log entry 80. -/
def State.dealeFrame (s : State) (e : Eth) (f : List Byte) : State :=
  if !s.accepts e then s
  else
    let d := dealeOf e.src.toNat f
    if frameNat f 0 1 / 16 ≠ 1 then s.dealeRefuse d DEALE_VERSION
    else if 1024 < frameLen f ∨ f.length < 20 + frameLen f then s.dealeRefuse d DEALE_LENGTH
    else if !dealeCommands.contains d.command then s.dealeRefuse d DEALE_COMMAND
    else if d.command = 0x10 then s.dealeOpen d
    else s.dealeRequest d (frameLen f)

/-- A frame with one command. -/
def State.dealeRow (s : State) (command : Nat) (e : Eth) (f : List Byte) : State :=
  if frameNat f 1 1 = command then s.dealeFrame e f else s

def execDealeOpen (eth : Eth) (frame : List Byte) (s : State) : Out := .next (s.dealeRow 0x10 eth frame)
def execDealeClose (eth : Eth) (frame : List Byte) (s : State) : Out := .next (s.dealeRow 0x11 eth frame)
def execDealeRead (eth : Eth) (frame : List Byte) (s : State) : Out := .next (s.dealeRow 1 eth frame)
def execDealeWrite (eth : Eth) (frame : List Byte) (s : State) : Out := .next (s.dealeRow 2 eth frame)
def execDealeReadBlock (eth : Eth) (frame : List Byte) (s : State) : Out := .next (s.dealeRow 3 eth frame)
def execDealeWriteBlock (eth : Eth) (frame : List Byte) (s : State) : Out := .next (s.dealeRow 4 eth frame)

/-- DEALE_COMMAND: a frame with any other command. -/
def execDealeCommand (eth : Eth) (frame : List Byte) (s : State) : Out :=
  .next (if dealeCommands.contains (frameNat frame 1 1) then s else s.dealeFrame eth frame)

/-- SESSION_TIMEOUT. -/
def execSessionTimeout (session : Half) (s : State) : Out :=
  .next (if s.dealeServed then s.updMgp (fun g => { g with sessions := g.sessions.filter (fun x => x.id != session.toNat) }) else s)

/-! Rows that write one entry. -/

/-- Whether the posted request of a mirror write carries the value. -/
def State.carries (s : State) (rq : Option Nat) (v : W64) : Bool :=
  match rq with
  | none => true
  | some id => match s.findReq id with | some r => r.written == List.range 8 && r.data.length == 8 && wordOf r.data == v | none => false

/-- A write of a value to an entry, through the mirror or in a Deale WRITE. -/
def State.odVia (s : State) (via : OdVia) (idx sub : Nat) (v : W64) : State :=
  match via with
  | .mirror rq mid =>
    if !s.firmware || !s.carries rq v then s
    else match s.takeWr { rq := rq, mid := mid, addr := s.globalOf (mirrorOff idx sub), len := 8, data := v }
        (fun o => o == mirrorOff idx sub) with
      | (s, none) => s
      | (s, some x) => s.mirrorWrite x.who idx sub v
  | .deale eth session seq =>
    if !s.accepts eth then s
    else
      let n := match s.odEntry idx sub with | some e => e.size | none => 8
      s.dealeRequest { command := 2, response := false, status := 0, session := session.toNat, seq := seq.toNat, index := idx, sub := sub,
                       role := 0, offset := 0, data := leBytes n v.toNat, mac := eth.src.toNat } n

def execPause (via : OdVia) (p : Fin 8) (s : State) : Out := .next (s.odVia via (0x2B00 + p.val) 7 1)
def execResume (via : OdVia) (p : Fin 8) (s : State) : Out := .next (s.odVia via (0x2B00 + p.val) 7 2)
def execPreempt (via : OdVia) (p : Fin 8) (s : State) : Out := .next (s.odVia via (0x2B00 + p.val) 7 3)
def execSectorPartitionMapWrite (via : OdVia) (value : W64) (s : State) : Out := .next (s.odVia via 0x2B20 1 value)
def execTaskListWrite (via : OdVia) (p : Fin 8) (sub : Fin 4) (value : W64) (s : State) : Out :=
  .next (s.odVia via (0x2B00 + p.val) (sub.val + 1) value)
def execSave (via : OdVia) (s : State) : Out := .next (s.odVia via 0x1F00 1 storeSave)
def execDflt (via : OdVia) (s : State) : Out := .next (s.odVia via 0x1F00 1 storeDflt)
def execPowerProfileWrite (via : OdVia) (value : W64) (s : State) : Out := .next (s.odVia via 0x2000 1 value)
def execPowerStateRequest (via : OdVia) (value : W64) (s : State) : Out := .next (s.odVia via 0x2000 3 value)
def execRecv (via : OdVia) (s : State) : Out := .next (s.odVia via 0x2200 6 0x76636572)
def execEras (via : OdVia) (s : State) : Out := .next (s.odVia via 0x2200 6 0x73617265)
def execComt (via : OdVia) (s : State) : Out := .next (s.odVia via 0x2200 6 0x746D6F63)
def execWarmResetCommand (via : OdVia) (s : State) : Out := .next (s.odVia via 0x2210 1 0x6D726177)
def execPartitionReset (via : OdVia) (value : W64) (s : State) : Out := .next (s.odVia via 0x2210 2 value)
def execTileReset (via : OdVia) (value : W64) (s : State) : Out := .next (s.odVia via 0x2210 3 value)
def execLinkReset (via : OdVia) (link : Fin 64) (s : State) : Out := .next (s.odVia via 0x7004 link.val 1)
def execSvnb (via : OdVia) (s : State) : Out := .next (s.odVia via 0x2F00 2 0x626E7673)
def execDbgu (via : OdVia) (s : State) : Out := .next (s.odVia via 0x2F00 3 0x75676264)
def execAtpt (via : OdVia) (s : State) : Out := .next (s.odVia via 0x2F10 2 0x74707461)

end Sys2Proof.Machine
end

