-- ==== Sys2Proof/Machine/HbmScrub.lean ====
section
/-! DEFINITION. Stack fills, poison sweeps, scrubbers and leaky buckets (R287–R303). -/

namespace Sys2Proof.Machine

/-- The i-th line of a stack in the order of R301: ascending w, and within one w by the low bits of u. -/
def stackLine (st i : Nat) : Nat := let u := i; u * 8 + (st ^^^ sliceOf (u * 8))

/-- Lines of a stack. -/
def stackLines : Nat := 2 ^ 28

/-- HBM_FILL_CMD (R300). -/
def execHbmFillCmd (w : Wr) (s : State) : Out :=
  .next (match s.takeWr w (inCtrl (fun c => decide (0x500_0000 ≤ c ∧ c < 0x508_0000) && c % 0x1_0000 / 8 == 0x30 / 8)) with
    | (s, none) => s
    | (s, some x) =>
      let n := (x.off - 0x103_0500_0000) / 0x1_0000
      if bitOf (x.value &&& x.mask) 0 && (s.stack n).good && !(s.stack n).fillBusy then
        s.updStack n (fun k => { k with fillBusy := true, fill := some 0 })
      else s)

/-- Whether an access to a line stands before a fill's write to it: a request that the home has accepted, or a fill of the line
that has not returned (R235). -/
def State.lineTaken (s : State) (L : Nat) : Bool :=
  ((s.slice (sliceOf L)).findMiss L false).isSome ||
    s.reqs.any (fun r => r.adm == 2 && r.st == .sent && s.isLocal r.addr && decide (addrOffset r.addr / 256 = L))

/-- The write of a fill to a line: every word holds the pattern, and no copy of the line is left. -/
def State.fillWrite (s : State) (L : Nat) (x : W64) : State :=
  let n := sliceOf L
  let s := s.wake (.hbm (L * 256))
  let s := ({ s with mem := { s.mem with hbm := s.mem.hbm.fillLine L x } } : State).updStack n (fun k => k.rewritten (fun w => w / 32 == L))
  (s.updSlice n (fun k => k.dropLine L false)).unfilter n L

/-- The next lines of a stack fill, at most as many as the fuel (R300): each full-line write waits for its turn at the home slice, and
for the snoop that its line needs (R352). DESIGN CHOICE: log entry 62. -/
def State.fillLines : Nat → State → Nat → State
  | 0, s, _ => s
  | f + 1, s, n =>
    match (s.stack n).fill with
    | none => s
    | some i =>
      if stackLines ≤ i then s
      else
        let L := stackLine n i
        let go := fun (s : State) => s.updStack n (fun k => { k with fill := some (i + 1) })
        if !s.hbmBacked L then State.fillLines f (go s) n
        else if s.lineTaken L || s.snoopOut L then s
        else match s.snoopNeed L true with
          | some inv => s.sendSnoop L inv
          | none => State.fillLines f (go (s.fillWrite L (s.stack n).pattern)) n

/-- STACK_FILL_DONE (R300): the fill writes at most `lines` more lines; with the last one it is done.
DESIGN CHOICE: log entry 62. -/
def execStackFillDone (stack : Fin 8) (lines : Nat) (s : State) : Out :=
  .next (
    let n := stack.val
    if !(s.stack n).fillBusy then s
    else
      let s := State.fillLines lines s n
      match (s.stack n).fill with
      | some i => if i < stackLines then s else (s.updStack n (fun k => { k with fillBusy := false, fill := none })).odInc 0x2500 4
      | none => s)

/-- POISON_SWEEP_DONE (R296). DEDUCED: log entry 63. -/
def execPoisonSweepDone (mem : SweptMem) (s : State) : Out :=
  .next (match mem with
    | .hbm n =>
      if !(s.stack n.val).sweeping then s
      else
        let s := { s with mem := { s.mem with hbm := s.mem.hbm.sweepWhere (fun a => sliceOf (a / 256) == n.val) } }
        s.updStack n.val (fun k => { k with sweeping := false, sweepDone := true, dieCe := [], dieUe := [] })
    | .bedrock n =>
      if !s.bed.sweeping || (s.slice n.val).sweepDone then s
      else
        let s := { s with mem := { s.mem with bed := s.mem.bed.poisonRange (n.val * 0x2000_0000) ((n.val + 1) * 0x2000_0000) } }
        let s := s.updSlice n.val (fun k => { k with sweepDone := true })
        if (List.range 8).all (fun i => (s.slice i).sweepDone) then { s with bed := { s.bed with sweeping := false } } else s
    | .store t =>
      if !(s.tile t.val).storing then s
      else
        let s := s.setMem (.store t.val 0) ((s.memAt (.store t.val 0)).poisonWhere (fun _ => true))
        s.updTile t.val (fun x => { x with storing := false }))

/-! Scrubbers (R301). -/

/-- Milliseconds between two Bedrock counts. -/
def countMs (start now : Nat) : Nat := (now - start) / 100000

/-- The next word of an HBM lap, in words of the stack from a position on: pseudo-channels that are fenced are passed over; none
where the lap has no further word. DEDUCED: log entry 64. -/
def State.nextHbmWord (s : State) (n pos : Nat) : Option Nat :=
  let i := pos / 32
  if stackLines ≤ i then none
  else if s.hbmBacked (stackLine n i) then some pos
  else ((List.range 128).find? (fun d => decide (i + d < stackLines) && s.hbmBacked (stackLine n (i + d)))).map (fun d => (i + d) * 32)

/-- A scrubber's read passes its port at the lowest input, where no other input requests (R301, R306). -/
def State.scrubPass (s : State) (port mid : Nat) : State × Bool := s.portPass port mid 0 1

/-- One read of an HBM scrubber; with the last word of the stack its lap ends. -/
def State.scrubHbm (s : State) (n : Nat) : State :=
  let k := s.stack n
  if !k.good || s.odGet 0x2500 3 == 0 then s
  else match s.nextHbmWord n k.scrubPos with
    | none => s.setStack n { k with scrubPos := 0, lapStart := s.bedLosc, lap := countMs k.lapStart s.bedLosc }
    | some pos =>
      let (s, ok) := s.scrubPass (frontPort n) 0xF8
      if !ok then s
      else
        let (_, s) := s.memRead (.hbm (stackLine n (pos / 32) * 256 + pos % 32 * 8)) 8 (Who.hbmScrub.waiter 0)
        match s.nextHbmWord n (pos + 1) with
        | some p => s.updStack n (fun k => { k with scrubPos := p })
        | none => s.updStack n (fun k => { k with scrubPos := 0, lapStart := s.bedLosc, lap := countMs k.lapStart s.bedLosc })

/-- Words of a slice's banks. -/
def sliceWords : Nat := 2 ^ 26

/-- The words of a slice that hold valid LLC sectors, by position in the slice. -/
def State.llcWords (s : State) (n : Nat) : List Nat :=
  (s.slice n).lines.flatMap (fun l =>
    let p := (llcPhys s.bed.nb n l.set l.way - n * 64 * 8388608) / 8
    ((List.range 4).filter (fun i => l.valid.testBit i)).flatMap (fun i => (List.range 8).map (fun j => p + 8 * i + j)))

/-- The next word of a Bedrock lap: a word of a scratch bank or of a valid LLC sector; none at the end of the lap.
DEDUCED: log entry 64. -/
def State.nextBedWord (s : State) (n pos : Nat) : Option Nat :=
  let scratch := (64 - s.bed.nb) * 2 ^ 20
  if scratch ≤ pos then (if pos < sliceWords then some pos else none)
  else
    let m := (s.llcWords n).foldl (fun a w => if pos ≤ w then min a w else a) scratch
    if m < sliceWords then some m else none

/-- The LLC line whose data a word of a slice holds. -/
def State.lineOfWord (s : State) (n w : Nat) : Option LlcLine :=
  (s.slice n).lines.find? (fun l => decide ((llcPhys s.bed.nb n l.set l.way - n * 64 * 8388608) / 8 / 32 = w / 32))

/-- One read of a Bedrock scrubber; with the last word of the slice its lap ends. An uncorrectable word in a clean sector
invalidates its line, whose other sectors that are dirty are written back first. -/
def State.scrubBed (s : State) (n : Nat) : State :=
  let k := s.slice n
  if s.odGet 0x2420 1 == 0 then s
  else match s.nextBedWord n k.scrubPos with
    | none => s.setSlice n { k with scrubPos := 0, lapStart := s.bedLosc, lap := countMs k.lapStart s.bedLosc }
    | some pos =>
      let p := n * 64 * 8388608 + pos * 8
      let (s', ok) := s.scrubPass n 0xF9
      if !s.bankOpen (physBank p) || !ok then s
      else
        let s := s'
        let w := Who.bdrScrub.waiter 0
        let clean_ := match (if pos < (64 - s.bed.nb) * 2 ^ 20 then s.lineOfWord n pos else none) with
          | some l => if l.dirty.testBit (pos % 32 / 8) then none else some l
          | none => none
        let s' := match clean_, classify72 (s.mem.bed.synAt (p / 8)) with
          | some l, .uncorrectable =>
            let s := s.updSlice n (fun k => { k with uncorrected := wrapAdd 32 k.uncorrected 1 })
            let s := s.report (s.mkRec 0x01 0x01 0 0 (BitVec.ofNat 32 (physBank p)) (BitVec.ofNat 32 (physRow p)) w
              (s.globalOf (s.bedOff p)) none (detByte 38 (s.mem.bed.synAt (p / 8)).toNat ||| detByte 39 1))
            (s.writebackLine n l).updSlice n (fun k => k.dropLine l.L l.remote)
          | _, _ => (s.memRead (.bed p) 8 w).2
        match s'.nextBedWord n (pos + 1) with
        | some _ => s'.updSlice n (fun k => { k with scrubPos := pos + 1 })
        | none => s'.updSlice n (fun k => { k with scrubPos := 0, lapStart := s.bedLosc, lap := countMs k.lapStart s.bedLosc })

/-- SCRUB_READ. DEDUCED: log entry 64. -/
def execScrubRead (bedrock : Bool) (n : Fin 8) (s : State) : Out :=
  .next (if bedrock then s.scrubBed n.val else s.scrubHbm n.val)

/-- BUCKET_LEAK (R302): the bucket of a stack, a slice or a sector. -/
def execBucketLeak (kind : Fin 3) (n : Fin 8) (s : State) : Out :=
  .next (
    if kind.val = 0 then s.updStack n.val (fun k => { k with bucket := k.bucket - 1 })
    else if kind.val = 1 then s.updSlice n.val (fun k => { k with bucket := k.bucket - 1 })
    else
      let b := SMap.upd 0 s.bed.sectorBucket n.val (fun v => v - 1)
      { s with bed := { s.bed with sectorBucket := b } })

end Sys2Proof.Machine
end

