-- ==== Sys2Proof/Machine/Dispatch.lean ====
section
/-! DEFINITION. The meaning of each command: one call per constructor. -/

namespace Sys2Proof.Machine

/-- The effect of a command on everything but the queue. -/
def exec (i : Instr) (s : State) : Host.Outcome State Fault Refusal :=
  match i with
  | .registerWrite w => Sys2Proof.Machine.execRegisterWrite w s
  | .actEntryBaseLimitWrite w => Sys2Proof.Machine.execActEntryBaseLimitWrite w s
  | .actEntryCtrlWrite w => Sys2Proof.Machine.execActEntryCtrlWrite w s
  | .actSyncWrite w => Sys2Proof.Machine.execActSyncWrite w s
  | .actSyncRead target mid => Sys2Proof.Machine.execActSyncRead target mid s
  | .actSyncReturn target => Sys2Proof.Machine.execActSyncReturn target s
  | .insnFetchReturn t => Sys2Proof.Machine.execInsnFetchReturn t s
  | .alu t => Sys2Proof.Machine.execAlu t s
  | .alui t => Sys2Proof.Machine.execAlui t s
  | .immw t => Sys2Proof.Machine.execImmw t s
  | .coreLoad t => Sys2Proof.Machine.execCoreLoad t s
  | .coreLoadReturn t => Sys2Proof.Machine.execCoreLoadReturn t s
  | .coreStore t => Sys2Proof.Machine.execCoreStore t s
  | .br t => Sys2Proof.Machine.execBr t s
  | .jal t => Sys2Proof.Machine.execJal t s
  | .jalr t => Sys2Proof.Machine.execJalr t s
  | .pass t => Sys2Proof.Machine.execPass t s
  | .passr t => Sys2Proof.Machine.execPassr t s
  | .dma t => Sys2Proof.Machine.execDma t s
  | .klaunch t => Sys2Proof.Machine.execKlaunch t s
  | .issueAccept t => Sys2Proof.Machine.execIssueAccept t s
  | .twait t => Sys2Proof.Machine.execTwait t s
  | .tdrain t => Sys2Proof.Machine.execTdrain t s
  | .tclaim t => Sys2Proof.Machine.execTclaim t s
  | .trel t => Sys2Proof.Machine.execTrel t s
  | .tstate t => Sys2Proof.Machine.execTstate t s
  | .nop t => Sys2Proof.Machine.execNop t s
  | .mfc t => Sys2Proof.Machine.execMfc t s
  | .mtc t => Sys2Proof.Machine.execMtc t s
  | .coreEnd t => Sys2Proof.Machine.execCoreEnd t s
  | .brk t => Sys2Proof.Machine.execBrk t s
  | .fence t => Sys2Proof.Machine.execFence t s
  | .weightLoadStart t => Sys2Proof.Machine.execWeightLoadStart t s
  | .shadowLoadComplete t => Sys2Proof.Machine.execShadowLoadComplete t s
  | .passStart t held => Sys2Proof.Machine.execPassStart t held s
  | .rowAdmit t held => Sys2Proof.Machine.execRowAdmit t held s
  | .outResultWritten t pass row => Sys2Proof.Machine.execOutResultWritten t pass row s
  | .passDone t => Sys2Proof.Machine.execPassDone t s
  | .arrParity t shadow col row => Sys2Proof.Machine.execArrParity t shadow col row s
  | .arrStuck t => Sys2Proof.Machine.execArrStuck t s
  | .rampTokenGrant t waited => Sys2Proof.Machine.execRampTokenGrant t waited s
  | .rampStep t => Sys2Proof.Machine.execRampStep t s
  | .idleHoldExpiry t => Sys2Proof.Machine.execIdleHoldExpiry t s
  | .riddleRequestChange t source => Sys2Proof.Machine.execRiddleRequestChange t source s
  | .dmaCopy t m => Sys2Proof.Machine.execDmaCopy t m s
  | .dmaFill t m => Sys2Proof.Machine.execDmaFill t m s
  | .dmaReduce t m => Sys2Proof.Machine.execDmaReduce t m s
  | .dmaRowop t m => Sys2Proof.Machine.execDmaRowop t m s
  | .dmaSignal t m => Sys2Proof.Machine.execDmaSignal t m s
  | .dmaRequestIssue t m write => Sys2Proof.Machine.execDmaRequestIssue t m write s
  | .dmaDone t m => Sys2Proof.Machine.execDmaDone t m s
  | .sbTimeout t tag => Sys2Proof.Machine.execSbTimeout t tag s
  | .kernelStart t => Sys2Proof.Machine.execKernelStart t s
  | .groupStart t => Sys2Proof.Machine.execGroupStart t s
  | .kernelEnd t => Sys2Proof.Machine.execKernelEnd t s
  | .groupFetchReturn t slot => Sys2Proof.Machine.execGroupFetchReturn t slot s
  | .vint t slot => Sys2Proof.Machine.execVint t slot s
  | .vfp t slot => Sys2Proof.Machine.execVfp t slot s
  | .vmemLoad t slot => Sys2Proof.Machine.execVmemLoad t slot s
  | .groupLoadReturn t slot op => Sys2Proof.Machine.execGroupLoadReturn t slot op s
  | .vmemStore t slot => Sys2Proof.Machine.execVmemStore t slot s
  | .vatom t slot => Sys2Proof.Machine.execVatom t slot s
  | .vatomRed t slot => Sys2Proof.Machine.execVatomRed t slot s
  | .fenceG t slot => Sys2Proof.Machine.execFenceG t slot s
  | .fenceT t slot => Sys2Proof.Machine.execFenceT t slot s
  | .fenceD t slot => Sys2Proof.Machine.execFenceD t slot s
  | .maskIf t slot => Sys2Proof.Machine.execMaskIf t slot s
  | .maskElse t slot => Sys2Proof.Machine.execMaskElse t slot s
  | .maskEndif t slot => Sys2Proof.Machine.execMaskEndif t slot s
  | .maskLoop t slot => Sys2Proof.Machine.execMaskLoop t slot s
  | .maskBreak t slot => Sys2Proof.Machine.execMaskBreak t slot s
  | .maskCont t slot => Sys2Proof.Machine.execMaskCont t slot s
  | .maskEndloop t slot => Sys2Proof.Machine.execMaskEndloop t slot s
  | .maskExit t slot => Sys2Proof.Machine.execMaskExit t slot s
  | .groupEnd t slot => Sys2Proof.Machine.execGroupEnd t slot s
  | .jmp t slot => Sys2Proof.Machine.execJmp t slot s
  | .braAny t slot => Sys2Proof.Machine.execBraAny t slot s
  | .braAll t slot => Sys2Proof.Machine.execBraAll t slot s
  | .call t slot => Sys2Proof.Machine.execCall t slot s
  | .ret t slot => Sys2Proof.Machine.execRet t slot s
  | .uni t slot => Sys2Proof.Machine.execUni t slot s
  | .pred t slot => Sys2Proof.Machine.execPred t slot s
  | .mmaBf16 t slot => Sys2Proof.Machine.execMmaBf16 t slot s
  | .mmaFp8 t slot => Sys2Proof.Machine.execMmaFp8 t slot s
  | .mmaInt8 t slot => Sys2Proof.Machine.execMmaInt8 t slot s
  | .gmxResultReady t seqr => Sys2Proof.Machine.execGmxResultReady t seqr s
  | .shfl t slot => Sys2Proof.Machine.execShfl t slot s
  | .bcast t slot => Sys2Proof.Machine.execBcast t slot s
  | .rdlane t slot => Sys2Proof.Machine.execRdlane t slot s
  | .ctrRd u => Sys2Proof.Machine.execCtrRd u s
  | .ctrInc u => Sys2Proof.Machine.execCtrInc u s
  | .ctrWait u => Sys2Proof.Machine.execCtrWait u s
  | .lockAcq u late => Sys2Proof.Machine.execLockAcq u late s
  | .lockTry u => Sys2Proof.Machine.execLockTry u s
  | .lockRel u => Sys2Proof.Machine.execLockRel u s
  | .evtSet u => Sys2Proof.Machine.execEvtSet u s
  | .evtClr u => Sys2Proof.Machine.execEvtClr u s
  | .evtWait u => Sys2Proof.Machine.execEvtWait u s
  | .barJoin t => Sys2Proof.Machine.execBarJoin t s
  | .barLeave t => Sys2Proof.Machine.execBarLeave t s
  | .barArrive u => Sys2Proof.Machine.execBarArrive u s
  | .barWait u => Sys2Proof.Machine.execBarWait u s
  | .barSync u => Sys2Proof.Machine.execBarSync u s
  | .synTimeout wait => Sys2Proof.Machine.execSynTimeout wait s
  | .incrementAliasWrite w => Sys2Proof.Machine.execIncrementAliasWrite w s
  | .synCtrWrite w => Sys2Proof.Machine.execSynCtrWrite w s
  | .synAttrWrite w => Sys2Proof.Machine.execSynAttrWrite w s
  | .synPlainWrite w => Sys2Proof.Machine.execSynPlainWrite w s
  | .synBarCfgWrite w => Sys2Proof.Machine.execSynBarCfgWrite w s
  | .synTimeoutWrite w => Sys2Proof.Machine.execSynTimeoutWrite w s
  | .handsetCtrSet w => Sys2Proof.Machine.execHandsetCtrSet w s
  | .handsetLockFree w => Sys2Proof.Machine.execHandsetLockFree w s
  | .handsetEvtSet w => Sys2Proof.Machine.execHandsetEvtSet w s
  | .handsetEvtClr w => Sys2Proof.Machine.execHandsetEvtClr w s
  | .handsetBarRelease w => Sys2Proof.Machine.execHandsetBarRelease w s
  | .handsetWake w => Sys2Proof.Machine.execHandsetWake w s
  | .handsetClear w => Sys2Proof.Machine.execHandsetClear w s
  | .taskFetch p => Sys2Proof.Machine.execTaskFetch p s
  | .taskDescriptorRead p => Sys2Proof.Machine.execTaskDescriptorRead p s
  | .taskPlace p => Sys2Proof.Machine.execTaskPlace p s
  | .tdWaitTimeout p seq => Sys2Proof.Machine.execTdWaitTimeout p seq s
  | .submitRearm p => Sys2Proof.Machine.execSubmitRearm p s
  | .tileComplete t => Sys2Proof.Machine.execTileComplete t s
  | .tdIncApply p seq => Sys2Proof.Machine.execTdIncApply p seq s
  | .tileAbort t => Sys2Proof.Machine.execTileAbort t s
  | .tileQuiet t => Sys2Proof.Machine.execTileQuiet t s
  | .pause via p => Sys2Proof.Machine.execPause via p s
  | .resume via p => Sys2Proof.Machine.execResume via p s
  | .preempt via p => Sys2Proof.Machine.execPreempt via p s
  | .sectorPartitionMapWrite via value => Sys2Proof.Machine.execSectorPartitionMapWrite via value s
  | .taskListWrite via p sub value => Sys2Proof.Machine.execTaskListWrite via p sub value s
  | .llcAccess req => Sys2Proof.Machine.execLlcAccess req s
  | .scratchAccess req => Sys2Proof.Machine.execScratchAccess req s
  | .tileStoreWindowAccess req => Sys2Proof.Machine.execTileStoreWindowAccess req s
  | .llcFillReturn slice line => Sys2Proof.Machine.execLlcFillReturn slice line s
  | .addToLine req => Sys2Proof.Machine.execAddToLine req s
  | .bdrPinBaseLimitWrite w => Sys2Proof.Machine.execBdrPinBaseLimitWrite w s
  | .bdrPinCtrlWrite w => Sys2Proof.Machine.execBdrPinCtrlWrite w s
  | .unpinWalkDone n => Sys2Proof.Machine.execUnpinWalkDone n s
  | .thrashWindowEnd slice => Sys2Proof.Machine.execThrashWindowEnd slice s
  | .hoistPrefetch slice key => Sys2Proof.Machine.execHoistPrefetch slice key s
  | .detectedStreamIdle slice key => Sys2Proof.Machine.execDetectedStreamIdle slice key s
  | .bdrImmFenceWrite w => Sys2Proof.Machine.execBdrImmFenceWrite w s
  | .immFenceDone => Sys2Proof.Machine.execImmFenceDone s
  | .ropSubmit w => Sys2Proof.Machine.execRopSubmit w s
  | .ropDescriptorRead slice => Sys2Proof.Machine.execRopDescriptorRead slice s
  | .ropCopy bank => Sys2Proof.Machine.execRopCopy bank s
  | .ropInit bank => Sys2Proof.Machine.execRopInit bank s
  | .ropNot bank => Sys2Proof.Machine.execRopNot bank s
  | .ropAnd bank => Sys2Proof.Machine.execRopAnd bank s
  | .ropOr bank => Sys2Proof.Machine.execRopOr bank s
  | .ropXor bank => Sys2Proof.Machine.execRopXor bank s
  | .ropMaj3 bank => Sys2Proof.Machine.execRopMaj3 bank s
  | .rowOpComplete bank => Sys2Proof.Machine.execRowOpComplete bank s
  | .bankReady bank => Sys2Proof.Machine.execBankReady bank s
  | .ropStuck bank => Sys2Proof.Machine.execRopStuck bank s
  | .hbmFillCmd w => Sys2Proof.Machine.execHbmFillCmd w s
  | .stackFillDone stack lines => Sys2Proof.Machine.execStackFillDone stack lines s
  | .poisonSweepDone mem => Sys2Proof.Machine.execPoisonSweepDone mem s
  | .scrubRead bedrock n => Sys2Proof.Machine.execScrubRead bedrock n s
  | .bucketLeak kind n => Sys2Proof.Machine.execBucketLeak kind n s
  | .regulatorWindowStart port => Sys2Proof.Machine.execRegulatorWindowStart port s
  | .requestAdmit port req => Sys2Proof.Machine.execRequestAdmit port req s
  | .arbiterGrant port => Sys2Proof.Machine.execArbiterGrant port s
  | .transferEnd port => Sys2Proof.Machine.execTransferEnd port s
  | .targetResourceFree port input => Sys2Proof.Machine.execTargetResourceFree port input s
  | .arbStuck port => Sys2Proof.Machine.execArbStuck port s
  | .frameReceive link seq corrected uncorrectable slots crc => Sys2Proof.Machine.execFrameReceive link seq corrected uncorrectable slots crc s
  | .replayTimeout link => Sys2Proof.Machine.execReplayTimeout link s
  | .packetSend link vc idle control => Sys2Proof.Machine.execPacketSend link vc idle control s
  | .linkTrainingDone link outcome polarity reversed => Sys2Proof.Machine.execLinkTrainingDone link outcome polarity reversed s
  | .idExchange link payload => Sys2Proof.Machine.execIdExchange link payload s
  | .linkDown link cause => Sys2Proof.Machine.execLinkDown link cause s
  | .retrainHoldoff link => Sys2Proof.Machine.execRetrainHoldoff link s
  | .retrain w => Sys2Proof.Machine.execRetrain w s
  | .linkEnableWrite w => Sys2Proof.Machine.execLinkEnableWrite w s
  | .yfRead link vc => Sys2Proof.Machine.execYfRead link vc s
  | .yfWrite link vc => Sys2Proof.Machine.execYfWrite link vc s
  | .yfWriteMasked link vc => Sys2Proof.Machine.execYfWriteMasked link vc s
  | .yfAddToLine link vc => Sys2Proof.Machine.execYfAddToLine link vc s
  | .yfMinmaxToLine link vc => Sys2Proof.Machine.execYfMinmaxToLine link vc s
  | .yfCtrInc link vc => Sys2Proof.Machine.execYfCtrInc link vc s
  | .barrierArrive link vc => Sys2Proof.Machine.execBarrierArrive link vc s
  | .barrierRelease link vc => Sys2Proof.Machine.execBarrierRelease link vc s
  | .yfReadData link vc => Sys2Proof.Machine.execYfReadData link vc s
  | .yfStatus link vc => Sys2Proof.Machine.execYfStatus link vc s
  | .yfReadTimeout tag => Sys2Proof.Machine.execYfReadTimeout tag s
  | .yfResidence place link pos => Sys2Proof.Machine.execYfResidence place link pos s
  | .yfRouteWrite w => Sys2Proof.Machine.execYfRouteWrite w s
  | .routeSettle dev => Sys2Proof.Machine.execRouteSettle dev s
  | .yfBarWrite w => Sys2Proof.Machine.execYfBarWrite w s
  | .hldRead => Sys2Proof.Machine.execHldRead s
  | .hldWrite => Sys2Proof.Machine.execHldWrite s
  | .hldWriteMasked => Sys2Proof.Machine.execHldWriteMasked s
  | .readShared => Sys2Proof.Machine.execReadShared s
  | .readExcl => Sys2Proof.Machine.execReadExcl s
  | .writeback => Sys2Proof.Machine.execWriteback s
  | .snoopResp => Sys2Proof.Machine.execSnoopResp s
  | .writeAck => Sys2Proof.Machine.execWriteAck s
  | .hldReadData => Sys2Proof.Machine.execHldReadData s
  | .snoopTimeout line => Sys2Proof.Machine.execSnoopTimeout line s
  | .hldLinkDown cause => Sys2Proof.Machine.execHldLinkDown cause s
  | .hldReadTimeout req => Sys2Proof.Machine.execHldReadTimeout req s
  | .hldWriteTimeout req => Sys2Proof.Machine.execHldWriteTimeout req s
  | .interruptHoldoff => Sys2Proof.Machine.execInterruptHoldoff s
  | .dealeOpen eth frame => Sys2Proof.Machine.execDealeOpen eth frame s
  | .dealeClose eth frame => Sys2Proof.Machine.execDealeClose eth frame s
  | .dealeRead eth frame => Sys2Proof.Machine.execDealeRead eth frame s
  | .dealeWrite eth frame => Sys2Proof.Machine.execDealeWrite eth frame s
  | .dealeReadBlock eth frame => Sys2Proof.Machine.execDealeReadBlock eth frame s
  | .dealeWriteBlock eth frame => Sys2Proof.Machine.execDealeWriteBlock eth frame s
  | .sessionTimeout session => Sys2Proof.Machine.execSessionTimeout session s
  | .odMirrorRead mid idx sub desc => Sys2Proof.Machine.execOdMirrorRead mid idx sub desc s
  | .odMirrorWrite w => Sys2Proof.Machine.execOdMirrorWrite w s
  | .blockPortRead port mid off len => Sys2Proof.Machine.execBlockPortRead port mid off len s
  | .blockPortWrite port mid off data => Sys2Proof.Machine.execBlockPortWrite port mid off data s
  | .save via => Sys2Proof.Machine.execSave via s
  | .dflt via => Sys2Proof.Machine.execDflt via s
  | .storeComplete ok => Sys2Proof.Machine.execStoreComplete ok s
  | .mark => Sys2Proof.Machine.execMark s
  | .rateSample t rate => Sys2Proof.Machine.execRateSample t rate s
  | .burstCheckFail t attempt => Sys2Proof.Machine.execBurstCheckFail t attempt s
  | .laneWalkComplete t half0 half1 => Sys2Proof.Machine.execLaneWalkComplete t half0 half1 s
  | .controlLaneTimeout t => Sys2Proof.Machine.execControlLaneTimeout t s
  | .inputSupervision main mv auxMv => Sys2Proof.Machine.execInputSupervision main mv auxMv s
  | .pwrInputUv => Sys2Proof.Machine.execPwrInputUv s
  | .pwrInputOv => Sys2Proof.Machine.execPwrInputOv s
  | .undervoltageRecovery => Sys2Proof.Machine.execUndervoltageRecovery s
  | .auxInputLoss => Sys2Proof.Machine.execAuxInputLoss s
  | .avsPoll rail response => Sys2Proof.Machine.execAvsPoll rail response s
  | .pwrPhaseLost rail => Sys2Proof.Machine.execPwrPhaseLost rail s
  | .powerMeasure ms1 ms100 clamped => Sys2Proof.Machine.execPowerMeasure ms1 ms100 clamped s
  | .voltageStep => Sys2Proof.Machine.execVoltageStep s
  | .powerProfileWrite via value => Sys2Proof.Machine.execPowerProfileWrite via value s
  | .profileChangeComplete => Sys2Proof.Machine.execProfileChangeComplete s
  | .neighbourCheck region same other => Sys2Proof.Machine.execNeighbourCheck region same other s
  | .pwrDeferTimeout region => Sys2Proof.Machine.execPwrDeferTimeout region s
  | .regionOn region => Sys2Proof.Machine.execRegionOn region s
  | .regionHoldRelease region => Sys2Proof.Machine.execRegionHoldRelease region s
  | .placementRetry p => Sys2Proof.Machine.execPlacementRetry p s
  | .regionGateOff sector => Sys2Proof.Machine.execRegionGateOff sector s
  | .powerStateRequest via value => Sys2Proof.Machine.execPowerStateRequest via value s
  | .selfRefreshEntry stack => Sys2Proof.Machine.execSelfRefreshEntry stack s
  | .thermalSample group temps plf refs => Sys2Proof.Machine.execThermalSample group temps plf refs s
  | .thermSensorFault group sensor => Sys2Proof.Machine.execThermSensorFault group sensor s
  | .thermSensorSuspect group => Sys2Proof.Machine.execThermSensorSuspect group s
  | .levelFall group => Sys2Proof.Machine.execLevelFall group s
  | .thermShutdown group => Sys2Proof.Machine.execThermShutdown group s
  | .shutdownLatchClear => Sys2Proof.Machine.execShutdownLatchClear s
  | .coldReset power => Sys2Proof.Machine.execColdReset power s
  | .coldResetRelease straps => Sys2Proof.Machine.execColdResetRelease straps s
  | .bringupStageComplete found lanes => Sys2Proof.Machine.execBringupStageComplete found lanes s
  | .bringupStageTimeout => Sys2Proof.Machine.execBringupStageTimeout s
  | .hbmTrainingDone stack outcome failed noRes => Sys2Proof.Machine.execHbmTrainingDone stack outcome failed noRes s
  | .recv via => Sys2Proof.Machine.execRecv via s
  | .eras via => Sys2Proof.Machine.execEras via s
  | .eraseComplete ok => Sys2Proof.Machine.execEraseComplete ok s
  | .flashWindowWrite port mid off data => Sys2Proof.Machine.execFlashWindowWrite port mid off data s
  | .comt via => Sys2Proof.Machine.execComt via s
  | .comtVerifyDone => Sys2Proof.Machine.execComtVerifyDone s
  | .xspiTimeout => Sys2Proof.Machine.execXspiTimeout s
  | .warmRstN => Sys2Proof.Machine.execWarmRstN s
  | .warmResetCommand via => Sys2Proof.Machine.execWarmResetCommand via s
  | .warmResetQuiesceBound => Sys2Proof.Machine.execWarmResetQuiesceBound s
  | .llcWritebackDone => Sys2Proof.Machine.execLlcWritebackDone s
  | .partitionReset via value => Sys2Proof.Machine.execPartitionReset via value s
  | .tileReset via value => Sys2Proof.Machine.execTileReset via value s
  | .linkReset via link => Sys2Proof.Machine.execLinkReset via link s
  | .recordDeliver => Sys2Proof.Machine.execRecordDeliver s
  | .severityLine => Sys2Proof.Machine.execSeverityLine s
  | .heartbeat => Sys2Proof.Machine.execHeartbeat s
  | .mgtFailover => Sys2Proof.Machine.execMgtFailover s
  | .mgtNoCore => Sys2Proof.Machine.execMgtNoCore s
  | .noCoreConverterOff => Sys2Proof.Machine.execNoCoreConverterOff s
  | .svnb via => Sys2Proof.Machine.execSvnb via s
  | .fwSvnRaised => Sys2Proof.Machine.execFwSvnRaised s
  | .dbgu via => Sys2Proof.Machine.execDbgu via s
  | .atpt via => Sys2Proof.Machine.execAtpt via s
  | .reportSigned ok => Sys2Proof.Machine.execReportSigned ok s
  | .endorsementReady => Sys2Proof.Machine.execEndorsementReady s
  | .halt w => Sys2Proof.Machine.execHalt w s
  | .haltComplete t => Sys2Proof.Machine.execHaltComplete t s
  | .dbgDrainLate t => Sys2Proof.Machine.execDbgDrainLate t s
  | .dbgResume w => Sys2Proof.Machine.execDbgResume w s
  | .stepCore w => Sys2Proof.Machine.execStepCore w s
  | .stepGroup w => Sys2Proof.Machine.execStepGroup w s
  | .dbgRdataRead t mid => Sys2Proof.Machine.execDbgRdataRead t mid s
  | .dbgRdataWrite w => Sys2Proof.Machine.execDbgRdataWrite w s
  | .traceOutput => Sys2Proof.Machine.execTraceOutput s
  | .dumpReadStart => Sys2Proof.Machine.execDumpReadStart s
  | .dumpComplete => Sys2Proof.Machine.execDumpComplete s
  | .cagePresence cage seated => Sys2Proof.Machine.execCagePresence cage seated s
  | .referenceClockFail ref => Sys2Proof.Machine.execReferenceClockFail ref s
  | .rcRegisterRead mid addr => Sys2Proof.Machine.execRcRegisterRead mid addr s
  | .hldField => Sys2Proof.Machine.execHldField s
  | .dealeCommand eth frame => Sys2Proof.Machine.execDealeCommand eth frame s
  | .jtagInstruction code => Sys2Proof.Machine.execJtagInstruction code s
  | .sidebandInputChange pin level => Sys2Proof.Machine.execSidebandInputChange pin level s
  | .takeoverComplete => Sys2Proof.Machine.execTakeoverComplete s

end Sys2Proof.Machine
end

