-- ==== Sys2Proof/Machine/Time.lean ====
section
/-! DEFINITION. What time alone does: the layer oscillators (R387), the counters of tile steps (R499). -/

namespace Sys2Proof.Machine

/-- A number of tile steps passes on a tile: BUSY counts those with a task placed and the tile not halted, STALL those with the
core in state 2 or 3 (R499). DESIGN CHOICE: log entry 135. -/
def Tile.passSteps (x : Tile) (n : Nat) : Tile :=
  let busy := if x.task.isSome && x.dbg.state != 2 then wrapAdd 64 x.dbg.busy n else x.dbg.busy
  let stall := if x.core.st == 2 || x.core.st == 3 then wrapAdd 64 x.dbg.stall n else x.dbg.stall
  { x with dbg := { x.dbg with busy := busy, stall := stall } }

/-- Tile steps pass, on each tile a number of its own, which is free (R397). DESIGN CHOICE: log entry 135. -/
def State.passSteps (s : State) : State :=
  { s with tiles := s.tiles.mapIdx (fun i e => (e.1, e.2.passSteps (Config.free64 (s.free + i)).toNat)), free := s.free + s.tiles.length }

/-- One count of at least one of the layer oscillators, which run while the module converter is on; the layers share no time base
(R386, R387), so which of them count is a free choice. DESIGN CHOICE: log entries 2, 135. -/
def State.idleCount (s : State) : State :=
  if !s.pwr.converter then s
  else
    let (c, s) := s.passSteps.choose 7
    { s with bedLosc := if (c + 1).testBit 0 then wrapAdd 64 s.bedLosc 1 else s.bedLosc,
             lfLosc := if (c + 1).testBit 1 then wrapAdd 64 s.lfLosc 1 else s.lfLosc,
             ufLosc := if (c + 1).testBit 2 then wrapAdd 64 s.ufLosc 1 else s.ufLosc }

end Sys2Proof.Machine
end

