-- ==== Sys2Proof/Safety.lean ====
section
/-! DEFINITION. The terms that claims about the device use: states in which a unit is ready to execute an instruction, and the
canonical form of the device's memories. -/

namespace Sys2Proof.Machine

/-! Memories. -/

/-- The canonical form: in every memory the addresses rise and no entry equals what an unlisted address reads as, and no tile
store is listed that equals an unlisted one. -/
def Mems.wf (m : Mems) : Bool :=
  m.hbm.wf && m.bed.wf && SMap.wf EccMem.swept m.stores && m.stores.all (fun e => e.2.wf)

/-! Control cores. -/

/-- The control core of tile t stands at the instruction word w, which has been fetched unpoisoned, in a line whose tag is good,
which no breakpoint stops, and which passes checks 1–3 of R124. -/
def State.coreAt (s : State) (t : Nat) (w : W32) : Bool :=
  (s.tile t).coreRuns && !(s.core t).icPerr.contains ((s.core t).pc.toNat / 64) &&
  ((cachedWord (s.core t).icache (s.core t).pc).map (fun bs => (insWord bs, poisoned bs)) == some (w, false)) &&
  ((s.core t).skipBp || ((s.dbg t).bpAt (s.core t).pc).isNone) &&
  insGen w == 0 && insDefined w && (w &&& insReserved w) == 0

/-! Thread groups. -/

/-- The group of a slot stands at the instruction word w of use u, which has been fetched unpoisoned in a line whose tag is good,
which the sequencer issues now (R148), which passes checks 1–4 of R151, whose registers wait for no result, which reads no dead
register where the kernel checks that (R154), and whose stored operands are neither in error nor poisoned (R291, R298). -/
def State.groupAt (s : State) (t slot : Nat) (g : Grp) (w : W64) (u : GUse) : Bool :=
  (s.grp t slot == some g) && s.groupMayIssue t slot g && !(s.tge t).gicPerr.contains (g.pc.toNat / 64) && s.groupTurn t slot g &&
  (g.pc.toNat % 8 == 0) && ((cachedGWord (s.tge t).gic g.pc).map (fun bs => (gWordOf bs, poisoned bs)) == some (w, false)) &&
  (gCheck w == none) && (gUse w == some u) && !(u.sources w ++ u.dests w).any (fun r => g.waiting.contains r) &&
  (match (s.tge t).kern with | some k => !k.strict || (g.deadLane u w (g.acting w)).isNone | none => true) &&
  (g.checkSources u w (g.acting w)).evs.isEmpty && ((g.checkSources u w (g.acting w)).poisonLane u w (g.acting w)).isNone

/-- The value of a live register of a lane of the group in a slot. -/
def State.vregOf (s : State) (t slot r lane : Nat) : Option W32 := (s.grp t slot).bind (fun g => g.vlive r lane)

/-- The stored words of a register of the group in a slot are sound: a cached word that differs from the main file's is listed as
dirty, and entries of the group stand only among those of its own issue slot (R153). -/
def Tge.rcSound (x : Tge) (slot r lane : Nat) : Bool :=
  match SMap.find x.slots slot with
  | none => true
  | some g =>
    SMap.rising none g.rc && x.rc.all (fun c => c.1 / 32 == issueSlot slot || c.2.all (fun e => e.1 != slot)) &&
    (match SMap.find g.rc (vKey r lane) with
     | none => true
     | some w => w == SMap.get RWord.swept g.v (vKey r lane) ||
         (rcHas (x.rcLine slot lane) slot r && (x.rcLine slot lane).all (fun e => !(e.1 == slot && e.2.1 == r) || e.2.2)))

/-- From s to s' every v register of a tile's groups whose words are sound kept its value, and its words stay sound, but for those
of one group that `but` names: moving words between a register cache and the main file shows in no value (R153). -/
def State.regsStay (s s' : State) (t slot : Nat) (but : Nat → Nat → Bool) : Prop :=
  ∀ k r l, l < 32 → (s.tge t).rcSound k r l = true → ¬(k = slot ∧ but r l = true) →
    s'.vregOf t k r l = s.vregOf t k r l ∧ (s'.tge t).rcSound k r l = true

/-- A group but for where the words of its v registers stand. -/
def Grp.noWords (g : Grp) : Grp := { g with v := [], rc := [] }

/-- The other groups of the tile are as they were, but for where the words of their v registers stand. -/
def State.othersStay (s s' : State) (t slot : Nat) : Prop :=
  ∀ k, k ≠ slot → (s'.grp t k).map Grp.noWords = (s.grp t k).map Grp.noWords

/-- A group instruction changed nothing beyond the thread-group engine and debug registers of its tile and the dictionary's
counts: no memory, no request, no other group, no other tile. -/
def State.groupOnly (s s' : State) (t slot : Nat) : Prop :=
  s.othersStay s' t slot ∧ (∀ u, u ≠ t → s'.tile u = s.tile u) ∧
  { s'.tile t with tge := s.tge t, dbg := s.dbg t } = s.tile t ∧ { s' with tiles := s.tiles, od := s.od } = s

/-- The state after a control instruction of a group, which becomes g'; a group with no lane left leaves its slot (R158). -/
def State.groupTo (s : State) (t slot : Nat) (w : W64) (u : GUse) (g g' : Grp) : State :=
  ((((s.groupIssue t slot u w (g.acting w)).setGrp t slot g').groupNext t slot g'.pc).groupFinish t slot).settleTurn t slot

/-- The tags of the tile's vector caches are good (R292). -/
def Tge.tagsGood (x : Tge) : Bool := x.l1.all (fun e => !e.2.perr) && x.l0.all (fun e => e.2.all (fun b => !b.2.perr))

/-- The integer operations of R150 in their order, on n bits. -/
def intSpec (n op : Nat) (a b : BitVec n) : BitVec n :=
  match op with
  | 0 => a + b
  | 1 => a - b
  | 2 => a * b
  | 3 => ((a.signExtend (2 * n) * b.signExtend (2 * n)) >>> n).setWidth n
  | 4 => ((a.setWidth (2 * n) * b.setWidth (2 * n)) >>> n).setWidth n
  | 5 => a &&& b
  | 6 => a ||| b
  | 7 => a ^^^ b
  | 8 => a <<< (b.toNat % n)
  | 9 => a >>> (b.toNat % n)
  | 10 => a.sshiftRight (b.toNat % n)
  | 11 => if b.slt a then b else a
  | 12 => if a.slt b then b else a
  | 13 => if b.ult a then b else a
  | 14 => if a.ult b then b else a
  | 15 => a + b
  | _ => a

/-- The conditions of ICMP in their order (R150). -/
def condSpec {n : Nat} (c : Nat) (a b : BitVec n) : Bool :=
  match c with | 0 => a == b | 1 => a != b | 2 => a.slt b | 3 => !a.slt b | 4 => a.ult b | _ => !a.ult b

/-! Synchronisation objects. -/

/-- The control core of tile t stands at a synchronisation instruction w that names the local object n and passes every check of
R204 and its access check, its earlier stores performed, and its object's port lets it in; the tile is not in debug, no wait is held in a unit, and no operation of
this tile is pending. -/
def State.coreOpAt (s : State) (t : Nat) (o : SyncOp) (w : W32) (n : Nat) : Bool :=
  let a := ((s.core t).reg (insRa w)).toNat
  s.coreAt t w && (insClass w == 7) && (insFunc w == o.func) && (objNum o.kind a == some n) && s.isLocal a &&
  !(o.coreArg ((s.core t).reg (insRb w))).bad && s.storesDone (fun x => x == .core t) &&
  (match s.checkAccess t (s.ctxOf t) o.right a 8 with | .ok ok => (s.enter (.core t) ok.cls a 1).2 | .error _ => false) &&
  ((s.dbg t).state == 0) && s.sync.waits.all (fun x => !x.held && (x.who.tile != some t))

/-- The operation of the core has answered: v in the result register, the PC moved on, no other register of the core and no memory
changed. -/
def State.coreAnswered (s s' : State) (t : Nat) (w : W32) (v : Nat) : Prop :=
  (s'.core t).st = 1 ∧ (s'.core t).wait = none ∧ (s'.core t).pc = (s.core t).pc + 4 ∧
  (∀ i, (s'.core t).reg i = if i = insRd w ∧ i ≠ 0 then BitVec.ofNat 64 v else (s.core t).reg i) ∧ s'.mem = s.mem

/-- The operation of the core waits at the object as the last in its queue; no object and no memory changed. -/
def State.coreQueued (s s' : State) (t : Nat) (k : ObjKind) (n : Nat) (want : WaitFor) : Prop :=
  (s'.core t).st = 3 ∧ (s'.core t).pc = (s.core t).pc ∧ (∀ i, (s'.core t).reg i = (s.core t).reg i) ∧ s'.mem = s.mem ∧
  { s'.sync with waits := s.sync.waits, nextOp := s.sync.nextOp } = s.sync ∧
  ∃ op held, s'.sync.waits = s.sync.waits ++
    [{ kind := k, num := n, who := .core t, lane := 0, op := op, want := want, held := held, epoch := none }]

/-! Writes and records. -/

/-- The write w reaches the register or object word at x.off: x is what arrives, s1 the state without the request. -/
def State.wrAt (s : State) (w : Wr) (s1 : State) (x : WrIn) : Prop := s.takeWr w (fun o => o == x.off) = (s1, some x)

/-- From s to s' the record queue took exactly one record, of this class, code and severity (R479). -/
def State.tookRecord (s s' : State) (cls code sev : Nat) : Prop :=
  ∃ r : Rec, r.cls = cls ∧ r.code = code ∧ r.sev = sev ∧ s'.rel.queue = s.rel.queue ++ [r]

/-! Ports. -/

/-- What stands before a port to be admitted under a number: the master, the class and the units of a request at its home's port, of
the HBM read of a fill at its controller front, or of a packet at its egress port (R304–R307). -/
def State.offers (s : State) (n id : Nat) : Option (Nat × Nat × Nat) :=
  match linkOfPort n with
  | some l => ((s.link l).out.find? (fun q => q.id == id)).bind (fun q =>
      if regulated l q.pkt && q.adm == 0 && firstOf (s.link l).out l q then some (q.mid, q.cls, q.pkt.units) else none)
  | none => (s.findReq id).bind (fun r =>
      if 8 ≤ n ∧ n < 16 then
        ((s.slice (n - 8)).misses.find? (fun m => !m.remote && m.reqs.head? == some id)).bind (fun m =>
          if m.adm = 0 then some (r.who.mid, r.cls, popCount 4 m.sectors) else none)
      else if s.reqPort r = some n ∧ r.adm = 0 ∧ r.st = .sent ∧ s.noOlder r = true ∧ midIssued r.who.mid = true then
        some (r.who.mid, r.cls, reqUnits r)
      else none)

/-! Packets. -/

/-- The packet p of a type stands at the head of a channel of a Yonus link, its home is this device, and it passes the checks of
R330; ok is what they give. -/
def State.fabOk (s : State) (l v type : Nat) (p : Pkt) (ok : AccOk) : Prop :=
  s.headIn l v = some p ∧ p.type = type ∧ p.dst = s.ownId ∧ (s.takeIn l p).homeCheck l p = .ok ok

/-- The packet p of a type stands at the head of the companion's request channel and passes the checks of R348 and R349. -/
def State.hildOk (s : State) (type : Nat) (p : Pkt) (ok : AccOk) : Prop :=
  s.headIn hildLink 0 = some p ∧ p.type = type ∧ (s.takeIn hildLink p).companionCheck p = .ok ok

/-- From s to s' the packet p left its ingress buffer and became the request r, the last in flight; nothing was performed. -/
def State.queuedFrom (s s' : State) (l : Nat) (p : Pkt) (r : Req) : Prop :=
  r.id = s.nextReq ∧ r.st = .sent ∧ s'.reqs = s.reqs ++ [r] ∧ s'.nextReq = s.nextReq + 1 ∧
  (s'.link l).ingress = (s.link l).ingress.erase p ∧ { s' with reqs := s.reqs, nextReq := s.nextReq, fab := s.fab } = s

/-! Row operations. -/

/-- A row-op descriptor that has been read passes the checks of R270, its rows and its status word their access checks, its bank
takes operations and has a queue place, and the bank's slice port lets it in (R273). -/
def State.ropGoes (s : State) (who : Who) (ctx : Nat) (ws : List W64) : Prop :=
  let b := physBank (s.ropPhys ws)
  s.ropCheck ws = none ∧ (∀ r ∈ s.ropRows ws, ∃ k, s.checkAccess who.mid ctx .O r 2048 = .ok k) ∧
  (ropStatusEn ws = true → ∃ k, s.checkAccess who.mid ctx .W (ropStat ws) 8 = .ok k) ∧
  (s.bank b).stuck = false ∧ (s.bank b).queue.length < 4 ∧ s.bundleHeld who.mid (ropDst ws) = false ∧
  (s.portPass (b / 64) who.mid (s.clsAt who.mid ctx .O (ropDst ws) 2048) 1).2 = true

/-! Dictionary writes. -/

/-- A write of v to a dictionary entry arrives through the mirror from `who`, with firmware running, and passes the checks of R370;
s1 is the state without the request. -/
def State.mirrorAt (s : State) (via : OdVia) (idx sub : Nat) (v : W64) (s1 : State) (who : Who) : Prop :=
  ∃ rq mid x, via = .mirror rq mid ∧ s.firmware = true ∧ s.carries rq v = true ∧ x.who = who ∧
    s.takeWr { rq := rq, mid := mid, addr := s.globalOf (mirrorOff idx sub), len := 8, data := v }
      (fun o => o == mirrorOff idx sub) = (s1, some x) ∧ s1.odCheckWrite idx sub v = OD_OK

/-- The end of a mirror write with OD_OK (R379, R380). -/
def State.mirrorDone (s : State) (who : Who) (idx sub : Nat) : State := s.odEnd (.mirror who (mirrorOff idx sub)) idx sub true OD_OK

/-! Sessions of the management port. -/

/-- The served port accepts a frame with this version, a length that fits, and a command; d is its message. -/
def State.dealeIn (s : State) (eth : Eth) (f : List Byte) (command : Nat) (d : Deale) : Prop :=
  s.accepts eth = true ∧ frameNat f 0 1 / 16 = 1 ∧ frameLen f ≤ 1024 ∧ 20 + frameLen f ≤ f.length ∧ frameNat f 1 1 = command ∧
  d = dealeOf eth.src.toNat f

/-- The message d is the next request of the session x. -/
def State.dealeNext (s : State) (d : Deale) (x : Session) : Prop :=
  s.mgp.sessions.find? (fun y => y.id == d.session && y.mac == d.mac) = some x ∧ x.seq < 65536 ∧ d.seq = (x.seq + 1) % 65536

/-- From s to s' the message d of session x was answered with a status and data, the answer kept and the number counted. -/
def State.dealeDone (s s' : State) (d : Deale) (x : Session) (status : Nat) (data : List Byte) : Prop :=
  s'.mgp.outbox = s.mgp.outbox ++ [d.reply status data] ∧
  s'.mgp.sessions = s.mgp.sessions.map (fun y => if y.id = x.id then { y with seq := d.seq, kept := some (d.reply status data) } else y)

end Sys2Proof.Machine
end

