-- ==== Sys2Proof/Certificates/Slice0/Obligations.lean ====
section
/-! DEFINITION. What is claimed of the device: statements for the provers, by family of commands. -/

open Sys2Proof Sys2Proof.Machine

/-- For every command c and state s: step of s with c in front is exec of c on s with the queue's rest. With an empty queue the
step is the model's tick (DESIGN CHOICE, log entries 2 and 135). -/
def Obligations.StepRunsFrontCommand : Prop :=
  (∀ (c : Instr) (rest : List Instr) (s : State), step { s with pending := c :: rest } = exec c { s with pending := rest }) ∧
  (∀ s : State, s.pending = [] → ∃ s', step s = .next s' ∧ s'.pending = [] ∧ s'.mem = s.mem ∧ s'.reqs = s.reqs ∧ s'.sync = s.sync ∧
    s'.rel = s.rel ∧ ∀ t, { s'.tile t with dbg := { s'.dbg t with busy := (s.dbg t).busy, stall := (s.dbg t).stall } } = s.tile t)

/-- State.reset at the values the spec gives; the memories in their canonical form.
The model's own readings in it: log entries 11, 14, 15, 16. -/
def Obligations.ResetState : Prop :=
  let s := State.reset
  s.pending = [] ∧ s.mem.wf = true ∧ s.reqs = [] ∧ s.rel.queue = [] ∧ s.rel.seq = 0 ∧ s.startupHold = true ∧ s.pwr.converter = false ∧
  s.bup.stage = 0 ∧ s.bup.state = 0 ∧ s.bup.fw = false ∧ (∀ n, s.ctr n = 0) ∧ (∀ n, (s.lockOf n).owner = none) ∧ s.sync.waits = [] ∧
  (∀ t : Fin 144, (s.core t.val).st = 0 ∧ (∀ i, (s.core t.val).reg i = 0) ∧ (s.tile t.val).task = none ∧ (s.tile t.val).sb = []) ∧
  (∀ n : Fin 20, (s.table n.val).lock = false ∧ ∀ i, (SMap.find (s.table n.val).entries i).isSome = decide (i = 0)) ∧
  (∀ l, (s.link l).ingress = [] ∧ (s.link l).unacked = [])

/-- R479, for every record and state. -/
def Obligations.RecordQueue : Prop :=
  ∀ (s : State) (r : Rec),
    let room := if r.sev < 2 then s.rel.queue.length < 960 else s.rel.queue.length < 1024
    (room → s.report r = { s with rel := { s.rel with queue := s.rel.queue ++ [r] } }) ∧
    (¬ room → (s.report r).rel.queue = s.rel.queue ∧ (s.report r).odGet 0x2D00 0x10 = s.odGet 0x2D00 0x10 + 1 ∧
      (∀ idx sub, odKey idx sub ≠ odKey 0x2D00 0x10 → (s.report r).odGet idx sub = s.odGet idx sub) ∧
      (s.report r).rel.lines = (if r.sev < 2 then s.rel.lines else s.rel.lines ++ [r]) ∧
      { s.report r with rel := s.rel, od := s.od } = s) ∧
    (s.rel.queue.length ≤ 1024 → (s.report r).rel.queue.length ≤ 1024)

/-- For every state and every command, or the tick: Mems.wf is kept. That it holds at reset is stated in ResetState.
The model's own readings in it: log entry 15. -/
def Obligations.MemoryCanonicalKept : Prop :=
  ∀ s s' : State, s.mem.wf = true → step s = .next s' → s'.mem.wf = true

/-- What a control-core instruction with a result changes, and that it changes nothing else (R117). -/
def Obligations.CoreWriteFrame : Prop :=
  ∀ (s : State) (t rd : Nat) (v : W64),
    ((s.coreWrite t rd v).core t).pc = (s.core t).pc + 4 ∧
    (∀ i, ((s.coreWrite t rd v).core t).reg i = if i = rd ∧ rd ≠ 0 then v else (s.core t).reg i) ∧
    ((s.coreWrite t rd v).core t).reg 0 = 0 ∧
    (∀ u, u ≠ t → (s.coreWrite t rd v).tile u = s.tile u) ∧
    { (s.coreWrite t rd v).tile t with core := s.core t, dbg := s.dbg t } = s.tile t ∧
    { s.coreWrite t rd v with tiles := s.tiles } = s ∧
    ((s.dbg t).state = 0 → (s.coreWrite t rd v).dbg t = s.dbg t ∧ ((s.coreWrite t rd v).core t).st = (s.core t).st)

/-- ALU, ALUI and IMMW (R123): result and completion.
The model's own readings in it: log entry 25. -/
def Obligations.CoreArithmeticResult : Prop :=
  ∀ (t : Fin 144) (s : State) (w : W32), s.coreAt t.val w = true →
    (insClass w = 0 →
      let a := (s.core t.val).reg (insRa w)
      let b := (s.core t.val).reg (insRb w)
      exec (.alu t) s = .next (s.coreWrite t.val (insRd w)
        (match insFunc w with
         | 0 => a + b | 1 => a - b | 2 => a &&& b | 3 => a ||| b | 4 => a ^^^ b
         | 5 => a <<< (b.toNat % 64) | 6 => a >>> (b.toNat % 64) | 7 => a.sshiftRight (b.toNat % 64)
         | 8 => if a.slt b then 1 else 0 | 9 => if a.ult b then 1 else 0
         | 10 => a * b | 11 => ((a.setWidth 128 * b.setWidth 128) >>> 64).setWidth 64
         | 12 => if b.slt a then b else a | 13 => if a.slt b then b else a
         | 14 => if b.ult a then b else a | _ => if a.ult b then b else a))) ∧
    (insClass w = 1 →
      let a := (s.core t.val).reg (insRa w)
      let b : W64 := (w.extractLsb' 0 12).signExtend 64
      exec (.alui t) s = .next (s.coreWrite t.val (insRd w)
        (match insFunc w with
         | 0 => a + b | 1 => a &&& b | 2 => a ||| b | 3 => a ^^^ b
         | 4 => a <<< (b.toNat % 64) | 5 => a >>> (b.toNat % 64) | 6 => a.sshiftRight (b.toNat % 64)
         | 7 => if a.slt b then 1 else 0 | _ => if a.ult b then 1 else 0))) ∧
    (insClass w = 2 →
      let p := 16 * (w.extractLsb' 16 2).toNat
      exec (.immw t) s = .next (s.coreWrite t.val (insRd w)
        (((s.core t.val).reg (insRd w) &&& ~~~ ((0xFFFF : W64) <<< p)) ||| ((w.extractLsb' 0 16).setWidth 64 <<< p))))

/-- Control flow of the control core (R122, R123): next PC and completion.
The model's own readings in it: log entry 25. -/
def Obligations.CoreControlFlow : Prop :=
  ∀ (t : Fin 144) (s : State) (w : W32), s.coreAt t.val w = true →
    let pc := (s.core t.val).pc
    (insClass w = 4 →
      let a := (s.core t.val).reg (w.extractLsb' 18 5).toNat
      let b := (s.core t.val).reg (w.extractLsb' 13 5).toNat
      let c := match insFunc w with
        | 0 => a == b | 1 => a != b | 2 => a.slt b | 3 => !a.slt b | 4 => a.ult b | _ => !a.ult b
      exec (.br t) s = .next (s.coreNext t.val (if c then pc + 4 * (w.extractLsb' 0 13).signExtend 64 else pc + 4))) ∧
    (insClass w = 5 →
      exec (.jal t) s = .next ((s.updCore t.val (fun c => c.setReg (insRd w) (pc + 4))).coreNext t.val
        (pc + 4 * (w.extractLsb' 0 21).signExtend 64))) ∧
    (insClass w = 6 → ((s.core t.val).reg (insRa w)).toNat % 4 = 0 →
      exec (.jalr t) s = .next ((s.updCore t.val (fun c => c.setReg (insRd w) (pc + 4))).coreNext t.val ((s.core t.val).reg (insRa w)))) ∧
    (insClass w = 10 → insFunc w = 0 → exec (.nop t) s = .next (s.coreNext t.val (pc + 4))) ∧
    (insClass w = 10 → insFunc w = 3 → (∀ r ∈ (s.tile t.val).sb, r.pend ≠ [.claim]) →
      exec (.coreEnd t) s = .next ((s.updCore t.val (fun c => { c with st := 0, ended := true })).coreDone t.val))

/-- The order of R124 and the effect of a fault (R125), shown at ALU for every word and at the other classes through the shared
check that every core instruction runs.
The model's own readings in it: log entry 25. -/
def Obligations.CoreCheckOrder : Prop :=
  ∀ (t : Fin 144) (s : State) (bs : List PByte) (cls : Nat) (f : Option Nat) (body : State → W32 → State),
    (s.tile t.val).coreRuns = true → cachedWord (s.core t.val).icache (s.core t.val).pc = some bs →
    (s.core t.val).icPerr.contains ((s.core t.val).pc.toNat / 64) = false → (s.dbg t.val).bpAt (s.core t.val).pc = none →
    (insGen (insWord bs) ≠ 0 → s.coreExec t.val cls f body = s.coreFault t.val 0x05 0x01 0) ∧
    (insGen (insWord bs) = 0 → insDefined (insWord bs) = false → s.coreExec t.val cls f body = s.coreFault t.val 0x05 0x02 0) ∧
    (insGen (insWord bs) = 0 → insDefined (insWord bs) = true → insClass (insWord bs) = 0 →
      (insWord bs &&& 0x7C0 ≠ 0 → exec (.alu t) s = .next (s.coreFault t.val 0x05 0x03 0)) ∧
      (insWord bs &&& 0x7C0 = 0 → poisoned bs = true → exec (.alu t) s = .next (s.coreFault t.val 0x01 0x02 (s.core t.val).pc))) ∧
    (∀ k code addr,
      let s' := s.coreFault t.val k code addr
      (s'.core t.val).faultPc = (s.core t.val).pc ∧ s'.mem = s.mem ∧
      (∀ i, (s'.core t.val).reg i = (s.core t.val).reg i) ∧
      (s.rel.queue.length < 960 → s.tookRecord s' k code 1) ∧
      (∀ p n j, (s.tile t.val).task = some (p, n) → j ∈ s'.sched.tasks → j.part = p → j.seq = n → j.st = .placed → j.abort.isSome = true) ∧
      ((s.dbg t.val).state = 0 → (s'.core t.val).st = 5))

/-- CORE_LOAD, CORE_STORE, CORE_LOAD_RETURN and INSN_FETCH_RETURN (R119, R120): completion.
The model's own readings in it: log entries 25, 28. -/
def Obligations.CoreMemoryAccess : Prop :=
  ∀ (t : Fin 144) (s : State),
    (∀ (w : W32) (ok : AccOk), s.coreAt t.val w = true → insClass w = 3 →
      let a := (s.core t.val).reg (insRa w) + (w.extractLsb' 0 13).signExtend 64
      let n := 2 ^ (insFunc w % 4)
      a.toNat % n = 0 →
      (insFunc w < 4 → s.checkAccess t.val (s.tile t.val).ctx .R a.toNat n = .ok ok →
        let p := s.issue (newReq (.core t.val) (s.tile t.val).ctx .load a.toNat n [] 0) ok
        exec (.coreLoad t) s = .next (p.1.updCore t.val (fun c => { c with st := 3, wait := some (.load (insRd w) n p.2) }))) ∧
      (4 ≤ insFunc w → s.checkAccess t.val (s.tile t.val).ctx .W a.toNat n = .ok ok →
        let v := (s.core t.val).reg (insRd w)
        let p := s.issue (newReq (.core t.val) (s.tile t.val).ctx .store a.toNat n (clean (leBytes n v.toNat)) 0) ok
        exec (.coreStore t) s = .next (p.1.coreNext t.val ((s.core t.val).pc + 4)))) ∧
    (∀ (rd size id : Nat) (r : Req), (s.core t.val).wait = some (.load rd size id) → s.findReq id = some r → r.st = .done →
      poisoned r.data = false →
      exec (.coreLoadReturn t) s = .next (((s.dropReq id).updCore t.val (fun c =>
        { c.setReg rd (BitVec.ofNat 64 (leNat ((vals r.data).take size))) with wait := none, pc := c.pc + 4, st := 1 })).coreDone t.val)) ∧
    (∀ (bs : List PByte) (s' : State),
      let pc := (s.core t.val).pc
      (s.tile t.val).coreRuns = true → (cachedWord (s.core t.val).icache pc) = none →
      (s.core t.val).icPerr.contains (pc.toNat / 64) = false → (s.dbg t.val).bpAt pc = none →
      s.directRead (.core t.val) (s.tile t.val).ctx .X (pc.toNat / 64 * 64) 64 0 = (s', .bytes bs) →
      exec (.insnFetchReturn t) s = .next (s'.updCore t.val (fun c => { c with icache := SMap.put c.icache (pc.toNat / 64) bs })))

/-- PASS, PASSR, DMA, KLAUNCH and ISSUE_ACCEPT (R127): completion.
The model's own readings in it: log entries 25, 26. -/
def Obligations.CoreIssueAndAccept : Prop :=
  ∀ (t : Fin 144) (s : State),
    (∀ w : W32, s.coreAt t.val w = true → insClass w = 8 →
      let off := ((s.core t.val).reg (insRa w)).toNat
      (insFunc w = 0 → off ≤ 0x5F_FFFF → off % 64 = 0 →
        exec (.pass t) s = .next (s.startIssue t.val { func := 0, mover := none, addr := off, words := none })) ∧
      (insFunc w = 1 → insRa w = 8 ∨ insRa w = 16 ∨ insRa w = 24 →
        exec (.passr t) s = .next (s.startIssue t.val
          { func := 1, mover := none, addr := 0, words := some ((List.range 8).map (fun i => (s.core t.val).reg (insRa w + i))) })) ∧
      (insFunc w = 2 → off ≤ 0x5F_FFFF → off % 32 = 0 →
        exec (.dma t) s = .next (s.startIssue t.val
          { func := 2, mover := if w.getLsbD 9 then none else some (w.extractLsb' 10 2).toNat, addr := off, words := none })) ∧
      (insFunc w = 3 → off ≤ 0x5F_FFFF → off % 32 = 0 →
        exec (.klaunch t) s = .next (s.startIssue t.val { func := 3, mover := none, addr := off, words := none }))) ∧
    (∀ (i : Issue) (ws : List W64), (s.core t.val).st = 2 → (s.core t.val).issue = some i → i.words = some ws →
      s.storesDone (fun w => w == .core t.val) = true → (s.dbg t.val).state = 0 →
      (∀ m, i.func = 2 → (Dd.ofWords ws).check = none → (s.tile t.val).moverFor i.mover = some m →
        (s.tile t.val).sb.length + 2 ≤ 256 →
        ∃ s', exec (.issueAccept t) s = .next s' ∧ (s'.core t.val).st = 1 ∧ (s'.core t.val).issue = none ∧
          (s'.core t.val).pc = (s.core t.val).pc + 4 ∧
          (s'.tile t.val).mover m = (s.tile t.val).mover m ++
            [{ dd := Dd.ofWords ws, op := (s.core t.val).nextOp, started := false, issued := false, row := 0, off := 0, rops := 0 }] ∧
          (s'.tile t.val).sb = (s.tile t.val).sb ++
            mergeNamings (s.core t.val).nextOp (.mover t.val m) false (Dd.ofWords ws).namings ∧
          (∀ u, u ≠ t.val → s'.tile u = s.tile u) ∧ { s' with tiles := s.tiles } = s) ∧
      (i.func ≤ 1 → (Pd.ofWords ws).check (s.arr t.val).lastKeep = none → (s.arr t.val).queued.length < 4 →
        (s.tile t.val).sb.length + 3 ≤ 256 →
        ∃ s', exec (.issueAccept t) s = .next s' ∧ (s'.core t.val).st = 1 ∧ (s'.core t.val).issue = none ∧
          (s'.core t.val).pc = (s.core t.val).pc + 4 ∧
          (s'.arr t.val).passes = (s.arr t.val).passes ++ [Pass.new (Pd.ofWords ws) (s.core t.val).nextOp (s.tile t.val).passNo] ∧
          (s'.tile t.val).passNo = (s.tile t.val).passNo + 1 ∧ s'.mem = s.mem) ∧
      (i.func = 3 → (Kl.ofWords ws).check = none → (s.tge t.val).kq.length + 1 < 4 →
        (s.tile t.val).sb.length + (mergeNamings 0 (.l1 t.val) false (Kl.ofWords ws).namings).length ≤ 256 →
        ∃ s', exec (.issueAccept t) s = .next s' ∧ (s'.core t.val).st = 1 ∧ (s'.core t.val).pc = (s.core t.val).pc + 4 ∧
          (s'.tge t.val).kq = (s.tge t.val).kq ++ [(Kl.ofWords ws, (s.core t.val).nextOp)] ∧
          (∀ u, u ≠ t.val → s'.tile u = s.tile u) ∧ { s' with tiles := s.tiles } = s))

/-- TWAIT, TDRAIN, TCLAIM, TREL, TSTATE, FENCE and SB_TIMEOUT (R121, R136, R137): completion.
The model's own readings in it: log entries 25, 29. -/
def Obligations.CoreScoreboardInstructions : Prop :=
  ∀ (t : Fin 144) (s : State),
    let sb := (s.tile t.val).sb
    let op := (s.core t.val).nextOp
    let pc := (s.core t.val).pc
    (∀ w : W32, s.coreAt t.val w = true → insClass w = 9 →
      let tag := (w.extractLsb' 16 6).toNat
      (insFunc w = 0 → hasClaim sb tag = false →
        exec (.twait t) s = .next (if ∀ r ∈ sb, r.tag = tag → r.op < op → r.isWrite = false then s.coreNext t.val (pc + 4)
          else s.coreWaits t.val (.tag op tag false))) ∧
      (insFunc w = 1 → hasClaim sb tag = false →
        exec (.tdrain t) s = .next (if ∀ r ∈ sb, r.tag = tag → r.op < op → r.isWrite = false ∧ r.isRead = false then s.coreNext t.val (pc + 4)
          else s.coreWaits t.val (.tag op tag true))) ∧
      (insFunc w = 2 → hasClaim sb tag = false → sb.length < 256 → (∀ r ∈ sb, r.tag = tag → r.op < op → r.isRead = false) →
        exec (.tclaim t) s = .next ((s.updTile t.val (fun x => { x with
          sb := x.sb ++ [{ op := op, unit := .core t.val, isPass := false, tag := tag, rdIn := false, rdOut := false, wrIn := true,
                           wrOut := false, pend := [.claim] }],
          core := { x.core with nextOp := op + 1 } })).coreNext t.val (pc + 4))) ∧
      (insFunc w = 3 → hasClaim sb tag = true →
        exec (.trel t) s = .next ((s.updTile t.val (fun x => { x with sb := x.sb.filter (fun r => !isClaim r tag) })).coreNext t.val (pc + 4))) ∧
      (insFunc w = 4 →
        exec (.tstate t) s = .next (s.coreWrite t.val (w.extractLsb' 11 5).toNat
          ((if hasClaim sb tag then 4 else 0) + (if ∃ r ∈ sb, r.tag = tag ∧ r.isRead = true then 2 else 0) +
           (if ∃ r ∈ sb, r.tag = tag ∧ r.isWrite = true then 1 else 0))))) ∧
    (∀ w : W32, s.coreAt t.val w = true → insClass w = 10 → insFunc w = 5 →
      exec (.fence t) s = .next (if s.storesDone (fun w => w == .core t.val) then s.coreNext t.val (pc + 4) else s.coreWaits t.val .fence)) ∧
    (∀ (tag : Fin 64) (r : SbReg), sb.find? (fun r => r.tag == tag.val) = some r → (s.dbg t.val).state ≠ 2 → (s.tile t.val).aborting = false →
      exec (.sbTimeout t tag) s = .next
        (((s.report (s.mkRec 0x05 0x10 1 1 (BitVec.ofNat 32 t.val) (BitVec.ofNat 32 tag.val) (r.unit.waiter 0) 0 (s.tileCtx t.val) 0)).odInc
          0x2B80 4).abortTask t.val codeTaskFault))

/-- MFC, MTC and BRK (R126, R208, R500): completion.
The model's own readings in it: log entries 25, 32. -/
def Obligations.CoreSystemInstructions : Prop :=
  ∀ (t : Fin 144) (s : State) (w : W32), s.coreAt t.val w = true → insClass w = 10 →
    let num := (w.extractLsb' 0 12).toNat
    let reg := (w.extractLsb' 17 5).toNat
    let pc := (s.core t.val).pc
    (insFunc w = 1 → num < 0x200 → exec (.mfc t) s = .next (s.coreWrite t.val reg (s.tileReg t.val (8 * num)))) ∧
    (insFunc w = 2 →
      (num = 0x22 → 1 ≤ ((s.core t.val).reg reg).toNat → ((s.core t.val).reg reg).toNat ≤ 60000000 →
        exec (.mtc t) s = .next ((s.updCore t.val (fun c => { c with timeout := ((s.core t.val).reg reg).toNat })).coreNext t.val (pc + 4))) ∧
      (num = 0x20 → ((s.core t.val).reg reg).getLsbD 63 = true →
        exec (.mtc t) s = .next ((s.updCore t.val (fun c => { c with fault := c.fault &&& 0x7FFF_FFFF_FFFF_FFFF })).coreNext t.val (pc + 4))) ∧
      (num < 0x20 → exec (.mtc t) s = .next (s.coreNext t.val (pc + 4)))) ∧
    (insFunc w = 4 → (s.dbg t.val).state = 0 →
      ∃ s', exec (.brk t) s = .next s' ∧ (s'.dbg t.val).state = 1 ∧ (s'.dbg t.val).cause = 2 ∧ (s'.core t.val).st = 4 ∧
        (s'.core t.val).pc = pc ∧ s'.mem = s.mem)

/-- WEIGHT_LOAD_START, SHADOW_LOAD_COMPLETE, PASS_START, ROW_ADMIT, OUT_RESULT_WRITTEN and PASS_DONE (R70–R75): completion.
The model's own readings in it: log entries 17, 18, 19. -/
def Obligations.ArrayPassProgress : Prop :=
  ∀ (t : Fin 144) (s : State),
    let x := s.tile t.val
    (∀ (before : List Pass) (p : Pass), x.arr.nextLoad = some (before, p) → s.passMayBegin t.val = true → p.pd.keep = false →
      p.cut = false → mayRead x.sb p.op p.pd.tagW false = true → (∀ q, before.getLast? = some q → q.st = .draining) →
      let wave := match before.getLast? with
        | some q => p.pd.reload == 0 && s.odGet 0x2A00 1 == 1 && q.pd.sameClass p.pd && !x.arr.error && x.arr.ramp != 4
        | none => false
      let rw := match p.pd.rangeW with | some r => s.arrRead t.val r.1 r.2 | none => ([], s)
      let rs := match p.pd.rangeWS with | some r => rw.2.arrRead t.val r.1 r.2 | none => ([], rw.2)
      exec (.weightLoadStart t) s = .next (rs.2.updArr t.val (fun a =>
        { a.setPass { p with st := .loading, wset := some { mode := p.pd.mode, wFmt := p.pd.wFmt, aFmt := p.pd.aFmt, bscale := p.pd.bscale,
                                                            intScale := p.pd.intScale, kBlocks := p.pd.kBlocks, w := rw.1, s := rs.1 } } with
          waveCount := if wave then wrapAdd 32 a.waveCount 1 else a.waveCount,
          stallCount := if wave then a.stallCount else wrapAdd 32 a.stallCount 1 }))) ∧
    (∀ p : Pass, x.arr.passes.find? (fun p => p.st == .loading) = some p → x.arr.stuck = false →
      ∃ s', exec (.shadowLoadComplete t) s = .next s' ∧ (s'.tile t.val).sb = releaseEv x.sb p.op .shadow ∧
        (∀ q ∈ (s'.arr t.val).passes, q.op = p.op → q.st = .loaded ∧ q.wset = p.wset) ∧
        (∀ u, u ≠ t.val → s'.tile u = s.tile u) ∧ { s' with tiles := s.tiles } = s) ∧
    (∀ (p : Pass) (held : Nat), x.arr.head = some p → p.rowsIn = 0 →
      (p.st = .loaded ∨ (p.pd.keep = true ∧ p.st = .queued ∧ x.arr.stat.isSome = true ∧ x.arr.ramp = 2)) → p.noStart = false → p.cut = false →
      x.arr.works = true → x.dbg.mayBegin = true → x.aborting = false → mayRead x.sb p.op p.pd.tagA false = true →
      mayRead x.sb p.op p.pd.tagW false = true → mayWrite x.sb p.op p.pd.tagOut true = true → mayRead x.sb p.op p.pd.tagOut true = true →
      x.arr.rowFree p 0 = true →
      let ws := if p.pd.keep then x.arr.stat else p.wset
      exec (.passStart t held) s = .next ((s.updArr t.val (fun a => { a with stat := ws })).admitRow t.val { p with wset := ws } held)) ∧
    (∀ (p : Pass) (held : Nat), x.arr.head = some p → p.st = .streaming → p.cut = false → x.arr.works = true → x.aborting = false →
      x.arr.rowFree p p.rowsIn = true →
      ∃ s', exec (.rowAdmit t held) s = .next s' ∧
        (∀ q ∈ (s'.arr t.val).passes, q.op = p.op → q.rowsIn = p.rowsIn + 1 ∧
          q.st = if p.rowsIn + 1 = p.pd.m then .draining else .streaming) ∧
        (s'.arr t.val).stallSteps = wrapAdd 64 x.arr.stallSteps held) ∧
    (∀ (pass row : Nat) (p : Pass) (w : WSet) (r : List PByte × List PByte), x.arr.passes.find? (fun p => p.op == pass) = some p →
      p.wset = some w → SMap.find p.rows row = some r → x.arr.works = true → p.colsDone row < p.pd.nCols →
      x.arr.columnFree p row (p.colsDone row) = true →
      let n := p.colsDone row
      let out := p.pd.outAt row n
      (x.arr.before p.op).all (fun q => (q.unread out).all (fun e => x.arr.interlockFree q (q.pd.outAt e.1 e.2))) = true →
      (p.pd.accumulate = true → x.arr.interlockFree p out = true) →
      let s1 := s.readPrevs t.val p.op out
      let prev := if p.pd.accumulate then (match SMap.find p.prevs (prevKey row n) with
          | some bs => (bs, s1) | none => s1.arrRead t.val out.1 out.2) else ([], s1)
      let res := passResult (p.resultIn w r n (vals prev.1))
      let bad := poisoned r.1 || poisoned r.2 || poisoned (w.colBytes n) || poisoned (w.colScales n) || poisoned prev.1 ||
        p.parity.any (fun e => e.1 == n && decide (e.2 ≤ row))
      exec (.outResultWritten t pass row) s = .next ((prev.2.memWrite
        (.store t.val (p.pd.outAddr + row * p.pd.outStride + n * p.pd.outSize))
        (res.bytes.map (fun b => some (b, bad))) ((Who.array t.val).waiter 0)).updArr t.val (fun a =>
          (a.setPass { p with colsOut := SMap.put p.colsOut row (n + 1), prevs := SMap.drop p.prevs (prevKey row n),
                              rows := if n + 1 = p.pd.nCols then SMap.drop p.rows row else p.rows }).noteResult res bad))) ∧
    (∀ p : Pass, x.arr.passes.find? Pass.allOut = some p →
      ∃ s', exec (.passDone t) s = .next s' ∧ (s'.arr t.val).passes = x.arr.passes.filter (fun q => q.op != p.op) ∧
        (s'.tile t.val).sb = (if p.cut then x.sb else releaseEv x.sb p.op .results) ∧ s'.mem = s.mem)

/-- RAMP_TOKEN_GRANT, RAMP_STEP, IDLE_HOLD_EXPIRY, RIDDLE_REQUEST_CHANGE, ARR_PARITY and ARR_STUCK (R79, R98–R111): completion.
The model's own readings in it: log entries 21, 22, 23. -/
def Obligations.ArrayRampAndErrors : Prop :=
  ∀ (t : Fin 144) (s : State),
    let a := s.arr t.val
    (∀ waited : Nat, (∀ u, u < t.val → u / 18 = t.val / 18 → (s.arr u).want = 0) → s.tokensTaken (t.val / 18) < s.odNat 0x2A00 8 →
      a.want = 1 ∨ a.want = 2 →
      ∃ s', exec (.rampTokenGrant t waited) s = .next s' ∧ (s'.arr t.val).ramp = (if a.want = 1 then 1 else 3) ∧
        (s'.arr t.val).blocks = (if a.want = 1 then 1 else 7) ∧ (s'.arr t.val).want = 0 ∧ (s'.arr t.val).token = true ∧
        (s'.arr t.val).urgent = (a.urgent || (s.region (8 + t.val / 18)).urgent) ∧
        (s'.arr t.val).tokenWait = satAdd 32 a.tokenWait waited ∧ { s' with tiles := s.tiles } = s) ∧
    (a.ramp = 1 → a.blocks < 8 →
      exec (.rampStep t) s = .next (s.updArr t.val (fun a => { a with blocks := a.blocks + 1 }))) ∧
    (a.ramp = 1 → a.blocks = 8 → ∃ s', exec (.rampStep t) s = .next s' ∧ (s'.arr t.val).ramp = 2 ∧ (s'.arr t.val).token = false ∧
      (s'.arr t.val).ramps = wrapAdd 16 a.ramps 1 ∧ (s'.arr t.val).passes = a.passes) ∧
    (a.ramp = 3 → 0 < a.blocks →
      exec (.rampStep t) s = .next (s.updArr t.val (fun a => { a with blocks := a.blocks - 1 }))) ∧
    (a.ramp = 3 → a.blocks = 0 → a.stuck = false → ∃ s', exec (.rampStep t) s = .next s' ∧
      (s'.arr t.val).token = false ∧ (s'.arr t.val).urgent = false ∧ (s'.arr t.val).passes = a.passes ∧
      (a.passes = [] → (s'.arr t.val).ramp = 0) ∧
      (a.passes ≠ [] → s.riddle t.val = false → (s'.arr t.val).ramp = 0 ∧ (s'.arr t.val).want = 1) ∧
      (a.passes ≠ [] → s.riddle t.val = true → (s'.arr t.val).ramp = 4)) ∧
    (a.ramp = 2 → a.passes = [] → exec (.idleHoldExpiry t) s = .next (s.updArr t.val (fun a => { a with want := 2 }))) ∧
    (∀ src : Fin 3,
      (a.ramp = 2 → a.passes = [] → s.riddle t.val = true →
        exec (.riddleRequestChange t src) s = .next (s.updArr t.val (fun a => { a with want := 2 }))) ∧
      (a.ramp = 4 → s.riddle t.val = false → (∀ p ∈ a.passes, p.st = .queued) →
        (a.passes = [] →
          exec (.riddleRequestChange t src) s = .next (s.updArr t.val (fun a => { a with ramp := 0, blocks := 0 }))) ∧
        (a.passes ≠ [] → a.stuck = false →
          exec (.riddleRequestChange t src) s = .next (s.updArr t.val (fun a => { a with ramp := 0, blocks := 0, want := 1 }))))) ∧
    (∀ (col : Fin 256) (row : Nat), a.blocks ≠ 0 → a.stuck = false →
      (∀ p, a.passes.find? (fun p => p.st == .loading || p.st == .loaded) = some p →
        exec (.arrParity t true col row) s = .next
          ((s.updArr t.val (fun a => a.setPass { p with noStart := true })).arrError t.val 0x09 1 0 codeTaskFault)) ∧
      (a.passes.any Pass.live = true →
        exec (.arrParity t false col row) s = .next
          ((s.updArr t.val (fun a => { a with passes := parityMark col.val row a.passes })).arrError t.val 0x09 1 0 codeTaskFault)) ∧
      (a.passes.any Pass.live = false →
        exec (.arrParity t false col row) s = .next
          ((s.arrError t.val 0x09 1 0 codeTaskFault).updArr t.val (fun a => { a with stat := none, lastKeep := none })))) ∧
    (a.stuck = false → a.blocks ≠ 0 → ∃ s', exec (.arrStuck t) s = .next s' ∧ (s'.arr t.val).stuck = true ∧ (s'.arr t.val).blocks = 0 ∧
      (s'.arr t.val).ramp = 0 ∧ (s'.arr t.val).token = false ∧ s'.mem = s.mem ∧
      ∀ p n j, (s.tile t.val).task = some (p, n) → j ∈ s'.sched.tasks → j.part = p → j.seq = n → j.st = .placed → j.abort.isSome = true)

/-- DMA_COPY, DMA_FILL, DMA_REDUCE, DMA_REQUEST_ISSUE, DMA_ROWOP, DMA_SIGNAL, DMA_DONE (R128–R140, R256, R272): completion.
The model's own readings in it: log entries 30, 33. -/
def Obligations.MoverOperations : Prop :=
  ∀ (t : Fin 144) (m : Fin 4) (s : State),
    let x := s.tile t.val
    (∀ e, x.nextDma m.val = some e → e.dd.tagsReady x.sb e.op = true → x.dbg.mayBegin = true → x.aborting = false →
      let started := (s.updEnt t.val m.val e.op (fun e => { e with started := true })).traceTile t.val 0x04
        (leBytes 8 (e.dd.words.getD 0 0).toNat ++ leBytes 1 m.val)
      (e.dd.op = 0 → exec (.dmaCopy t m) s = .next started) ∧
      (e.dd.op = 1 → exec (.dmaFill t m) s = .next started) ∧
      (e.dd.op = 2 → exec (.dmaReduce t m) s = .next started)) ∧
    (∀ e, x.issuing m.val = some e → x.aborting = false → x.dbg.mayBegin = true → s.findReq s.nextReq = none →
      (∀ ok, e.dd.op = 0 ∨ e.dd.op = 2 → e.rowsDone = false → s.checkAccess t.val x.ctx .R e.srcAt e.chunk = .ok ok →
        ok.region = some .hbm ∨ ok.region = some .scratch →
        ∃ s' r, exec (.dmaRequestIssue t m false) s = .next s' ∧ s'.findReq s.nextReq = some r ∧ r.kind = .load ∧ r.st = .sent ∧
          r.who = .mover t.val m.val ∧ r.op = e.op ∧ r.addr = (e.dd.src.toNat + e.row * e.dd.srcStride * 8 + e.off) % 2 ^ 64 ∧ r.aux = e.dstAt ∧
          r.len = e.chunk ∧ r.len ≤ 256 ∧ r.addr % 256 + r.len ≤ 256 ∧
          (s'.tile t.val).mover m.val = (x.mover m.val).map (fun y => if y.op = e.op then y.advance (DmaEnt.chunk e) else y) ∧
          (s'.tile t.val).sb = x.sb ∧ s'.mem = s.mem ∧ ∀ u, u ≠ t.val → s'.tile u = s.tile u) ∧
      (∀ ok, e.dd.op = 1 → e.rowsDone = false → s.checkAccess t.val x.ctx .W e.dstAt e.chunk = .ok ok →
        ok.region = some .hbm ∨ ok.region = some .scratch →
        ∃ s' r, exec (.dmaRequestIssue t m true) s = .next s' ∧ s'.findReq s.nextReq = some r ∧ r.kind = .store ∧ r.addr = e.dstAt ∧
          r.who = .mover t.val m.val ∧ r.data.length = e.chunk ∧
          (∀ i < e.chunk, r.data[i]? = some ((leBytes 8 e.dd.src.toNat).getD (i % 8) 0, false)) ∧ s'.mem = s.mem) ∧
      (∀ r ok, e.dd.op = 0 → (s.moverReqs t.val m.val e.op).find? (fun r => r.kind == .load &&
          (match r.st with | .done => true | .failed _ => true | _ => false)) = some r → r.st = .done →
        (∀ y ∈ s.moverReqs t.val m.val e.op, s.regRead y = false) → s.checkAccess t.val r.ctx .W r.aux r.data.length = .ok ok →
        ok.region = some .hbm ∨ ok.region = some .scratch → r.id < s.nextReq →
        ∃ s' y, exec (.dmaRequestIssue t m true) s = .next s' ∧ s'.findReq r.id = none ∧ s'.findReq s.nextReq = some y ∧
          y.kind = .store ∧ y.addr = r.aux ∧ y.data = r.data ∧ y.who = .mover t.val m.val ∧ y.op = e.op ∧ s'.mem = s.mem)) ∧
    (∀ e s1 bs, x.issuing m.val = some e → x.nextDma m.val = none → e.dd.op = 3 → x.aborting = false →
      let a := (e.dd.src.toNat + e.row * 32) % 2 ^ 64
      let hint := if a % 256 = 224 ∨ e.dd.rows ≤ e.row + 1 then e.dd.lastUse else 0
      s.directPeek (.mover t.val m.val) x.ctx .R a 32 e.op hint = (s1, .bytes bs) → poisoned bs = false →
      let s0 := (s1.dropDirect (.mover t.val m.val) e.op).updEnt t.val m.val e.op (fun e =>
        { e with row := e.row + 1, issued := decide (e.dd.rows ≤ e.row + 1) })
      let ws := wordsOf bs 4
      let b := physBank (s0.ropPhys ws)
      s0.ropGoes (.mover t.val m.val) x.ctx ws →
      ∃ s' y, exec (.dmaRowop t m) s = .next s' ∧ (s'.bank b).queue = (s0.bank b).queue ++ [y] ∧ y.words = ws ∧
        y.who = .mover t.val m.val ∧ y.ctx = x.ctx ∧ y.mover = some (t.val, m.val, e.op) ∧ y.retry = false ∧ y.initAt = 0 ∧
        (s'.tile t.val).mover m.val = ((s0.tile t.val).mover m.val).map (fun z => if z.op = e.op then { z with rops := z.rops + 1 } else z) ∧
        s'.mem = s0.mem) ∧
    (∀ e rest ok n s1, x.mover m.val = e :: rest → e.dd.op = 4 → x.dbg.mayBegin = true → x.aborting = false → n < 65536 →
      addrFormatOk e.dd.dst.toNat = true → s.isLocal e.dd.dst.toNat = true → addrOffset e.dd.dst.toNat = 0x102_0000_0000 + 16 * n →
      s.checkAccess t.val x.ctx .A e.dd.dst.toNat 8 = .ok ok → s.enter (.mover t.val m.val) ok.cls e.dd.dst.toNat 1 = (s1, true) →
      s.attr .ctr n = 0 → s.ctr n + e.dd.src.toNat < 2 ^ 64 → (∀ y ∈ s.sync.waits, y.held = false) →
      ∃ s', exec (.dmaSignal t m) s = .next s' ∧ s'.ctr n = s.ctr n + e.dd.src.toNat ∧ (∀ k, k ≠ n → s'.ctr k = s.ctr k) ∧
        (s'.tile t.val).mover m.val = rest ∧ s'.mem = s.mem) ∧
    (∀ e, (x.mover m.val).find? (fun e => s.dmaComplete t.val m.val e) = some e →
      ∃ s', exec (.dmaDone t m) s = .next s' ∧ (s'.tile t.val).mover m.val = (x.mover m.val).filter (fun y => y.op != e.op) ∧
        (s'.tile t.val).sb = releaseEv (releaseEv x.sb e.op .srcRead) e.op .dstDone ∧ s'.mem = s.mem ∧ s'.reqs = s.reqs ∧
        ∀ u, u ≠ t.val → s'.tile u = s.tile u)

/-- VINT, VFP, UNI, PRED (R150, R152): results, frame and completion.
The model's own readings in it: log entry 39. -/
def Obligations.GroupArithmeticResults : Prop :=
  ∀ (t : Fin 144) (slot : Fin 64) (s : State) (g : Grp) (w : W64) (u : GUse),
    s.groupAt t.val slot.val g w u = true → g.active ≠ 0 →
    let imm (n : Nat) : BitVec n := (w.extractLsb' 0 13).signExtend n
    let a (l : Nat) : W32 := g.opd (uselOpd w 13) (gVa w) l
    let b (l : Nat) : W32 := g.opd (uselOpd w 14) (gVb w) l
    let c (l : Nat) : W32 := g.opd (uselOpd w 15) (gVc w) l
    let acts (l : Nat) : Bool := (g.acting w).testBit l
    (gCls w = 0 → ∃ s' g', exec (.vint t slot) s = .next s' ∧ s'.grp t.val slot.val = some g' ∧ g'.pc = g.pc + 8 ∧
      g'.u = g.u ∧ g'.active = g.active ∧ g'.stack = g.stack ∧ s.groupOnly s' t.val slot.val ∧
      (gOp w ≠ 16 → g'.p = g.p ∧
        (∀ l < 32, acts l = true → g'.vlive (gVd w) l = some (intSpec 32 (gOp w) (a l) (if gOp w = 15 then imm 32 else b l))) ∧
        (gLu w = 0 → s.regsStay s' t.val slot.val (fun r l => r == gVd w && acts l))) ∧
      (gOp w = 16 → (∀ l < 32, (g'.preg (gVd w)).getLsbD l =
        if acts l then condSpec (fld w 0 3) (a l) (b l) else (g.preg (gVd w)).getLsbD l) ∧
        (∀ r, r ≠ gVd w → g'.preg r = g.preg r) ∧ (gLu w = 0 → s.regsStay s' t.val slot.val (fun _ _ => false)))) ∧
    (gCls w = 1 → ∃ s' g', exec (.vfp t slot) s = .next s' ∧ s'.grp t.val slot.val = some g' ∧ g'.pc = g.pc + 8 ∧
      g'.u = g.u ∧ g'.active = g.active ∧ g'.stack = g.stack ∧ s.groupOnly s' t.val slot.val ∧
      (gOp w ≠ 8 → g'.p = g.p ∧
        (∀ l < 32, acts l = true → g'.vlive (gVd w) l = some (gFpOp (gOp w) (a l) (b l) (c l))) ∧
        (gLu w = 0 → s.regsStay s' t.val slot.val (fun r l => r == gVd w && acts l))) ∧
      (gOp w = 8 → (∀ l < 32, (g'.preg (gVd w)).getLsbD l =
        if acts l then gFpCond (fld w 0 2) (a l) (b l) else (g.preg (gVd w)).getLsbD l) ∧
        (∀ r, r ≠ gVd w → g'.preg r = g.preg r) ∧ (gLu w = 0 → s.regsStay s' t.val slot.val (fun _ _ => false)))) ∧
    (gCls w = 6 → ∃ s' g', exec (.uni t slot) s = .next s' ∧ s'.grp t.val slot.val = some g' ∧ g'.pc = g.pc + 8 ∧
      g'.active = g.active ∧ g'.stack = g.stack ∧ s.groupOnly s' t.val slot.val ∧ s.regsStay s' t.val slot.val (fun _ _ => false) ∧
      (gOp w ≠ 16 → g'.p = g.p ∧ ∀ r, g'.ureg r = if r = gVd w then
        intSpec 64 (gOp w) (g.ureg (gVa w)) (if gOp w = 15 then imm 64 else g.ureg (gVb w)) else g.ureg r) ∧
      (gOp w = 16 → g'.u = g.u ∧ ∀ r, g'.preg r = if r = gVd w % 8 then
        (if condSpec (fld w 0 3) (g.ureg (gVa w)) (g.ureg (gVb w)) then 0xFFFF_FFFF else 0) else g.preg r)) ∧
    (gCls w = 7 → ∃ s' g', exec (.pred t slot) s = .next s' ∧ s'.grp t.val slot.val = some g' ∧ g'.pc = g.pc + 8 ∧
      g'.active = g.active ∧ g'.stack = g.stack ∧ s.groupOnly s' t.val slot.val ∧ s.regsStay s' t.val slot.val (fun _ _ => false) ∧
      (gOp w < 6 → g'.u = g.u ∧ ∀ l < 32, (g'.preg (gVd w)).getLsbD l =
        if g.active.testBit l then
          (let x := (g.preg (gVa w)).getLsbD l
           let y := (g.preg (gVb w)).getLsbD l
           match gOp w with | 0 => x && y | 1 => x || y | 2 => x ^^ y | 3 => !x | 4 => true | _ => false)
        else (g.preg (gVd w)).getLsbD l) ∧
      (gOp w < 6 → ∀ r, r ≠ gVd w → g'.preg r = g.preg r) ∧
      (gOp w = 6 → g'.p = g.p ∧ ∀ r, g'.ureg r = if r = gVd w then (BitVec.ofNat 32 g.active &&& g.preg (gVa w)).setWidth 64 else g.ureg r))

/-- SHFL, BCAST, RDLANE (R150): results, frame and completion.
The model's own readings in it: log entry 39. -/
def Obligations.GroupLaneExchange : Prop :=
  ∀ (t : Fin 144) (slot : Fin 64) (s : State) (g : Grp) (w : W64) (u : GUse),
    s.groupAt t.val slot.val g w u = true → g.active ≠ 0 → gCls w = 9 →
    let acts (l : Nat) : Bool := (g.acting w).testBit l
    (gOp w = 0 → ∃ s' g', exec (.shfl t slot) s = .next s' ∧ s'.grp t.val slot.val = some g' ∧ g'.pc = g.pc + 8 ∧
      g'.u = g.u ∧ g'.p = g.p ∧ s.groupOnly s' t.val slot.val ∧
      (∀ l < 32, acts l = true → g'.vlive (gVd w) l = some (g.v32 (gVa w) ((g.v32 (gVb w) l).toNat % 32))) ∧
      (gLu w = 0 → s.regsStay s' t.val slot.val (fun r l => r == gVd w && acts l))) ∧
    (gOp w = 1 → ∃ s' g', exec (.bcast t slot) s = .next s' ∧ s'.grp t.val slot.val = some g' ∧ g'.pc = g.pc + 8 ∧
      g'.u = g.u ∧ g'.p = g.p ∧ s.groupOnly s' t.val slot.val ∧
      (∀ l < 32, acts l = true → g'.vlive (gVd w) l = some ((g.ureg (gVa w)).setWidth 32)) ∧
      s.regsStay s' t.val slot.val (fun r l => r == gVd w && acts l)) ∧
    (gOp w = 2 → ∃ s' g', exec (.rdlane t slot) s = .next s' ∧ s'.grp t.val slot.val = some g' ∧ g'.pc = g.pc + 8 ∧
      g'.p = g.p ∧ s.groupOnly s' t.val slot.val ∧ (gLu w = 0 → s.regsStay s' t.val slot.val (fun _ _ => false)) ∧
      (∀ l < 32, acts l = true → (∀ k < l, acts k = false) →
        ∀ r, g'.ureg r = if r = gVd w then (g.v32 (gVa w) l).setWidth 64 else g.ureg r))

/-- IF … END of a group (R157, R158): completion.
The model's own readings in it: log entries 38, 39. -/
def Obligations.GroupMaskStack : Prop :=
  ∀ (t : Fin 144) (slot : Fin 64) (s : State) (g : Grp) (w : W64) (u : GUse),
    s.groupAt t.val slot.val g w u = true → gCls w = 5 →
    let here : W64 := g.pc
    let next := here + 8
    let target := here + 8 * (w.extractLsb' 0 16).signExtend 64
    let c := g.condMask w
    (gOp w = 0 → g.stack.length < 16 →
      exec (.maskIf t slot) s = .next (s.groupTo t.val slot.val w u g { g with
        stack := { kind := 0, saved := g.active, els := g.active &&& notMask c } :: g.stack, active := g.active &&& c,
        pc := if g.active &&& c = 0 then target else next })) ∧
    (∀ e r, gOp w = 1 → g.stack = e :: r → e.kind = 0 →
      exec (.maskElse t slot) s = .next (s.groupTo t.val slot.val w u g { g with
        active := e.els, stack := { e with kind := 1 } :: r, pc := if e.els = 0 then target else next })) ∧
    (∀ e r, gOp w = 2 → g.stack = e :: r → e.kind ≠ 2 →
      exec (.maskEndif t slot) s = .next (s.groupTo t.val slot.val w u g { g with active := e.saved, stack := r, pc := next })) ∧
    (gOp w = 3 → g.stack.length < 16 →
      exec (.maskLoop t slot) s = .next (s.groupTo t.val slot.val w u g { g with
        stack := { kind := 2, saved := g.active, els := 0 } :: g.stack, pc := next })) ∧
    (∀ above e r, gOp w = 4 → g.stack = above ++ e :: r → e.kind = 2 → (∀ x ∈ above, x.kind ≠ 2) →
      let b := g.active &&& c
      exec (.maskBreak t slot) s = .next (s.groupTo t.val slot.val w u g { g with
        active := g.active &&& notMask b,
        stack := above.map (fun x => { x with saved := x.saved &&& notMask b, els := x.els &&& notMask b }) ++ e :: r, pc := next })) ∧
    (∀ e r, gOp w = 5 → g.stack = e :: r → e.kind = 2 →
      exec (.maskCont t slot) s = .next (s.groupTo t.val slot.val w u g { g with pc := if g.active = 0 then next else target })) ∧
    (∀ e r, gOp w = 6 → g.stack = e :: r → e.kind = 2 →
      exec (.maskEndloop t slot) s = .next (s.groupTo t.val slot.val w u g { g with active := e.saved, stack := r, pc := next })) ∧
    (gOp w = 7 → g.active ≠ 0 →
      let x := g.active &&& c
      exec (.maskExit t slot) s = .next (s.groupTo t.val slot.val w u g { g with
        exited := g.exited ||| x, active := g.active &&& notMask x, pc := next,
        stack := g.stack.map (fun e => { e with saved := e.saved &&& notMask x, els := e.els &&& notMask x }) })) ∧
    (gOp w = 8 → g.active ≠ 0 → g.stack = [] →
      exec (.groupEnd t slot) s = .next (s.groupTo t.val slot.val w u g { g with
        exited := g.exited ||| g.active, active := g.active &&& notMask g.active, pc := next }))

/-- JMP, BRA.ANY, BRA.ALL, CALL, RET (R160): completion; what `groupTo` leaves.
The model's own readings in it: log entries 38, 39. -/
def Obligations.GroupBranches : Prop :=
  (∀ (t : Fin 144) (slot : Fin 64) (s : State) (g : Grp) (w : W64) (u : GUse),
    s.groupAt t.val slot.val g w u = true → gCls w = 5 → g.active ≠ 0 →
    let next := g.pc + 8
    let target := g.pc + 8 * (w.extractLsb' 0 16).signExtend 64
    let c := g.condMask w
    (gOp w = 9 → exec (.jmp t slot) s = .next (s.groupTo t.val slot.val w u g { g with pc := target })) ∧
    (gOp w = 10 → exec (.braAny t slot) s = .next (s.groupTo t.val slot.val w u g { g with
      pc := if g.active &&& c ≠ 0 then target else next })) ∧
    (gOp w = 11 → exec (.braAll t slot) s = .next (s.groupTo t.val slot.val w u g { g with
      pc := if g.active &&& c = g.active then target else next })) ∧
    (gOp w = 12 → exec (.call t slot) s = .next (s.groupTo t.val slot.val w u g { g.setU (gVd w) next with pc := target })) ∧
    (gOp w = 13 → exec (.ret t slot) s = .next (s.groupTo t.val slot.val w u g { g with pc := g.ureg (gVa w) }))) ∧
  (∀ (t slot : Nat) (s : State) (g g' : Grp) (w : W64) (u : GUse), s.grp t slot = some g →
    (g'.finished = false → (s.groupTo t slot w u g g').grp t slot = some g' ∧ s.groupOnly (s.groupTo t slot w u g g') t slot ∧
      s.regsStay (s.groupTo t slot w u g g') t slot (fun _ _ => true)) ∧
    (s.groupTo t slot w u g g').mem = s.mem ∧ (∀ v, v ≠ t → (s.groupTo t slot w u g g').tile v = s.tile v) ∧
    (g'.finished = true → SMap.rising none (s.tge t).slots = true → (s.groupTo t slot w u g g').grp t slot = none))

/-- KERNEL_START, GROUP_START, GROUP_FETCH_RETURN, KERNEL_END (R131, R146, R147, R149): completion.
The model's own readings in it: log entry 34. -/
def Obligations.GroupKernelLife : Prop :=
  ∀ (t : Fin 144) (s : State),
    (∀ (k : Kl) (op : Nat) (rest : List (Kl × Nat)), (s.tge t.val).kq = (k, op) :: rest → (s.tge t.val).kern = none →
      k.tagsReady (s.tile t.val).sb op = true → (s.dbg t.val).mayBegin = true → (s.tile t.val).aborting = false →
      exec (.kernelStart t) s = .next (({ s with reqs := s.reqs.filter (fun r => !(match r.who with
          | .group v _ => r.direct && v == t.val | _ => false)) }.updTge t.val (fun g => { g with
        kq := rest, kern := some { kl := k, op := op, next := 0, strict := s.odGet 0x2B81 1 == 1, flush := false },
        l0 := [], l1 := [], gic := [], gicPerr := [], turn := [] })).traceTile t.val 0x06 (leBytes 8 k.entry.toNat ++ leBytes 2 k.groups))) ∧
    (∀ (k : KRun) (n : Nat), (s.tge t.val).kern = some k → k.next < k.kl.groups → (s.dbg t.val).state = 0 →
      (s.tile t.val).aborting = false → n < 64 → k.kl.seqMask.testBit (seqOf n) = true → s.grp t.val n = none →
      (∀ i < n, ¬(k.kl.seqMask.testBit (seqOf i) = true ∧ s.grp t.val i = none)) →
      ∃ s' g, exec (.groupStart t) s = .next s' ∧ s'.grp t.val n = some g ∧ g.num = k.next ∧ g.pc = k.kl.entry ∧
        g.active = 0xFFFF_FFFF ∧ g.exited = 0 ∧ g.stack = [] ∧ g.ureg 0 = k.kl.arg ∧ g.ureg 1 = BitVec.ofNat 64 k.next ∧
        g.ureg 2 = BitVec.ofNat 64 (s.tile t.val).logical ∧ (∀ i, 3 ≤ i → g.ureg i = 0) ∧ (∀ i, g.preg i = 0) ∧
        (∀ l < 32, g.vlive 0 l = some (BitVec.ofNat 32 l)) ∧ (∀ r l, 1 ≤ r → l < 32 → g.vlive r l = none) ∧
        (s'.tge t.val).kern = some { k with next := k.next + 1 } ∧ (∀ i, i ≠ n → s'.grp t.val i = s.grp t.val i) ∧
        (∀ v, v ≠ t.val → s'.tile v = s.tile v) ∧ { s' with tiles := s.tiles } = s) ∧
    (∀ (slot : Fin 64) (g : Grp) (bs : List PByte) (s1 : State),
      s.grp t.val slot.val = some g → s.groupMayIssue t.val slot.val g = true → cachedGWord (s.tge t.val).gic g.pc = none →
      g.pc.toNat % 8 = 0 → (s.tge t.val).gicPerr.contains (g.pc.toNat / 64) = false → (s1.tge t.val).gic.length < 512 →
      s.directRead (.group t.val slot.val) (s.tile t.val).ctx .X (g.pc.toNat / 64 * 64) 64 0 = (s1, .bytes bs) →
      ∃ s', exec (.groupFetchReturn t slot) s = .next s' ∧ (s'.tge t.val).gic = SMap.put (s1.tge t.val).gic (g.pc.toNat / 64) bs ∧
        s'.mem = s1.mem ∧ s'.reqs = s1.reqs ∧ (∀ k, s'.grp t.val k = s1.grp t.val k) ∧ ∀ v, v ≠ t.val → s'.tile v = s1.tile v) ∧
    (∀ k, (s.tge t.val).kern = some k → k.kl.groups ≤ k.next → (s.tge t.val).slots = [] → (s.tge t.val).l1 = [] →
      (s.tile t.val).aborting = false → s.l1Quiet t.val = true →
      ∃ s', exec (.kernelEnd t) s = .next s' ∧ (s'.tge t.val).kern = none ∧
        (s'.tile t.val).sb = releaseEv (s.tile t.val).sb k.op .kernelEnd ∧ s'.mem = s.mem ∧ s'.reqs = s.reqs)

/-- VMEM_LOAD, GROUP_LOAD_RETURN, VMEM_STORE (R165, R166): results and completion.
The model's own readings in it: log entries 35, 36. -/
def Obligations.GroupLoadsAndStores : Prop :=
  ∀ (t : Fin 144) (slot : Fin 64) (s : State) (g : Grp),
    (∀ (w : W64) (u : GUse), s.groupAt t.val slot.val g w u = true → g.active ≠ 0 → gCls w = 2 →
      let as := g.addrs w (g.acting w)
      let n := vmemSize (gOp w)
      (s.tge t.val).tagsGood = true →
      (gOp w % 4 < 2 → s.lanesOk t.val slot.val .R n as (fun _ => true) = none →
        (∀ e ∈ as, gOp w < 4 → s.cacheHas t.val (seqOf slot.val) (s.canonAddr e.2) n = true →
          ∀ x, poisoned (s.cacheRead t.val (seqOf slot.val) (s.canonAddr e.2) n x).1 = false) →
        ∃ s' g' l, exec (.vmemLoad t slot) s = .next s' ∧ s'.grp t.val slot.val = some g' ∧ g'.pc = g.pc + 8 ∧ g'.u = g.u ∧
          g'.p = g.p ∧ (gLu w = 0 → s.regsStay s' t.val slot.val (fun _ _ => false)) ∧ g'.loads = g.loads ++ [l] ∧ l.vd = gVd w ∧ l.size = n ∧ l.mask = g.active ∧
          l.pc = g.pc ∧ l.word = w ∧ (gOp w ≥ 4 → l.vals = [] ∧ l.lanes.map (fun e => e.1) = lanesOf (g.acting w)) ∧
          s.othersStay s' t.val slot.val) ∧
      (2 ≤ gOp w % 4 → s.lanesOk t.val slot.val .W n as (fun _ => true) = none →
        (∀ e ∈ as, s.loadOn t.val slot.val (s.canonAddr e.2 / 256) = false) →
        ∃ s' g', exec (.vmemStore t slot) s = .next s' ∧ s'.grp t.val slot.val = some g' ∧ g'.pc = g.pc + 8 ∧ g'.u = g.u ∧
          g'.p = g.p ∧ (gLu w = 0 → s.regsStay s' t.val slot.val (fun _ _ => false)) ∧ g'.loads = g.loads ∧ s'.mem = s.mem ∧
          s.othersStay s' t.val slot.val ∧
          (∀ l x, lanesOf (g.acting w) = [l] → gOp w < 4 →
            let a := s.canonAddr (g.addr w l)
            cacheable a = true → (s.tge t.val).line (a / 256) = some x →
            ∃ y, (s'.tge t.val).line (a / 256) = some y ∧ y.valid = x.valid ∧
              y.mem = (x.mem.writeMasked (a % 256)
                ((clean (leBytes n (if n = 8 then g.v64 (gVb w) l else (g.v32 (gVb w) l).toNat))).map some)).1 ∧
              (∀ i, y.dirty.testBit i = (x.dirty.testBit i || decide (a % 256 ≤ i ∧ i < a % 256 + n)))))) ∧
    (∀ (op : Nat) (l : GLoad) (rs : List Req), s.grp t.val slot.val = some g → g.loads.find? (fun x => x.op == op) = some l →
      gCls l.word = 2 → l.size = 4 → (l.lanes.map (fun e => e.1)).Nodup → SMap.rising none l.vals = true →
      (∀ e ∈ l.vals, e.1 < 32) → (∀ e ∈ l.lanes, e.1 < 32) → l.reqs.map (fun id => s.findReq id) = rs.map some →
      (∀ r ∈ rs, r.st = .done ∧ r.who = .group t.val slot.val ∧ poisoned r.data = false) →
      ∃ s' g', exec (.groupLoadReturn t slot op) s = .next s' ∧ s'.grp t.val slot.val = some g' ∧ g'.pc = g.pc ∧ g'.u = g.u ∧
        g'.p = g.p ∧ g'.loads = g.loads.filter (fun x => x.op != op) ∧ (∀ id ∈ l.reqs, id < s.nextReq → s'.findReq id = none) ∧ s'.mem = s.mem ∧
        (∀ e ∈ l.lanes, ∀ bs, laneValue s.canonAddr rs e.2 4 = some bs →
          g'.vlive l.vd e.1 = some (BitVec.ofNat 32 (leNat (vals bs)))) ∧
        s.regsStay s' t.val slot.val (fun r _ => r == l.vd))

/-- VATOM, VATOM_RED (R170), FENCE.G, FENCE.T, FENCE.D (R168): results, completion and waiting.
The model's own readings in it: log entries 36, 37. -/
def Obligations.GroupAtomicsAndFences : Prop :=
  (∀ (t : Fin 144) (slot : Fin 64) (s : State) (g : Grp) (w : W64) (u : GUse) (l : Nat) (ok : AccOk),
    s.groupAt t.val slot.val g w u = true → g.active ≠ 0 → gCls w = 3 → lanesOf (g.acting w) = [l] →
    let a := g.addr w l
    let off := addrOffset a
    s.isLocal a = true → regionOf off = some .scratch → (s.tge t.val).line (s.canonAddr a / 256) = none →
    (gOp w < 12 →
      let n := atomSize (gOp w)
      let pl : Place := .bed (scratchPhys s.bed.nb (off - 0x100_0000_0000))
      let b := if n = 8 then g.v64 (gVb w) l else (g.v32 (gVb w) l).toNat
      ∀ bs, a % n = 0 → s.checkAccess t.val (s.tile t.val).ctx .A a n = .ok ok → s.lineBusy t.val (s.canonAddr a / 256) = false →
      s.bankOpen (s.bankOf off) = true → (s.memAt pl).read pl.addr n = (bs, s.memAt pl, []) → poisoned bs = false →
      let s1 := s.bypassAll t.val [(l, s.canonAddr a)]
      (s1.enter (.group t.val slot.val) (s1.clsAt t.val (s.tile t.val).ctx .A (s.canonAddr a) n) (s.canonAddr a) 1).2 = true →
      let old := leNat (vals bs)
      ∃ s' g', exec (.vatom t slot) s = .next s' ∧ s'.grp t.val slot.val = some g' ∧ g'.pc = g.pc + 8 ∧ g'.u = g.u ∧ g'.p = g.p ∧
        g'.vlive (gVd w) l = some (BitVec.ofNat 32 old) ∧ (n = 8 → g'.vlive (gVd w + 1) l = some (BitVec.ofNat 32 (old / 2 ^ 32))) ∧
        (gLu w = 0 → s.regsStay s' t.val slot.val (fun r k => (r == gVd w || (n == 8 && r == gVd w + 1)) && k == l)) ∧
        s'.memAt pl = ((s.memAt pl).writeMasked pl.addr
          ((clean (leBytes n (atomOp (gOp w) old b (g.v32 (gVc w) l).toNat))).map some)).1 ∧
        s'.mem.hbm = s.mem.hbm ∧ s'.mem.stores = s.mem.stores) ∧
    (gOp w = 12 → ∀ os tz ok', redSizes (gVd w) = some (os, tz) → a % tz = 0 →
      s.checkAccess t.val (s.tile t.val).ctx .A a tz = .ok ok →
      s.checkAccess t.val (s.tile t.val).ctx .A (s.canonAddr a) tz = .ok ok' → ok'.region = some .scratch →
      s.findReq s.nextReq = none →
      ∃ s' g' r, exec (.vatomRed t slot) s = .next s' ∧ s'.grp t.val slot.val = some g' ∧ g'.pc = g.pc + 8 ∧ g'.u = g.u ∧
        g'.p = g.p ∧ (gLu w = 0 → s.regsStay s' t.val slot.val (fun _ _ => false)) ∧ s'.mem = s.mem ∧ s'.findReq s.nextReq = some r ∧
        r.kind = .red (gVd w) ∧ r.addr = s.canonAddr a ∧ r.who = .group t.val slot.val ∧
        r.data = (List.range (os / 4)).flatMap (fun i =>
          (leBytes 4 (g.v32 (gVb w + i) l).toNat).map (fun x => (x, g.vPoisoned (gVb w + i) l))))) ∧
  (∀ (t : Fin 144) (slot : Fin 64) (s : State) (g : Grp) (w : W64) (u : GUse),
    s.groupAt t.val slot.val g w u = true → g.active ≠ 0 → gCls w = 4 →
    let excess := g.loads.isEmpty && s.storesDone (fun x => x == .group t.val slot.val)
    (gOp w = 0 → ∃ s' g', exec (.fenceG t slot) s = .next s' ∧ s'.grp t.val slot.val = some g' ∧ s.groupOnly s' t.val slot.val ∧
      (excess = true → g' = { g with pc := g.pc + 8 }) ∧ (excess = false → g' = { g with fence := 1 }) ∧
      (s'.tge t.val).l0 = (s.tge t.val).l0 ∧ (s'.tge t.val).l1 = (s.tge t.val).l1) ∧
    (gOp w = 1 → SMap.rising none (s.tge t.val).l0 = true →
      ∃ s' g', exec (.fenceT t slot) s = .next s' ∧ s'.grp t.val slot.val = some g' ∧ s'.mem = s.mem ∧
      (excess = true → g' = { g with pc := g.pc + 8 } ∧ (s'.tge t.val).l0Of (seqOf slot.val) = []) ∧
      (excess = false → g' = { g with fence := 2 } ∧ (s'.tge t.val).l0 = (s.tge t.val).l0) ∧
      (s'.tge t.val).l1 = (s.tge t.val).l1) ∧
    (gOp w = 2 → SMap.rising none (s.tge t.val).l0 = true → (s.tge t.val).tagsGood = true →
      (∀ e ∈ (s.tge t.val).l1, e.2.dirty = 0) → s.l1Quiet t.val = true →
      ∃ s' g', exec (.fenceD t slot) s = .next s' ∧ s'.grp t.val slot.val = some g' ∧ s'.mem = s.mem ∧
      (excess = true → g' = { g with pc := g.pc + 8 } ∧ (s'.tge t.val).l0Of (seqOf slot.val) = [] ∧ (s'.tge t.val).l1 = []) ∧
      (excess = false → g' = { g with fence := 3 } ∧ (s'.tge t.val).l1 = (s.tge t.val).l1)))

/-- MMA.BF16, MMA.FP8, MMA.INT8, GMX_RESULT_READY (R161–R164): results and completion.
The model's own readings in it: log entry 42. -/
def Obligations.GroupMatrix : Prop :=
  ∀ (t : Fin 144) (s : State),
    (∀ (slot : Fin 64) (g : Grp) (w : W64) (u : GUse), s.groupAt t.val slot.val g w u = true → gCls w = 8 → g.active ≠ 0 →
      (g.active = 0xFFFF_FFFF ∨ ∃ k, (s.tge t.val).kern = some k ∧ k.kl.maskedZero = true) →
      let q := SMap.get [] (s.tge t.val).gmx (seqOf slot.val)
      q.length < 2 →
      ∃ s' g' o,
        (match gOp w with
          | 0 => exec (.mmaBf16 t slot) s
          | 1 => exec (.mmaFp8 t slot) s
          | _ => exec (.mmaInt8 t slot) s) = .next s' ∧
        s'.grp t.val slot.val = some g' ∧ g'.pc = g.pc + 8 ∧ g'.u = g.u ∧ g'.p = g.p ∧ (gLu w = 0 → s.regsStay s' t.val slot.val (fun _ _ => false)) ∧
        g'.busyV = g.busyV ++ [(gVd w, 8)] ∧ s.groupOnly s' t.val slot.val ∧
        SMap.get [] (s'.tge t.val).gmx (seqOf slot.val) = q ++ [o] ∧ o.slot = slot.val ∧ o.vd = gVd w ∧
        (∀ r c, r < 16 → c < 16 → g.active.testBit (2 * r + c / 8) = true →
          SMap.find o.res ((gVd w + c % 8) * 32 + (2 * r + c / 8)) = some
            (gmxElem (gOp w) (gImm w) (fun x l => (g.v32 x l).toNat) g.active (gVa w) (gVb w) (gVc w) r c).1) ∧
        (∀ r c, r < 16 → c < 16 → g.active.testBit (2 * r + c / 8) = false →
          SMap.find o.res ((gVd w + c % 8) * 32 + (2 * r + c / 8)) = none)) ∧
    (∀ (q : Fin 8) (o : GmxOp) (rest : List GmxOp) (g : Grp), SMap.get [] (s.tge t.val).gmx q.val = o :: rest → o.slot < 64 →
      s.grp t.val o.slot = some g → SMap.rising none o.res = true →
      ∃ s' g', exec (.gmxResultReady t q) s = .next s' ∧ SMap.get [] (s'.tge t.val).gmx q.val = rest ∧
        s'.grp t.val o.slot = some g' ∧ g'.pc = g.pc ∧ g'.u = g.u ∧ g'.p = g.p ∧ g'.busyV = g.busyV.filter (fun b => b.1 != o.vd) ∧
        (∀ r l v, l < 32 → SMap.find o.res (vKey r l) = some v → g'.vlive r l = some v) ∧
        s.regsStay s' t.val o.slot (fun r l => (SMap.find o.res (vKey r l)).isSome) ∧
        s.othersStay s' t.val o.slot ∧ (∀ v, v ≠ t.val → s'.tile v = s.tile v) ∧ s'.mem = s.mem)

/-- CTR_RD, CTR_INC, CTR_WAIT of a core (R203, R208, R211, R215): results and completion.
The model's own readings in it: log entries 25, 48, 51. -/
def Obligations.SyncCounters : Prop :=
  ∀ (t : Fin 144) (s : State) (w : W32) (n : Nat),
    let v := (s.core t.val).reg (insRb w)
    (s.coreOpAt t.val opCtrRd w n = true →
      ∃ s', exec (.ctrRd (.core t)) s = .next s' ∧ s.coreAnswered s' t.val w (s.ctr n) ∧ s'.reqs = s.reqs ∧
        { s'.sync with nextOp := s.sync.nextOp } = s.sync ∧ ∀ u, u ≠ t.val → s'.tile u = s.tile u) ∧
    (s.coreOpAt t.val opCtrInc w n = true →
      (s.attr .ctr n = 0 → s.ctr n + fld v 0 32 < 2 ^ 64 →
        ∃ s', exec (.ctrInc (.core t)) s = .next s' ∧ s.coreAnswered s' t.val w SYN_OK ∧ s'.ctr n = s.ctr n + fld v 0 32 ∧
          (∀ k, k ≠ n → s'.ctr k = s.ctr k) ∧ s'.sync.lock = s.sync.lock ∧ s'.sync.evt = s.sync.evt ∧ s'.sync.chan = s.sync.chan ∧
          s'.sync.waits = s.sync.waits.filter (fun x => !(x.on .ctr n &&
            (match x.want with | .value g => decide (g.toNat ≤ s.ctr n + fld v 0 32) | _ => false)))) ∧
      (s.attr .ctr n = 0 → 2 ^ 64 ≤ s.ctr n + fld v 0 32 →
        ∃ s', exec (.ctrInc (.core t)) s = .next s' ∧ s.coreAnswered s' t.val w CTR_OVERFLOW ∧
          { s'.sync with nextOp := s.sync.nextOp } = s.sync) ∧
      (atRole (s.attr .ctr n) = true → (bitOf v 48 = true → fld v 32 16 ≠ (s.tile (atTile (s.attr .ctr n))).epoch) →
        ∃ s', exec (.ctrInc (.core t)) s = .next s' ∧ s.coreAnswered s' t.val w STALE_TARGET ∧
          { s'.sync with nextOp := s.sync.nextOp } = s.sync ∧ s'.rel.queue = s.rel.queue)) ∧
    (s.coreOpAt t.val opCtrWait w n = true →
      (v.toNat ≤ s.ctr n → ∃ s', exec (.ctrWait (.core t)) s = .next s' ∧ s.coreAnswered s' t.val w SYN_OK ∧
        { s'.sync with nextOp := s.sync.nextOp } = s.sync) ∧
      (s.ctr n < v.toNat → ∃ s', exec (.ctrWait (.core t)) s = .next s' ∧ s.coreQueued s' t.val .ctr n (.value v)))

/-- LOCK_ACQ, LOCK_TRY, LOCK_REL of a core (R217, R219): results and completion.
The model's own readings in it: log entries 25, 49, 50. -/
def Obligations.SyncLocks : Prop :=
  ∀ (t : Fin 144) (s : State) (w : W32) (n : Nat) (late : Bool),
    let me : Who × Nat := (.core t.val, 0)
    (s.coreOpAt t.val opLockAcq w n = true →
      ((s.lockOf n).owner = none → ∃ s', exec (.lockAcq (.core t) late) s = .next s' ∧
        s.coreAnswered s' t.val w (if (s.lockOf n).abandoned then ABANDONED else SYN_OK) ∧
        s'.lockOf n = { owner := some me, abandoned := false, selfGroup := false } ∧ (∀ k, k ≠ n → s'.lockOf k = s.lockOf k) ∧
        s'.sync.waits = s.sync.waits) ∧
      ((s.lockOf n).owner = some me → ∃ s', exec (.lockAcq (.core t) late) s = .next s' ∧
        s.coreAnswered s' t.val w LOCK_HELD_SELF ∧ { s'.sync with nextOp := s.sync.nextOp } = s.sync) ∧
      (∀ u k, (s.lockOf n).owner = some (u, k) → u ≠ .core t.val → ∃ s', exec (.lockAcq (.core t) late) s = .next s' ∧
        s.coreQueued s' t.val .lock n .acquire)) ∧
    (s.coreOpAt t.val opLockTry w n = true →
      ((s.lockOf n).owner = none → ∃ s', exec (.lockTry (.core t)) s = .next s' ∧
        s.coreAnswered s' t.val w (if (s.lockOf n).abandoned then ABANDONED else SYN_OK) ∧
        s'.lockOf n = { owner := some me, abandoned := false, selfGroup := false } ∧ (∀ k, k ≠ n → s'.lockOf k = s.lockOf k)) ∧
      (∀ o, (s.lockOf n).owner = some o → ∃ s', exec (.lockTry (.core t)) s = .next s' ∧
        s.coreAnswered s' t.val w (if o = me then LOCK_HELD_SELF else LOCK_BUSY) ∧
        { s'.sync with nextOp := s.sync.nextOp } = s.sync)) ∧
    (s.coreOpAt t.val opLockRel w n = true →
      ((s.lockOf n).owner = some me → (∀ x ∈ s.sync.waits, x.on .lock n = false) →
        ∃ s', exec (.lockRel (.core t)) s = .next s' ∧ s.coreAnswered s' t.val w SYN_OK ∧
          s'.lockOf n = { owner := none, abandoned := false, selfGroup := false } ∧ ∀ k, k ≠ n → s'.lockOf k = s.lockOf k) ∧
      (∀ x, (s.lockOf n).owner = some me → s.sync.waits.find? (fun x => x.on .lock n) = some x →
        ∃ s', exec (.lockRel (.core t)) s = .next s' ∧ s.coreAnswered s' t.val w SYN_OK ∧
          (s'.lockOf n).owner = some (x.who, x.lane) ∧ (s'.lockOf n).abandoned = false ∧ ∀ k, k ≠ n → s'.lockOf k = s.lockOf k) ∧
      ((s.lockOf n).owner ≠ some me → ∃ s', exec (.lockRel (.core t)) s = .next s' ∧ s.coreAnswered s' t.val w LOCK_NOT_OWNER ∧
        { s'.sync with nextOp := s.sync.nextOp } = s.sync))

/-- EVT_SET, EVT_CLR, EVT_WAIT of a core (R220): results and completion.
The model's own readings in it: log entries 25, 49. -/
def Obligations.SyncEvents : Prop :=
  ∀ (t : Fin 144) (s : State) (w : W32) (n : Nat),
    let others (s' : State) : Prop := s'.sync.ctr = s.sync.ctr ∧ s'.sync.lock = s.sync.lock ∧ s'.sync.chan = s.sync.chan ∧
      ∀ k, k ≠ n → s'.evtSet k = s.evtSet k
    (s.coreOpAt t.val opEvtSet w n = true →
      (s.evtSet n = true → ∃ s', exec (.evtSet (.core t)) s = .next s' ∧ s.coreAnswered s' t.val w SYN_OK ∧ others s' ∧
        s'.evtSet n = true ∧ s'.sync.waits = s.sync.waits) ∧
      (s.evtSet n = false → atAuto (s.attr .evt n) = false → ∃ s', exec (.evtSet (.core t)) s = .next s' ∧
        s.coreAnswered s' t.val w SYN_OK ∧ others s' ∧ s'.evtSet n = true ∧
        s'.sync.waits = s.sync.waits.filter (fun x => !x.on .evt n)) ∧
      (s.evtSet n = false → atAuto (s.attr .evt n) = true → ∃ s', exec (.evtSet (.core t)) s = .next s' ∧
        s.coreAnswered s' t.val w SYN_OK ∧ others s' ∧
        (match s.sync.waits.find? (fun x => x.on .evt n) with
          | some x => s'.evtSet n = false ∧ s'.sync.waits = s.sync.waits.erase x
          | none => s'.evtSet n = true ∧ s'.sync.waits = s.sync.waits))) ∧
    (s.coreOpAt t.val opEvtClr w n = true → ∃ s', exec (.evtClr (.core t)) s = .next s' ∧ s.coreAnswered s' t.val w SYN_OK ∧
      others s' ∧ s'.evtSet n = false ∧ s'.sync.waits = s.sync.waits) ∧
    (s.coreOpAt t.val opEvtWait w n = true →
      (s.evtSet n = true → ∃ s', exec (.evtWait (.core t)) s = .next s' ∧ s.coreAnswered s' t.val w SYN_OK ∧ others s' ∧
        s'.evtSet n = !atAuto (s.attr .evt n) ∧ s'.sync.waits = s.sync.waits) ∧
      (s.evtSet n = false → ∃ s', exec (.evtWait (.core t)) s = .next s' ∧ s.coreQueued s' t.val .evt n .event))

/-- BAR_JOIN, BAR_LEAVE, BAR_ARRIVE, BAR_WAIT, BAR_SYNC of a core (R221–R223): results and completion.
The model's own readings in it: log entries 25, 49. -/
def Obligations.SyncBarriers : Prop :=
  ∀ (t : Fin 144) (s : State) (w : W32) (n : Nat),
    let c := s.chanOf n
    let me : Who := .core t.val
    (s.coreOpAt t.val opBarJoin w n = true → t.val ∉ c.members →
      ∃ s', exec (.barJoin t) s = .next s' ∧
        (c.members.length < c.expect → s.coreAnswered s' t.val w SYN_OK ∧ s'.chanOf n = { c with members := c.members ++ [t.val] }) ∧
        (c.expect ≤ c.members.length → s.coreAnswered s' t.val w BAR_FULL ∧ s'.chanOf n = c)) ∧
    (s.coreOpAt t.val opBarLeave w n = true → t.val ∈ c.members →
      ∃ s', exec (.barLeave t) s = .next s' ∧ s.coreAnswered s' t.val w SYN_OK ∧ t.val ∉ (s'.chanOf n).members ∧
        (∀ u, u ≠ t.val → (u ∈ (s'.chanOf n).members ↔ u ∈ c.members)) ∧ (s'.chanOf n).round = c.round ∧
        (SMap.rising none c.arrived = true → (s'.chanOf n).count t.val = 0)) ∧
    (t.val ∈ c.members → (∀ e ∈ c.last, e.1 ≠ me) → c.count t.val < c.localN → (s.ybar n).valid = false →
      (∀ x ∈ s.sync.waits, x.on .chan n = false) →
      let x : Chan := { c with arrived := SMap.put c.arrived t.val (c.count t.val + 1), last := c.last ++ [(me, c.round)] }
      let after : Chan := { c with round := (c.round + 1) % 2 ^ 32, sense := !c.sense, arrived := [], last := [] }
      let full : Bool := c.expect != 0 && x.complete
      (s.coreOpAt t.val opBarArrive w n = true → ∃ s', exec (.barArrive (.core t)) s = .next s' ∧
        s.coreAnswered s' t.val w SYN_OK ∧ s'.chanOf n = if full then after else x) ∧
      (s.coreOpAt t.val opBarSync w n = true → ∃ s', exec (.barSync (.core t)) s = .next s' ∧
        (full = true → s.coreAnswered s' t.val w SYN_OK ∧ s'.chanOf n = after) ∧
        (full = false → s'.chanOf n = x ∧ (s'.core t.val).st = 3 ∧ (∃ y ∈ s'.sync.waits, y.who = me ∧ y.want = .round) ∧ s'.mem = s.mem))) ∧
    (s.coreOpAt t.val opBarWait w n = true → t.val ∈ c.members →
      ((∀ e ∈ c.last, e.1 ≠ me) → ∃ s', exec (.barWait (.core t)) s = .next s' ∧ s.coreAnswered s' t.val w SYN_OK ∧ s'.chanOf n = c) ∧
      ((me, c.round) ∈ c.last → ∃ s', exec (.barWait (.core t)) s = .next s' ∧ s.coreQueued s' t.val .chan n .round)) ∧
    (t.val ∉ c.members → ∀ p ∈ [(opBarArrive, Instr.barArrive (.core t)), (opBarWait, Instr.barWait (.core t)),
        (opBarSync, Instr.barSync (.core t))], s.coreOpAt t.val p.1 w n = true →
      ∃ s', exec p.2 s = .next s' ∧ s.coreAnswered s' t.val w BAR_NOT_JOINED ∧ s'.chanOf n = c)

/-- The operations of a group on objects (R203, R205, R206): completion.
The model's own readings in it: log entries 37, 40. -/
def Obligations.SyncGroupOperations : Prop :=
  ∀ (t : Fin 144) (slot : Fin 64) (s : State) (g : Grp) (w : W64) (u : GUse) (late : Bool),
    s.groupAt t.val slot.val g w u = true → g.active ≠ 0 → gCls w = 4 →
    let me : SUnit := .group t slot
    ∀ p ∈ [(opCtrRd, Instr.ctrRd me, false), (opCtrInc, Instr.ctrInc me, false), (opCtrWait, Instr.ctrWait me, false),
        (opLockAcq, Instr.lockAcq me late, late), (opLockTry, Instr.lockTry me, false), (opLockRel, Instr.lockRel me, false),
        (opEvtSet, Instr.evtSet me, false), (opEvtClr, Instr.evtClr me, false), (opEvtWait, Instr.evtWait me, false),
        (opBarArrive, Instr.barArrive me, false), (opBarWait, Instr.barWait me, false), (opBarSync, Instr.barSync me, false)],
      gOp w = p.1.func → s.groupSyncCheck p.1 t.val slot.val g w (g.acting w) = none →
      (g.acting w = 0 → ∃ s' g', exec p.2.1 s = .next s' ∧ s'.grp t.val slot.val = some g' ∧ g'.pc = g.pc + 8 ∧ g'.u = g.u ∧
        g'.p = g.p ∧ s.groupOnly s' t.val slot.val) ∧
      (∀ s1, g.acting w ≠ 0 → g.loads = [] → s.storesDone (fun x => x == .group t.val slot.val) = true → s.l1Quiet t.val = true →
        (s.tge t.val).l1 = [] →
        s.enterAll (((p.1.laneAddrs g w (g.acting w)).filter (fun e => s.isLocal e.2)).map (fun e =>
          (Who.group t.val slot.val, s.clsAt t.val (s.tile t.val).ctx p.1.right e.2 8, e.2, 1))) = (s1, true) →
        let s' := (((s1.groupIssue t.val slot.val u w (g.acting w)).groupSyncSend p.1 t.val slot.val g w (g.acting w) p.2.2).settleTurn
          t.val slot.val)
        exec p.2.1 s = .next s' ∧ s'.mem = s.mem ∧
          ∃ g', s'.grp t.val slot.val = some g' ∧ g'.pc = g.pc + 8 ∧ g'.u = g.u ∧ g'.p = g.p)

/-- SYN_TIMEOUT, the writes to the synchronisation window (R200, R201, R208, R209, R212, R213, R217, R224) and the hand-sets (R227,
R228): completion, and what they refuse.
The model's own readings in it: log entries 7, 49. -/
def Obligations.SyncWindowAndHandSets : Prop :=
  ((∀ (t : Fin 144) (s : State) (i rd : Nat) (b : Bool) (x : SWait), s.sync.waits[i]? = some x → x.who = .core t.val →
    (s.core t.val).wait = some (.sync rd b) → (s.core t.val).st = 3 → (s.dbg t.val).state = 0 → isInc x.want = false →
    (∀ y ∈ s.sync.waits, y.held = false) → s.rel.queue.length < 960 →
    ∃ s', exec (.synTimeout i) s = .next s' ∧ (s'.core t.val).st = 1 ∧ (s'.core t.val).pc = (s.core t.val).pc + 4 ∧
      (∀ k, (s'.core t.val).reg k = if k = rd ∧ k ≠ 0 then 1 else (s.core t.val).reg k) ∧
      s'.sync = { s.sync with waits := s.sync.waits.erase x } ∧ s.tookRecord s' 0x04 SYN_TIMEOUT 0 ∧ s'.mem = s.mem ∧
      ∀ u, u ≠ t.val → s'.tile u = s.tile u) ∧
  (∀ (s s1 : State) (w : Wr) (x : WrIn), s.wrAt w s1 x → (∀ y ∈ s.sync.waits, y.held = false) →
    (∀ n, n < 65536 → x.off = 0x102_0100_0000 + 16 * n → x.full = true → (incWord x.data).bad = false → s.attr .ctr n = 0 →
      s.ctr n + (incWord x.data).val < 2 ^ 64 →
      ∃ s', exec (.incrementAliasWrite w) s = .next s' ∧ s'.ctr n = s.ctr n + (incWord x.data).val ∧
        (∀ k, k ≠ n → s'.ctr k = s.ctr k) ∧ s'.mem = s.mem ∧
        s'.sync.waits = s.sync.waits.filter (fun y => !(y.on .ctr n &&
          (match y.want with | .value g => decide (g.toNat ≤ s.ctr n + (incWord x.data).val) | _ => false)))) ∧
    (∀ n b, n < 65536 → b < 8 → x.off = 0x102_0000_0000 + 16 * n + b →
      (s.hasWaits .ctr n = false → s.attr .ctr n = 0 → ∃ s', exec (.synCtrWrite w) s = .next s' ∧
        s'.ctr n = (x.merge (BitVec.ofNat 64 (s.ctr n))).toNat ∧ (∀ k, k ≠ n → s'.ctr k = s.ctr k) ∧ s'.mem = s.mem ∧
        s'.sync.waits = s.sync.waits) ∧
      (s.hasWaits .ctr n = true → s.rel.queue.length < 960 → ∃ s', exec (.synCtrWrite w) s = .next s' ∧ s'.sync = s.sync ∧
        s1.tookRecord s' 0x04 SYN_WAITERS 0)) ∧
    (∀ n b, n < 65536 → b < 8 → x.off = 0x102_0000_0000 + 16 * n + 8 + b → s.hasWaits .ctr n = false →
      let v := x.merge (s.attr .ctr n)
      s.attrBad .ctr n v = false → atPair (s.attr .ctr n) = false →
      ∃ s', exec (.synAttrWrite w) s = .next s' ∧ s'.ctr n = 0 ∧ s'.attr .ctr n = v &&& 0x87FF_B8FF_FFFF_FFFF ∧ s'.mem = s.mem ∧
        (atPair v = true → let q := atPartner v
          s'.ctr q = 0 ∧ atConsumer (s'.attr .ctr q) = true ∧ atPartner (s'.attr .ctr q) = n)) ∧
    (∀ n b, b < 8 → (n < 8192 ∧ x.off = 0x102_0200_0000 + 16 * n + b) ∨ (n < 4096 ∧ x.off = 0x102_0300_0000 + 16 * n + b) →
      s.rel.queue.length < 960 →
      ∃ s', exec (.synPlainWrite w) s = .next s' ∧ s'.sync = s.sync ∧ s'.mem = s.mem ∧ s1.tookRecord s' 0x04 SYN_PLAIN_WRITE 0) ∧
    (∀ n b, n < 32 → b < 8 → x.off = 0x102_0400_0000 + 64 * n + b →
      let v := x.merge (s.chanOf n).cfg &&& 0x87FF_0000_0000_7FFF
      ((s.chanOf n).members = [] → (s.ybar n).valid = false → fld v 48 8 < 16 → 1 ≤ fld v 8 7 → fld v 8 7 ≤ 65 → fld v 0 8 ≤ 144 →
        ∃ s', exec (.synBarCfgWrite w) s = .next s' ∧ s'.chanOf n = { s.chanOf n with cfg := v } ∧
          (∀ k, k ≠ n → s'.chanOf k = s.chanOf k) ∧ s'.mem = s.mem) ∧
      ((s.chanOf n).members ≠ [] → s.rel.queue.length < 960 → ∃ s', exec (.synBarCfgWrite w) s = .next s' ∧ s'.sync = s.sync ∧
        s1.tookRecord s' 0x04 SYN_ATTR_BAD 0)) ∧
    (∀ t b, t < 144 → b < 8 → x.off = 0x103_0000_0000 + t * 0x1_0000 + 0x110 + b →
      let v := fld (x.merge (BitVec.ofNat 64 (s.core t).timeout)) 0 32
      (1 ≤ v → v ≤ 60000000 → exec (.synTimeoutWrite w) s = .next (s1.updCore t (fun c => { c with timeout := v }))) ∧
      (v = 0 ∨ 60000000 < v → s.rel.queue.length < 960 → ∃ s', exec (.synTimeoutWrite w) s = .next s' ∧
        s1.tookRecord s' 0x04 SYN_TIMEOUT_RANGE 0 ∧ s'.tiles = s1.tiles)))) ∧
  (∀ (s s1 : State) (w : Wr) (x : WrIn), s.wrAt w s1 x → x.off / 8 = 0x102_0500_0010 / 8 →
    let c := fld (x.value &&& x.mask) 0 4
    (∀ (k : ObjKind) (n : Nat), objOfId s.sync.handObj = some (k, n) →
      let logged (s2 : State) : State := ((s2.odInc 0x2C00 5).report (s2.mkRec 0x04 0x18 0 0 noUnit (objId k n) (x.who.waiter 0) 0 none
        (detField 38 8 (s1.objWord k n).toNat ||| detField 46 8 (s2.objWord k n).toNat ||| detByte 54 c))).syncSettle
      (c = 1 → k = .ctr → exec (.handsetCtrSet w) s = .next (logged (((s1.setCtr n s.sync.handVal.toNat).wakeReached n).freeHeld n))) ∧
      (c = 2 → k = .lock → exec (.handsetLockFree w) s = .next (logged (s1.passLock n FORCED false))) ∧
      (c = 3 → k = .evt → exec (.handsetEvtSet w) s = .next (logged (s1.signalEvt n FORCED))) ∧
      (c = 4 → k = .evt → exec (.handsetEvtClr w) s = .next (logged (s1.setEvt n false))) ∧
      (c = 5 → k = .chan → exec (.handsetBarRelease w) s = .next (logged ((s1.releaseRound n FORCED).barCheck n))) ∧
      (c = 6 → exec (.handsetWake w) s = .next (logged (s1.endWaits (fun y => y.on k n) FORCED))) ∧
      (c = 7 → exec (.handsetClear w) s = .next (logged (if k = .ctr then (s1.clearObj k n).freeHeld n else s1.clearObj k n)))) ∧
    (s.rel.queue.length < 960 →
      (c = 1 ∧ ∀ n, objOfId s.sync.handObj ≠ some (.ctr, n)) → ∃ s', exec (.handsetCtrSet w) s = .next s' ∧
        s1.tookRecord s' 0x04 SYN_HANDSET_BAD 0 ∧ { s' with rel := s1.rel, od := s1.od } = s1) ∧
    (∀ (s2 : State) (k n : Nat), s2.attr .ctr n = 0 → (∀ y ∈ s2.sync.waits, y.held = false) →
      ((((s2.setCtr n k).wakeReached n).freeHeld n).ctr n = k % 2 ^ 64)))

/-- TASK_FETCH, TASK_DESCRIPTOR_READ, TD_WAIT_TIMEOUT, SUBMIT_REARM (R177–R186): completion.
The model's own readings in it: log entries 3, 46. -/
def Obligations.TaskFetchAndChecks : Prop :=
  ∀ (p : Fin 8) (s : State),
    (∀ ok, s.sched.running = true → (s.part p.val).fetch < s.ctr (s.submitCtr p.val) →
      (s.sched.tasks.filter (fun k => k.part == p.val && (decide (k.st = .fetching) || decide (k.st = .window)))).length < 16 →
      s.findReq s.nextReq = none →
      let slot := fld (s.odGet (0x2B00 + p.val) 1) 0 44 + (s.part p.val).fetch % s.odNat (0x2B00 + p.val) 2 * 128
      s.checkAccess 0x098 0 .R (s.globalOf slot).toNat 128 = .ok ok → ok.region = some .hbm →
      ∃ s' r, exec (.taskFetch p) s = .next s' ∧ (s'.part p.val).fetch = (s.part p.val).fetch + 1 ∧
        s'.sched.tasks = s.sched.tasks ++ [
          { part := p.val, seq := (s.part p.val).fetch, slot := slot, words := [], st := .fetching, ctx := 0, tiles := [],
            complete := [], quiet := [], abort := none }] ∧
        s'.findReq s.nextReq = some r ∧ r.kind = .load ∧ r.len = 128 ∧ r.addr = (s.globalOf slot).toNat ∧ r.who = .devSched ∧
        s'.tiles = s.tiles ∧ s'.mem = s.mem ∧ s'.sync = s.sync) ∧
    (∀ k r, s.sched.tasks.find? (fun k => k.part == p.val && decide (k.st = .fetching)) = some k →
      s.reqs.find? (fun r => r.who == .devSched && r.kind == .load && r.op == taskOp p.val k.seq) = some r → r.st = .done →
      poisoned r.data = false →
      let ws := wordsOf r.data 16
      let k' : Task := { k with words := ws, ctx := tdContext ws }
      ((s.dropReq r.id).tdCheck p.val ws = none →
        exec (.taskDescriptorRead p) s = .next ((s.dropReq r.id).updTask p.val k.seq (fun _ => { k' with st := .window }))) ∧
      (∀ c, (s.dropReq r.id).tdCheck p.val ws = some c →
        exec (.taskDescriptorRead p) s = .next ((s.dropReq r.id).refuseTask k' c))) ∧
    (∀ seq k, s.taskOf p.val seq = some k → k.st = .window → (s.endBadly k 6 0x10).rel.queue.length < 960 →
      ∃ s', exec (.tdWaitTimeout p seq) s = .next s' ∧ (s.endBadly k 6 0x10).tookRecord s' 0x05 0x30 1 ∧
        { s' with rel := s.rel } = { s.endBadly k 6 0x10 with rel := s.rel }) ∧
    (∀ k st code, (s.endBadly k st code).taskOf k.part k.seq = none) ∧
    exec (.submitRearm p) s = .next (s.setPart p.val { s.part p.val with armed := true })

/-- TASK_PLACE, TILE_COMPLETE, TD_INC_APPLY (R118, R122, R182–R187): completion.
The model's own readings in it: log entries 16, 43, 45. -/
def Obligations.TaskPlacementAndCompletion : Prop :=
  (∀ (p : Fin 8) (s : State) (k : Task) (ts : List Nat), (s.part p.val).state = 0 → s.sched.running = true → s.pwr.standby = false →
    s.pwr.changing = false → s.sched.tasks.find? (fun k => k.part == p.val && decide (k.st = .window) && s.eligible k) = some k →
    (s.part p.val).ctx = k.ctx ∨ s.partBusy p.val = false → s.choose128 p.val k.words = some ts →
    (∀ t ∈ ts, (s.region (sectorOf t)).state = 3 ∧ (s.region (8 + sectorOf t)).state = 3) →
    let order := s.byLogical ts
    let s1 := (order.foldl (fun s t => s.startTile k order t) (s.switchCtx p.val k.ctx)).trace srcSched 0x08 0 (some k.ctx) (leBytes 8 k.seq)
    exec (.taskPlace p) s = .next ((s1.updTask p.val k.seq (fun k => { k with st := .placed, tiles := order })).syncSettle)) ∧
  (∀ (s : State) (k : Task) (order : List Nat) (t i : Nat), order[i]? = some t → (∀ j < i, order[j]? ≠ some t) →
    let s' := s.startTile k order t
    (s'.core t).pc = k.words.getD 1 0 ∧ (s'.core t).st = 1 ∧ (s'.core t).reg 1 = k.words.getD 2 0 ∧
    (s'.core t).reg 2 = k.words.getD 3 0 ∧ (s'.core t).reg 3 = BitVec.ofNat 64 i ∧
    (s'.core t).reg 4 = ((k.words.getD 0 0).extractLsb' 40 8).setWidth 64 ∧ (s'.core t).reg 5 = BitVec.ofNat 64 k.seq ∧
    (s'.core t).reg 6 = BitVec.ofNat 64 k.part ∧ (∀ r, 7 ≤ r → (s'.core t).reg r = 0) ∧ (s'.core t).icache = [] ∧
    (s'.tile t).task = some (k.part, k.seq) ∧ (s'.tile t).ctx = k.ctx ∧ (s'.tile t).sb = [] ∧
    (∀ u, u ≠ t → s'.tile u = s.tile u) ∧ s'.reqs = s.reqs.filter (fun r => !(r.direct && r.who.tile == some t)) ∧
    { s' with tiles := s.tiles, reqs := s.reqs } = s) ∧
  (∀ (t : Fin 144) (s : State) (p n : Nat) (k : Task), (s.tile t.val).task = some (p, n) → s.taskOf p n = some k →
    (s.core t.val).ended = true → (s.tile t.val).queuesEmpty = true → (s.tile t.val).sb = [] → s.tileReqs t.val = false →
    k.abort = none → k.st = .placed → t.val ∉ k.complete →
    let k' : Task := { k with complete := k.complete ++ [t.val] }
    (k.complete.length + 1 < k.tiles.length → exec (.tileComplete t) s = .next (s.updTask p n (fun _ => k'))) ∧
    (k.tiles.length ≤ k.complete.length + 1 →
      let s1 := (s.updTask p n (fun _ => k')).updTask p n (fun k => { k with st := .done })
      let s2 := k.tiles.foldl (fun s u => s.taskLeaves u true) s1
      exec (.tileComplete t) s = .next ((((s2.writeStatus k' 5 0).odInc (0x2B00 + p) 8).settlePart p).syncSettle))) ∧
  (∀ (p : Fin 8) (s : State) (seq : Nat) (k : Task), s.taskOf p.val seq = some k → k.st = .done →
    (∀ r ∈ s.reqs, r.who = .devSched → r.op ≠ taskOp p.val seq) →
    exec (.tdIncApply p seq) s = .next
      (((((s.applyInc k (k.words.getD 11 0)).applyInc k (k.words.getD 12 0)).applyInc k (k.words.getD 13 0)).finalise p.val seq).syncSettle)) ∧
  (∀ (s : State) (k : Task) (w : W64) (n : Nat), w.getLsbD 63 = true → s.isLocal (fld w 48 12 * 2 ^ 44) = true → n = fld w 32 16 →
    s.attr .ctr n = 0 → s.ctr n + fld w 0 32 < 2 ^ 64 →
    (s.applyInc k w).ctr n = s.ctr n + fld w 0 32 ∧ (∀ m, m ≠ n → (s.applyInc k w).ctr m = s.ctr m) ∧ (s.applyInc k w).mem = s.mem)

/-- TILE_ABORT and TILE_QUIET (R138, R186, R189): completion.
The model's own readings in it: log entry 45. -/
def Obligations.TileAbortAndQuiet : Prop :=
  ∀ (t : Fin 144) (s : State) (p n : Nat) (k : Task), (s.tile t.val).task = some (p, n) → s.taskOf p n = some k →
    ((s.tile t.val).aborting = false → k.abort ≠ none → (s.dbg t.val).state = 0 →
      ∃ s', exec (.tileAbort t) s = .next s' ∧ (s'.tile t.val).aborting = true ∧ (s'.tile t.val).movers = [] ∧
        (s'.tge t.val).slots = [] ∧ (s'.tge t.val).kern = none ∧ (s'.tge t.val).kq = [] ∧ (s'.tge t.val).l0 = [] ∧
        (s'.tge t.val).l1 = [] ∧ (s'.core t.val).st = (if (s.core t.val).st = 5 then 5 else 0) ∧
        (s'.core t.val).faultPc = (s.core t.val).faultPc ∧ (∀ y ∈ s'.sync.waits, y.who.tile ≠ some t.val) ∧
        (s'.arr t.val).passes.length ≤ (s.arr t.val).passes.length ∧ s'.mem = s.mem) ∧
    ((s.tile t.val).aborting = true → (s.arr t.val).passes = [] → (∀ r ∈ s.reqs, r.who.tile ≠ some t.val) →
      s.tileRops t.val = false → t.val ∉ k.quiet →
      let k' : Task := { k with quiet := k.quiet ++ [t.val] }
      let s1 := (s.updTile t.val (fun x => { x with sb := [] })).updTask p n (fun _ => k')
      (k.quiet.length + 1 < k.tiles.length → exec (.tileQuiet t) s = .next s1) ∧
      (k.tiles.length ≤ k.quiet.length + 1 → exec (.tileQuiet t) s = .next
        ((k.tiles.foldl (fun s u => s.taskLeaves u false) s1).endBadly k' 6 (k.abort.getD 0x11))))

/-- PAUSE, RESUME, PREEMPT, SECTOR_PARTITION_MAP_WRITE, TASK_LIST_WRITE (R191–R202): completion.
The model's own readings in it: log entry 87. -/
def Obligations.PartitionCommands : Prop :=
  ∀ (s s1 : State) (via : OdVia) (who : Who) (p : Fin 8),
    (s.mirrorAt via (0x2B00 + p.val) 7 1 s1 who →
      ∃ s2 : State, exec (.pause via p) s = .next (s2.mirrorDone who (0x2B00 + p.val) 7) ∧ s2.mem = s.mem ∧
        ((s.part p.val).state = 0 → (s2.part p.val).state = if s.partBusy p.val then 1 else 2) ∧
        (∀ q, q ≠ p.val → s2.part q = s.part q)) ∧
    (s.mirrorAt via (0x2B00 + p.val) 7 2 s1 who →
      exec (.resume via p) s = .next ((s1.setPart p.val { s.part p.val with state := 0 }).mirrorDone who (0x2B00 + p.val) 7)) ∧
    (s.mirrorAt via (0x2B00 + p.val) 7 3 s1 who →
      ∃ s2 : State, exec (.preempt via p) s = .next (s2.mirrorDone who (0x2B00 + p.val) 7) ∧ s2.mem = s.mem ∧
        ((s.part p.val).state = 0 → s.partBusy p.val = true → (s2.part p.val).state = 1) ∧
        (∀ k ∈ s.sched.tasks, k.part = p.val → k.st = .placed → k.abort = none →
          (∀ j ∈ s.sched.tasks, j.part = k.part → j.seq = k.seq → j = k) →
          ∃ j ∈ s2.sched.tasks, j = { k with abort := some 0x12 })) ∧
    (∀ v, s.mirrorAt via 0x2B20 1 v s1 who →
      exec (.sectorPartitionMapWrite via v) s = .next ((s1.odSet 0x2B20 1 v).mirrorDone who 0x2B20 1)) ∧
    (∀ (sub : Fin 4) v, s.mirrorAt via (0x2B00 + p.val) (sub.val + 1) v s1 who →
      ∃ s2 : State, exec (.taskListWrite via p sub v) s = .next (s2.mirrorDone who (0x2B00 + p.val) (sub.val + 1)) ∧
        s2.odGet (0x2B00 + p.val) (sub.val + 1) = v ∧ (s2.part p.val).fetch = 0 ∧ (s2.part p.val).rel = 0 ∧
        (s2.part p.val).finals = [] ∧ (∀ k ∈ s2.sched.tasks, k.part = p.val → k.st = .placed))

/-- ACT_ENTRY_BASE_LIMIT_WRITE, ACT_ENTRY_CTRL_WRITE, ACT_SYNC_WRITE, ACT_SYNC_READ, ACT_SYNC_RETURN (R49–R51): completion.
The model's own readings in it: log entries 7, 12. -/
def Obligations.AccessTableCommands : Prop :=
  (∀ (s s1 : State) (w : Wr) (x : WrIn) (k n b : Nat), s.wrAt w s1 x → k < 20 → n < 256 → b < 8 →
    let off := 0x103_0700_0000 + k * 0x1_0000 + n * 0x20
    let tb := s.table k
    let e := tb.entry n
    (x.off = off + b →
      (tb.locked n = true → ∃ t', exec (.actEntryBaseLimitWrite w) s = .next (s1.setTable k t') ∧ t' = tb) ∧
      (tb.locked n = false → e.valid = true →
        exec (.actEntryBaseLimitWrite w) s = .next (s1.setTable k { tb with whileValid := true })) ∧
      (tb.locked n = false → e.valid = false →
        exec (.actEntryBaseLimitWrite w) s = .next (s1.setTable k (tb.setEntry n { e with base := x.merge e.base &&& ~~~ 0xFFF })))) ∧
    (x.off = off + 8 + b → tb.locked n = false → e.valid = false →
        exec (.actEntryBaseLimitWrite w) s = .next (s1.setTable k (tb.setEntry n { e with limit := x.merge e.limit &&& ~~~ 0xFFF }))) ∧
    (x.off = off + 16 + b → tb.locked n = false →
      let v := x.merge e.ctrl
      let e' : ActEntry := { e with ctrl := v &&& 0x871F_FFFF_03FF_03FF }
      (bitOf v 63 = false → exec (.actEntryCtrlWrite w) s = .next (s1.setTable k (tb.setEntry n e'))) ∧
      (bitOf v 63 = true → e.valid = false → e'.good k = true →
        exec (.actEntryCtrlWrite w) s = .next (s1.setTable k (tb.setEntry n e'))) ∧
      (bitOf v 63 = true → e.valid = false → e'.good k = false →
        exec (.actEntryCtrlWrite w) s = .next (s1.setTable k { tb with badEntry := true })) ∧
      (bitOf v 63 = true → e.valid = true → e'.ctrl ≠ e.ctrl →
        exec (.actEntryCtrlWrite w) s = .next (s1.setTable k { tb with whileValid := true }))) ∧
    (x.off = 0x103_0700_2010 + k * 0x1_0000 + b →
      exec (.actSyncWrite w) s = .next (s1.setTable k { tb with fence := s1.pendingAt k }))) ∧
  (∀ (s s1 : State) (k : Fin 20) (mid : Mid) (ok : AccOk), 0x98 ≤ mid.toNat → midIssued mid.toNat = true → mid.toNat ≠ 0x0FB →
    s.checkLocal mid.toNat 0 .R (0x103_0700_2010 + k.val * 0x1_0000) 8 = .ok ok →
    s.enter (whoOfMid mid.toNat) ok.cls (s.globalOf (0x103_0700_2010 + k.val * 0x1_0000)).toNat 1 = (s1, true) →
    (s1.fencePending k.val = true → exec (.actSyncRead k mid) s = .next (s1.setTable k.val
      { s.table k.val with syncHeld := (s.table k.val).syncHeld ++ [whoOfMid mid.toNat] })) ∧
    (s1.fencePending k.val = false → exec (.actSyncRead k mid) s = .next { s1 with resp := s.resp ++ [
      { who := whoOfMid mid.toNat, ctx := 0, code := 0, addr := 0x103_0700_2010 + k.val * 0x1_0000,
        data := clean [0, 0, 0, 0, 0, 0, 0, 0] }] })) ∧
  (∀ (s : State) (k : Fin 20), s.fencePending k.val = false → ∃ s', exec (.actSyncReturn k) s = .next s' ∧
    s'.resp = s.resp ++ (s.table k.val).syncHeld.map (fun u =>
      { who := u, ctx := 0, code := 0, addr := 0x103_0700_2010 + k.val * 0x1_0000, data := clean [0, 0, 0, 0, 0, 0, 0, 0] }) ∧
    (s'.table k.val).syncHeld = [] ∧ (s'.table k.val).fence = [] ∧ (s'.table k.val).entries = (s.table k.val).entries ∧
    ∀ j, j ≠ k.val → s'.table j = s.table j)

/-- REGISTER_WRITE and RC_REGISTER_READ (R7, R9): completion.
The model's own readings in it: log entries 7, 32. -/
def Obligations.PlainRegisterAccess : Prop :=
  (∀ (s s1 : State) (w : Wr) (x : WrIn), s.wrAt w s1 x →
    let v := x.value &&& x.mask
    (∀ k b, k < 20 → b < 8 → x.off = 0x103_0700_2000 + k * 0x1_0000 + b →
      exec (.registerWrite w) s = .next (s1.setTable k { s.table k with lock := (s.table k).lock || bitOf v 0 })) ∧
    (∀ k b, k < 20 → b < 8 → x.off = 0x103_0700_2008 + k * 0x1_0000 + b →
      exec (.registerWrite w) s = .next (s1.setTable k { s.table k with
        badEntry := (s.table k).badEntry && !bitOf v 1, whileValid := (s.table k).whileValid && !bitOf v 0 })) ∧
    (∀ n b, n < 8 → b < 8 → x.off = 0x103_0500_0028 + n * 0x1_0000 + b →
      exec (.registerWrite w) s = .next (s1.setStack n { s.stack n with pattern := x.merge (s.stack n).pattern })) ∧
    (∀ n b, n < 90 → b < 8 → x.off = 0x103_0600_0010 + n * 0x1_0000 + b → (s.port n).lock = false →
      exec (.registerWrite w) s = .next (s1.setPort n { s1.port n with quota := x.merge (s1.port n).quota })) ∧
    (∀ n b, n < 90 → b < 8 → x.off = 0x103_0600_0010 + n * 0x1_0000 + b → (s.port n).lock = true →
      exec (.registerWrite w) s = .next s1) ∧
    (∀ t b, t < 144 → b < 8 → x.off = 0x103_0000_0400 + t * 0x1_0000 + b →
      exec (.registerWrite w) s = .next (s1.updArr t (fun a => { a with
        poison := a.poison && !bitOf v 27, satInt := a.satInt && !bitOf v 26, infOut := a.infOut && !bitOf v 25,
        nanOut := a.nanOut && !bitOf v 24 }))) ∧
    (∀ t o, t < 144 → o < 0x100 → x.off = 0x103_0000_0000 + t * 0x1_0000 + o → exec (.registerWrite w) s = .next s1) ∧
    (∀ b, b < 8 → x.off = 0x102_0500_0008 + b →
      exec (.registerWrite w) s = .next { s1 with sync := { s.sync with handVal := x.merge s.sync.handVal } })) ∧
  (∀ (s s1 : State) (n : Fin 8) (mid : Mid) (ok : AccOk), 0x98 ≤ mid.toNat → midIssued mid.toNat = true → mid.toNat ≠ 0x0FB →
    let a := s.globalOf (0x103_0400_0000 + n.val * 0x1_0000)
    s.isLocal a.toNat = true → addrOffset a.toNat = 0x103_0400_0000 + n.val * 0x1_0000 → s.checkAccess mid.toNat 0 .R a.toNat 8 = .ok ok →
    s.enter (whoOfMid mid.toNat) ok.cls a.toNat 1 = (s1, true) →
    exec (.rcRegisterRead mid a) s = .next { s1.updSlice n.val (fun k => { k with missPeak := 0 }) with resp := s.resp ++ [
      { who := whoOfMid mid.toNat, ctx := 0, code := 0, addr := a.toNat,
        data := clean (leBytes 8 (s1.regImage (0x400_0000 + n.val * 0x1_0000)).toNat) }] })

/-- LLC_ACCESS and LLC_FILL_RETURN (R235–R248): results and completion.
The model's own readings in it: log entries 8, 52, 53. -/
def Obligations.BedrockLineAccess : Prop :=
  (∀ (s s1 : State) (id t : Nat) (r r1 : Req), s.reqAt id .hbm (fun k => !k.isRed && k != .ctrInc) = some r → s.seeksCopy r = false →
    r.share = 0 → r.who = .core t → s.atPort id = (s1, true) → s1.findReq id = some r1 → s.hild.snoops = [] → s.hild.dir = [] →
    let off := addrOffset r.addr
    let L := off / 256
    let n := sliceOf L
    (s.slice n).findMiss L false = none → (∀ l ∈ (s.slice n).lines, l.perr = false) →
    (∀ l, r.kind = .load → s.hasLlc = true → (s.slice n).findLine L false = some l →
      l.valid &&& sectorMask (off % 256) r.len = sectorMask (off % 256) r.len →
      let rd := s.mem.bed.read (llcPhys s.bed.nb n l.set l.way + off % 256) r.len
      ∃ s', exec (.llcAccess id) s = .next s' ∧ s'.findReq id = some { r1 with seen := true, st := .done, data := rd.1 } ∧
        s'.mem.bed = rd.2.1 ∧ s'.mem.hbm = s.mem.hbm ∧ s'.mem.stores = s.mem.stores ∧ s'.tiles = s.tiles ∧
        (∀ j, j ≠ id → s'.findReq j = s.findReq j)) ∧
    (r.kind = .load → s.hasLlc = true → (s.slice n).findLine L false = none → L ∉ (s.slice n).filter →
      (s.slice n).misses.length < 512 →
      ∃ s' m, exec (.llcAccess id) s = .next s' ∧ s'.findReq id = some { r1 with seen := true, st := .waitFill } ∧
        (s'.slice n).findMiss L false = some m ∧ m.reqs = [id] ∧ m.sectors = sectorMask (off % 256) r.len &&& 15 ∧ m.adm = 0 ∧
        s'.mem = s.mem) ∧
    (r.kind = .store → (s.slice n).findLine L false = none → (s.stack n).faulty = false →
      ∃ s', exec (.llcAccess id) s = .next s' ∧ s'.findReq id = none ∧
        s'.mem.hbm = (s.mem.hbm.writeMasked off (maskBytes r.data r.mask)).1 ∧ s'.mem.bed = s.mem.bed ∧
        s'.mem.stores = s.mem.stores ∧ (∀ j, j ≠ id → s'.findReq j = s.findReq j) ∧ s'.tiles = s.tiles) ∧
    (∀ l, r.kind = .store → s.hasLlc = true → (s.slice n).findLine L false = some l →
      touchedMask (off % 256) (maskBytes r.data r.mask) &&& (15 ^^^ (l.valid &&& 15)) = 0 →
      ∃ s' l', exec (.llcAccess id) s = .next s' ∧ s'.findReq id = none ∧
        s'.mem.bed = (s.mem.bed.writeMasked (llcPhys s.bed.nb n l.set l.way + off % 256) (maskBytes r.data r.mask)).1 ∧
        s'.mem.hbm = s.mem.hbm ∧ s'.mem.stores = s.mem.stores ∧ (s'.slice n).findLine L false = some l' ∧
        l'.dirty = l.dirty ||| touchedMask (off % 256) (maskBytes r.data r.mask) ∧ l'.set = l.set ∧ l'.way = l.way)) ∧
  (∀ (s s1 : State) (n : Fin 8) (L t id : Nat) (m : Miss) (r : Req), (s.slice n.val).findMiss L false = some m → m.reqs = [id] →
    m.alloc = false → m.prefetch = false → m.L = L → m.remote = false → s.findReq id = some r → r.kind = .load → r.who = .core t →
    r.byp = false → r.st = .waitFill → r.hint = 0 →
    m.sectors &&& sectorMask (r.addr % 256) r.len = sectorMask (r.addr % 256) r.len → s.frontPass n.val m = (s1, true) →
    ∃ s', exec (.llcFillReturn n L) s = .next s' ∧ (s'.slice n.val).findMiss L false = none ∧
      s'.findReq id = some { r with st := .done, data := ((s1.readSectors L m.sectors noUnit).1.drop (r.addr % 256)).take r.len })

/-- SCRATCH_ACCESS, TILE_STORE_WINDOW_ACCESS, ADD_TO_LINE (R36, R232, R254, R255): results and completion.
The model's own readings in it: log entries 8, 28. -/
def Obligations.ScratchStoreAndReduction : Prop :=
  (∀ (s s1 : State) (id t : Nat) (r r1 : Req), s.reqAt id .scratch (fun k => !k.isRed && k != .ctrInc) = some r → r.who = .core t →
    s.atPort id = (s1, true) → s1.findReq id = some r1 →
    s.bankOpen (s.bankOf (addrOffset r.addr)) = true →
    let a := scratchPhys s.bed.nb (addrOffset r.addr - 0x100_0000_0000)
    (r.kind = .load →
      ∃ s', exec (.scratchAccess id) s = .next s' ∧ s'.findReq id = some { r1 with st := .done, data := (s.mem.bed.read a r.len).1 } ∧
        s'.mem = { s.mem with bed := (s.mem.bed.read a r.len).2.1 } ∧ s'.tiles = s.tiles) ∧
    (r.kind = .store →
      ∃ s', exec (.scratchAccess id) s = .next s' ∧ s'.findReq id = none ∧
        s'.mem = { s.mem with bed := (s.mem.bed.writeMasked a (maskBytes r.data r.mask)).1 } ∧ s'.tiles = s.tiles)) ∧
  (∀ (s s1 : State) (id t u : Nat) (r r1 : Req), s.reqAt id .store (fun k => !k.isRed && k != .ctrInc) = some r → r.who = .core t →
    s.atPort id = (s1, true) → s1.findReq id = some r1 →
    let o := addrOffset r.addr - 0x101_0000_0000
    u = o / 0x80_0000 → o % 0x80_0000 + r.len ≤ 0x60_0000 →
    let m := SMap.get EccMem.swept s.mem.stores u
    (r.kind = .load →
      ∃ s', exec (.tileStoreWindowAccess id) s = .next s' ∧
        s'.findReq id = some { r1 with st := .done, data := (m.read (o % 0x80_0000) r.len).1 } ∧
        s'.mem = { s.mem with stores := SMap.write EccMem.swept s.mem.stores u (m.read (o % 0x80_0000) r.len).2.1 }) ∧
    (r.kind = .store →
      ∃ s', exec (.tileStoreWindowAccess id) s = .next s' ∧ s'.findReq id = none ∧
        s'.mem = { s.mem with stores := SMap.write EccMem.swept s.mem.stores u (m.writeMasked (o % 0x80_0000) (maskBytes r.data r.mask)).1 })) ∧
  (∀ (s s1 : State) (id t fmt os tz : Nat) (r : Req), s.reqAt id .hbm RKind.isRed = none → s.reqAt id .scratch RKind.isRed = some r →
    r.who = .core t ∨ r.who = .mover t 0 → r.kind = .red fmt → redSizes fmt = some (os, tz) →
    s.atPort id = (s1, true) → s.bankOpen (s.bankOf (addrOffset r.addr)) = true →
    let a := scratchPhys s.bed.nb (addrOffset r.addr - 0x100_0000_0000)
    let offs := r.targets os tz
    let rd := s.mem.bed.read a (r.redSpan fmt)
    let bs := (redApply fmt (s.redScale fmt) os tz offs rd.1 r.data).1
    ∃ s', exec (.addToLine id) s = .next s' ∧ s'.findReq id = none ∧
      s'.mem = { s.mem with bed := (rd.2.1.writeMasked a ((List.range bs.length).map (fun i =>
        if offs.any (fun o => decide (o ≤ i ∧ i < o + tz)) then bs[i]? else none))).1 } ∧ s'.tiles = s.tiles)

/-- BDR_PIN_BASE_LIMIT_WRITE, BDR_PIN_CTRL_WRITE, UNPIN_WALK_DONE, THRASH_WINDOW_END, HOIST_PREFETCH, DETECTED_STREAM_IDLE,
BDR_IMM_FENCE_WRITE, IMM_FENCE_DONE (R240–R264): completion.
The model's own readings in it: log entries 7, 55. -/
def Obligations.BedrockControl : Prop :=
  (∀ (s s1 : State) (w : Wr) (x : WrIn) (n b : Nat), s.wrAt w s1 x → n < 16 → b < 8 →
    let p := s.pin n
    (x.off = 0x103_0408_0000 + n * 0x20 + b →
      (p.valid = true → exec (.bdrPinBaseLimitWrite w) s = .next { s1 with bed := { s.bed with pinWhile := true } }) ∧
      (p.valid = false → exec (.bdrPinBaseLimitWrite w) s = .next (s1.setPin n { p with base := x.merge p.base &&& ~~~ 0xFFF }))) ∧
    (x.off = 0x103_0408_0008 + n * 0x20 + b → p.valid = false →
      exec (.bdrPinBaseLimitWrite w) s = .next (s1.setPin n { p with limit := x.merge p.limit ||| 0xFFF })) ∧
    (x.off = 0x103_0408_0010 + n * 0x20 + b →
      let v := bitOf (x.merge (placeB p.valid 63)) 63
      let good := p.base.toNat ≤ p.limit.toNat ∧ p.base.toNat < 0x80_0000_0000 ∧ p.limit.toNat < 0x80_0000_0000
      (v = true → p.walk = false → good → exec (.bdrPinCtrlWrite w) s = .next (s1.setPin n { p with valid := true })) ∧
      (v = true → p.walk = false → ¬ good →
        exec (.bdrPinCtrlWrite w) s = .next { s1 with bed := { s.bed with pinBad := true } }) ∧
      (v = true → p.walk = true → exec (.bdrPinCtrlWrite w) s = .next s1) ∧
      (v = false → p.valid = true →
        exec (.bdrPinCtrlWrite w) s = .next (s1.setPin n { p with valid := false, walk := true, walkBase := p.base, walkLimit := p.limit }))) ∧
    (x.off = 0x103_0408_0208 + b → exec (.bdrImmFenceWrite w) s = .next { s1 with bed := { s.bed with fence := true } })) ∧
  (∀ (s : State) (n : Fin 16), (s.pin n.val).walk = true → ∃ s', exec (.unpinWalkDone n) s = .next s' ∧
    s'.pin n.val = { s.pin n.val with walk := false } ∧ s'.mem = s.mem ∧
    ∀ k, k < 8 → (s'.slice k).lines = (s.slice k).lines.map (fun l =>
      if l.remote = false ∧ (s.pin n.val).walkBase.toNat ≤ l.L * 256 ∧ l.L * 256 ≤ (s.pin n.val).walkLimit.toNat then { l with pinned := false } else l)) ∧
  (∀ (s : State) (n : Fin 8) (look miss : Nat) (rest : List (Nat × Nat)), (s.slice n.val).ended = (look, miss) :: rest →
    ∃ s', exec (.thrashWindowEnd n) s = .next s' ∧ (s'.slice n.val).ended = rest ∧
      ((s.slice n.val).thrash = false → ((s'.slice n.val).thrash = true ↔ look * s.odNat 0x2400 4 < miss * 256)) ∧
      ((s.slice n.val).thrash = true → ((s'.slice n.val).thrash = false ↔ miss * 256 ≤ look * s.odNat 0x2400 5)) ∧
      s'.mem = s.mem ∧ s'.tiles = s.tiles) ∧
  (∀ (s : State) (n : Fin 8) (key i : Nat) (h : HStream) (ok : AccOk), (s.slice n.val).streams.find? (fun h => h.key == key) = some h →
    s.nextPrefetch h = some i → s.findReq s.nextReq = none →
    let a := h.lineAt i
    let mid := ((s.slice n.val).joined key).foldl min 0xFFFF
    s.hasLlc = true → a < 2 ^ 64 → s.isLocal a = true → regionOf (addrOffset a) = some .hbm →
    s.checkAccess mid h.ctx .R a 256 = .ok ok → ok.region = some .hbm →
    ∃ s' r, exec (.hoistPrefetch n key) s = .next s' ∧ s'.findReq s.nextReq = some r ∧ r.kind = .prefetch ∧ r.addr = a ∧ r.len = 256 ∧
      r.op = key ∧ (s'.slice n.val).streams = (s.slice n.val).streams.map (fun x => if x.key = key then { x with asked := x.asked ++ [i] } else x) ∧
      s'.mem = s.mem ∧ s'.tiles = s.tiles) ∧
  (∀ (s : State) (n : Fin 8) (key : Nat), (∃ h ∈ (s.slice n.val).streams, h.key = key ∧ h.detected = true) →
    exec (.detectedStreamIdle n key) s = .next (s.setSlice n.val ((s.slice n.val).endStream key))) ∧
  (∀ s : State, s.bed.fence = true → ∃ s', exec .immFenceDone s = .next s' ∧ s'.bed.fence = false ∧ s'.mem = s.mem ∧ s'.tiles = s.tiles ∧
    ∀ k, k < 8 → (s'.slice k).lines = (s.slice k).lines.filter (fun l => !l.remote))

/-- ROP_SUBMIT, ROP_DESCRIPTOR_READ, ROP_COPY … ROP_MAJ3 (R272–R278): completion.
The model's own readings in it: log entry 56. -/
def Obligations.RowOpStarts : Prop :=
  (∀ (s s1 : State) (w : Wr) (x : WrIn) (n b : Nat), s.wrAt w s1 x → n < 8 → b < 8 → x.off = 0x103_0400_0118 + n * 0x1_0000 + b →
    let a := (x.merge 0).toNat / 32 * 32
    ((s.slice n).submit.length < 64 →
      exec (.ropSubmit w) s = .next (s1.setSlice n { s.slice n with submit := (s.slice n).submit ++ [(a, x.who, x.ctx)] })) ∧
    (64 ≤ (s.slice n).submit.length → s.rel.queue.length < 960 →
      ∃ s', exec (.ropSubmit w) s = .next s' ∧ (s'.slice n).submit = (s.slice n).submit ∧ (s'.slice n).ropOverflow = true ∧
        s1.tookRecord s' 0x02 0x12 0)) ∧
  (∀ (s s1 s2 : State) (n : Fin 8) (a : Nat) (who : Who) (ctx : Nat) (rest : List (Nat × Who × Nat)) (bs : List PByte),
    let op := 2 ^ 32 + n.val
    let s0 := (s1.dropDirect who op).updSlice n.val (fun k => { k with submit := rest })
    let ws := wordsOf bs 4
    let b := physBank (s0.ropPhys ws)
    (s.slice n.val).submit = (a, who, ctx) :: rest → s.directPeek who ctx .R a 32 op 0 = (s1, .bytes bs) → poisoned bs = false →
    s0.ropCheck ws = none → (∀ r ∈ s0.ropRows ws, ∃ k, s0.checkAccess who.mid ctx .O r 2048 = .ok k) →
    (ropStatusEn ws = true → ∃ k, s0.checkAccess who.mid ctx .W (ropStat ws) 8 = .ok k) →
    (s0.bank b).stuck = false → (s0.bank b).queue.length < 4 → s0.bundleHeld who.mid (ropDst ws) = false →
    s0.portPass (b / 64) who.mid (s0.clsAt who.mid ctx .O (ropDst ws) 2048) 1 = (s2, true) →
    ∃ s' e, exec (.ropDescriptorRead n) s = .next s' ∧ (s'.bank b).queue = (s0.bank b).queue ++ [e] ∧ e.words = ws ∧ e.who = who ∧
      e.ctx = ctx ∧ e.retry = false ∧ e.initAt = 0 ∧ e.order = (s0.slice (b / 64)).ropOrder ∧
      (s'.slice (b / 64)).ropOrder = (s0.slice (b / 64)).ropOrder + 1 ∧ s'.ports = s2.ports ∧ s'.mem = s0.mem ∧ s'.tiles = s0.tiles) ∧
  (∀ (s : State) (b : Fin 512) (e : RopEnt) (c : Instr), s.headReady b.val = some e →
    (ropOp e.words, c) ∈ [(0, Instr.ropCopy b), (1, Instr.ropInit b), (2, Instr.ropNot b), (3, Instr.ropAnd b), (4, Instr.ropOr b),
      (5, Instr.ropXor b), (6, Instr.ropMaj3 b)] →
    let weight := if ropOp e.words = 1 then 1 else 4
    (s.windowFree b.val weight = true → (∀ i < 8, ∀ h, s.headReady (b.val / 8 * 8 + i) = some h → e.order ≤ h.order) →
      ∃ s', exec c s = .next s' ∧ (s'.bank b.val).busy = true ∧ (s'.bank b.val).queue = (s.bank b.val).queue ∧
        (s'.bank b.val).serve = [] ∧ (∀ j, j ≠ b.val → s'.bank j = s.bank j) ∧
        SMap.get [] (s'.slice (b.val / 64)).starts (b.val / 8) =
          (SMap.get [] (s.slice (b.val / 64)).starts (b.val / 8)).filter (fun y => decide (s.bedLosc < y.1 + 20)) ++
            [(s.bedLosc, weight)] ∧ s'.mem = s.mem ∧ s'.tiles = s.tiles) ∧
    (s.windowFree b.val weight = false → e.waited = false →
      ∃ s', exec c s = .next s' ∧ (s'.bank b.val).busy = (s.bank b.val).busy ∧
        (s'.slice (b.val / 64)).windowWaits = wrapAdd 32 (s.slice (b.val / 64)).windowWaits 1 ∧ s'.mem = s.mem))

/-- ROW_OP_COMPLETE, BANK_READY, ROP_STUCK (R276–R284): results and completion.
The model's own readings in it: log entries 56, 57, 59. -/
def Obligations.RowOpCompletion : Prop :=
  (∀ (s : State) (b : Fin 512) (e : RopEnt) (rest : List RopEnt), (s.bank b.val).queue = e :: rest → (s.bank b.val).busy = true →
    ropOp e.words ≤ 6 → ropStatusEn e.words = false → e.mover = none →
    let op := ropOp e.words
    let dst := s.ropPhys e.words
    let src (i : Nat) : Nat := subRow dst (ropSrc e.words i)
    let word (i k : Nat) : W64 := (s.mem.bed.look (src k / 8 + i)).1
    let state (i k : Nat) : Nat := (s.mem.bed.look (src k / 8 + i)).2
    ((∀ k < ropSources op, ∀ i < 256, state i k = 0) → op ≠ 1 ∨ ropCount e.words = e.initAt + 1 →
      ∃ s', exec (.rowOpComplete b) s = .next s' ∧ (s'.bank b.val).queue = rest ∧ (s'.bank b.val).busy = false ∧
        (s'.bank b.val).ended = true ∧ s'.mem.hbm = s.mem.hbm ∧ s'.mem.stores = s.mem.stores ∧ s'.tiles = s.tiles ∧
        s'.mem.bed = (List.range 256).foldl (fun m i => m.putWord ((dst + e.initAt * 2048) / 8 + i)
          (match op with
            | 0 => word i 0 | 1 => wd e.words 2 | 2 => ~~~ word i 0 | 3 => word i 0 &&& word i 1 | 4 => word i 0 ||| word i 1
            | 5 => word i 0 ^^^ word i 1
            | _ => (word i 0 &&& word i 1) ||| (word i 0 &&& word i 2) ||| (word i 1 &&& word i 2)) false) s.mem.bed) ∧
    (e.retry = false → (∃ k < ropSources op, ∃ i < 256, state i k = 1) → op ≠ 1 →
      ∃ s' n, exec (.rowOpComplete b) s = .next s' ∧ 0 < n ∧
        (s'.bank b.val).queue = { e with retry := true, corrected := n, waited := false } :: rest ∧ (s'.bank b.val).busy = false ∧
        (s'.bank b.val).ended = true ∧ s'.mem.hbm = s.mem.hbm ∧ s'.tiles = s.tiles)) ∧
  (∀ (s : State) (b : Fin 512), (s.bank b.val).ended = true → exec (.bankReady b) s = .next
    (s.setBank b.val { s.bank b.val with ended := false, serve := s.waitingAt b.val })) ∧
  (∀ (s : State) (b : Fin 512), (s.bank b.val).queue ≠ [] → (s.bank b.val).busy = true →
    (∀ e ∈ (s.bank b.val).queue, ropStatusEn e.words = false) →
    ∃ s', exec (.ropStuck b) s = .next s' ∧ (s'.bank b.val).queue = [] ∧ (s'.bank b.val).stuck = true ∧
      (s'.bank b.val).busy = false ∧ (s'.slice (b.val / 64)).ropStuck = true ∧ s'.mem.hbm = s.mem.hbm ∧ s'.mem.stores = s.mem.stores)

/-- HBM_FILL_CMD, STACK_FILL_DONE, POISON_SWEEP_DONE, SCRUB_READ, BUCKET_LEAK (R296–R302): completion.
The model's own readings in it: log entries 15, 62, 63, 64. -/
def Obligations.HbmMaintenance : Prop :=
  (∀ (s s1 : State) (w : Wr) (x : WrIn) (n b : Nat), s.wrAt w s1 x → n < 8 → b < 8 → x.off = 0x103_0500_0030 + n * 0x1_0000 + b →
    bitOf (x.value &&& x.mask) 0 = true → (s.stack n).good = true → (s.stack n).fillBusy = false →
    exec (.hbmFillCmd w) s = .next (s1.setStack n { s.stack n with fillBusy := true, fill := some 0 })) ∧
  (∀ (s : State) (n : Fin 8) (lines i : Nat), (s.stack n.val).fillBusy = true → (s.stack n.val).fill = some i →
    (stackLines ≤ i → exec (.stackFillDone n lines) s = .next
      ((s.setStack n.val { s.stack n.val with fillBusy := false, fill := none }).odInc 0x2500 4)) ∧
    (let L := stackLine n.val i
     i + 1 < stackLines → s.hbmBacked L = true → s.lineTaken L = false → s.snoopOut L = false → s.snoopNeed L true = none →
     ∃ s', exec (.stackFillDone n 1) s = .next s' ∧ (s'.stack n.val).fillBusy = true ∧ (s'.stack n.val).fill = some (i + 1) ∧
       s'.mem.hbm = s.mem.hbm.fillLine L (s.stack n.val).pattern ∧
       (∀ l ∈ (s'.slice (sliceOf L)).lines, l.L = L → l.remote = true) ∧ ((s'.slice (sliceOf L)).filter.contains L) = false ∧
       s'.mem.bed = s.mem.bed ∧ s'.mem.stores = s.mem.stores ∧ s'.tiles = s.tiles)) ∧
  (∀ (s : State) (n : Fin 8), (s.stack n.val).sweeping = true → ∃ s', exec (.poisonSweepDone (.hbm n)) s = .next s' ∧
    (s'.stack n.val).sweeping = false ∧ (s'.stack n.val).sweepDone = true ∧ s'.mem.bed = s.mem.bed ∧ s'.mem.stores = s.mem.stores ∧
    s'.tiles = s.tiles) ∧
  (∀ (s : State) (n : Fin 8), s.bed.sweeping = true → (s.slice n.val).sweepDone = false →
    ∃ s', exec (.poisonSweepDone (.bedrock n)) s = .next s' ∧ (s'.slice n.val).sweepDone = true ∧ s'.mem.hbm = s.mem.hbm ∧
    s'.mem.stores = s.mem.stores ∧ s'.tiles = s.tiles ∧ (s'.bed.sweeping = false ↔ ∀ k < 8, k ≠ n.val → (s.slice k).sweepDone = true)) ∧
  (∀ (s : State) (t : Fin 144), (s.tile t.val).storing = true → s.mem.wf = true →
    ∃ s', exec (.poisonSweepDone (.store t)) s = .next s' ∧ (s'.tile t.val).storing = false ∧
    (let m := SMap.get EccMem.swept s.mem.stores t.val
     let m' := SMap.get EccMem.swept s'.mem.stores t.val
     (∀ w, m'.isPoison w = true) ∧ ∀ a, m'.byteAt a = m.byteAt a) ∧ s'.mem.hbm = s.mem.hbm ∧ s'.mem.bed = s.mem.bed ∧
    ∀ u, u ≠ t.val → s'.tile u = s.tile u ∧ SMap.get EccMem.swept s'.mem.stores u = SMap.get EccMem.swept s.mem.stores u) ∧
  (∀ (s s1 : State) (n : Fin 8) (pos : Nat), (s.stack n.val).good = true → s.odGet 0x2500 3 ≠ 0 →
    s.nextHbmWord n.val (s.stack n.val).scrubPos = some pos → s.scrubPass (frontPort n.val) 0xF8 = (s1, true) →
    ∃ s' s2, exec (.scrubRead false n) s = .next s' ∧
      s2 = (s1.memRead (.hbm (stackLine n.val (pos / 32) * 256 + pos % 32 * 8)) 8 (Who.hbmScrub.waiter 0)).2 ∧ s'.mem = s2.mem ∧
      (s'.stack n.val).scrubPos = (s2.nextHbmWord n.val (pos + 1)).getD 0 ∧
      s'.mem.bed = s.mem.bed ∧ s'.mem.stores = s.mem.stores ∧ s'.tiles = s.tiles) ∧
  (∀ (s s1 : State) (n : Fin 8) (pos : Nat), s.odGet 0x2420 1 ≠ 0 → s.nextBedWord n.val (s.slice n.val).scrubPos = some pos →
    s.bankOpen (physBank (n.val * 64 * 8388608 + pos * 8)) = true → s.scrubPass n.val 0xF9 = (s1, true) →
    ∃ s', exec (.scrubRead true n) s = .next s' ∧ ((s'.slice n.val).scrubPos = pos + 1 ∨ (s'.slice n.val).scrubPos = 0) ∧
      (pos + 1 < (64 - s.bed.nb) * 2 ^ 20 ∨ sliceWords ≤ pos + 1 ∨ (s'.slice n.val).scrubPos = pos + 1) ∧
      s'.mem.stores = s.mem.stores ∧ s'.tiles = s.tiles) ∧
  (∀ (s : State) (n : Fin 8),
    exec (.bucketLeak 0 n) s = .next (s.setStack n.val { s.stack n.val with bucket := (s.stack n.val).bucket - 1 }) ∧
    exec (.bucketLeak 1 n) s = .next (s.setSlice n.val { s.slice n.val with bucket := (s.slice n.val).bucket - 1 }) ∧
    ∃ s', exec (.bucketLeak 2 n) s = .next s' ∧
      SMap.get 0 s'.bed.sectorBucket n.val = SMap.get 0 s.bed.sectorBucket n.val - 1)

/-- REQUEST_ADMIT, REGULATOR_WINDOW_START, ARBITER_GRANT, TRANSFER_END, TARGET_RESOURCE_FREE, ARB_STUCK (R304–R318): completion.
The model's own readings in it: log entries 66, 67, 68. -/
def Obligations.PortsAndArbiters : Prop :=
  ∀ (s : State) (port : Fin 90),
    let n := port.val
    let p := s.port n
    (∀ (req mid cls units : Nat), s.offers n req = some (mid, cls, units) → (p.queueOf (inputOf mid cls)).length < 4 →
      (s.admits p mid = true →
        ∃ s', exec (.requestAdmit port req) s = .next s' ∧
          (s'.port n).queueOf (inputOf mid cls) = p.queueOf (inputOf mid cls) ++ [
            { mid := mid, units := units, at_ := s.bedLosc, waited := false, ready := true, req := req }] ∧
          (isScrubber mid = false → p.forceOf mid ≠ unlimited → s.urgent mid = false →
            (s'.port n).remainOf mid = p.remainOf mid - (units : Int)) ∧
          (∀ k, k ≠ n → s'.port k = s.port k) ∧ s'.mem = s.mem ∧ s'.tiles = s.tiles) ∧
      (s.admits p mid = false →
        exec (.requestAdmit port req) s = .next (s.setPort n { p with masked := insertNew p.masked mid }))) ∧
    (∃ s', exec (.regulatorWindowStart port) s = .next s' ∧ { s' with ports := s.ports } = s ∧
      (s'.port n).inForce = p.budget ∧ (s'.port n).masked = [] ∧ (s'.port n).windows = (p.windows + 1) % 2 ^ 32 ∧
      (s'.port n).queues = p.queues ∧ (∀ k < 4, SMap.get 0 (s'.port n).left (12 + k) = fld p.quota (16 * k) 16) ∧
      (SMap.rising none p.remain = true → ∀ m, p.budgetOf m ≠ unlimited →
        (s'.port n).remainOf m = (p.budgetOf m : Int) + min 0 (SMap.get 0 p.remain m))) ∧
    (∀ (i : Nat) (r : PReq), p.transfer = none → p.winner (s.preqHeld n) = some i → p.head i = some r →
      ∃ s', exec (.arbiterGrant port) s = .next s' ∧ (s'.port n).transfer = some (i, r) ∧
        SMap.get 0 (s'.port n).grants i = (SMap.get 0 p.grants i + 1) % 2 ^ 64 ∧
        (SMap.find p.ret i = none → ((s'.port n).queueOf i).length = (p.queueOf i).length - 1) ∧
        (linkOfPort n = none → ¬(8 ≤ n ∧ n < 16) → (s.findReq r.req).isSome = true →
          (s'.findReq r.req).map (fun x => x.adm) = some 2) ∧
        (∀ k, k ≠ n → s'.port k = s.port k) ∧ s'.mem = s.mem ∧ s'.tiles = s.tiles) ∧
    (∀ held i, p.winner held = some i → i < 16 ∧ p.eligible held i = true ∧ ∀ j, i < j → j < 16 → p.eligible held j = false) ∧
    exec (.transferEnd port) s = .next (s.setPort n { p with transfer := none }) ∧
    (∀ (input : Fin 16) (r : PReq), SMap.find p.ret input.val = some r → s.lacksNothing n r = true →
      exec (.targetResourceFree port input) s = .next (s.setPort n
        { p with ret := SMap.put p.ret input.val { r with ready := true } })) ∧
    (∀ (i : Nat) (r : PReq), p.transfer = some (i, r) → s.rel.queue.length < 960 →
      ∃ s1, exec (.arbStuck port) s = .next (s1.arbLost n r) ∧ (s1.port n).transfer = none ∧ (s1.port n).stuck = true ∧
        (s1.port n).lastMid = r.mid ∧ (s1.port n).fired = (p.fired + 1) % 2 ^ 32 ∧ s.tookRecord s1 0x0C 0x01 1 ∧
        s1.reqs = s.reqs ∧ s1.mem = s.mem ∧ s1.tiles = s.tiles ∧
        (0x90 ≤ r.mid → linkOfPort n = none → ¬(8 ≤ n ∧ n < 16) → s.findReq r.req = none → s1.arbLost n r = s1))

/-- FRAME_RECEIVE, REPLAY_TIMEOUT, PACKET_SEND (R321–R324): completion.
The model's own readings in it: log entry 75. -/
def Obligations.LinkFramesAndCredits : Prop :=
  ∀ (s : State) (l : Fin 65), (s.link l.val).state = 4 →
    let k := s.link l.val
    (∀ (seq : BitVec 12) (fixed : Fin 16) (bad : Bool) (slots : List Byte) (crc : BitVec 20), slots.length = 640 →
      (bad = true ∨ crc20 slots ≠ crc.toNat → exec (.frameReceive l seq fixed bad slots crc) s = .next (s.setLink l.val
        { k with fec := (k.fec + (if bad then 0 else fixed.val)) % 2 ^ 32, bad := (k.bad + 1) % 2 ^ 32, nak := true })) ∧
      (bad = false → crc20 slots = crc.toNat → seq.toNat ≠ k.rxNext →
        exec (.frameReceive l seq fixed bad slots crc) s = .next (s.setLink l.val
          { k with fec := (k.fec + fixed.val) % 2 ^ 32, bad := (k.bad + 1) % 2 ^ 32 })) ∧
      (∀ sl : List Byte, bad = false → crc20 slots = crc.toNat → seq.toNat = k.rxNext → k.resends = [] → k.partial_ = [] →
        sl.length = 32 → slots = sl ++ List.replicate 608 0 → slotType sl ≠ 0 → slotType sl ≠ 0x3F → slotCount sl = 0 →
        ∃ s', exec (.frameReceive l seq fixed bad slots crc) s = .next s' ∧
          (s'.link l.val).ingress = k.ingress ++ [Pkt.ofSlots [sl]] ∧ (s'.link l.val).rxNext = (k.rxNext + 1) % 4096 ∧
          (s'.link l.val).ackDue = true ∧ (s'.link l.val).nak = false ∧ (s'.link l.val).rx = (k.rx + 32) % 2 ^ 64 ∧
          (s'.link l.val).unacked = k.unacked ∧ (s'.link l.val).out = k.out ∧ (∀ j, j ≠ l.val → s'.link j = s.link j) ∧
          { s' with fab := s.fab } = s)) ∧
    (k.window ≠ 0 → k.resend.resends.any (fun e => decide (s.odNat 0x2800 2 < e.2)) = false →
      exec (.replayTimeout l) s = .next (s.setLink l.val k.resend) ∧ k.resend.replays = (k.replays + k.window) % 2 ^ 32 ∧
      (∀ i < k.window, SMap.get 0 k.resend.resends ((k.txOld + i) % 4096) = SMap.get 0 k.resends ((k.txOld + i) % 4096) + 1)) ∧
    (∀ (vc : Fin 12) (idle : Fin 2561) (q : QPkt), k.room (idle.val + 1) = true →
      let k1 := k.pushSlots (List.replicate idle.val idleSlot)
      let s1 := s.setLink l.val k1
      s1.nextOut l.val vc.val = some q →
      (∀ s2, q.pkt.slots ≤ k.free vc.val → k1.room q.pkt.slots = true → s1.leaves l.val q = (s2, true) →
        ∃ s', exec (.packetSend l vc idle false) s = .next s' ∧
          (let k' := s'.link l.val
           k'.out = k.out.filter (fun x => x.id != q.id) ∧ k'.tx = (k.tx + 32 * q.pkt.slots) % 2 ^ 64 ∧
           k'.unacked = k.unacked ++ [(k'.lastFrame, q.pkt)] ∧ k'.free vc.val = k.free vc.val - q.pkt.slots ∧
           (∀ v, v ≠ vc.val → k'.resLeft v = k.resLeft v) ∧ k'.ingress = k.ingress ∧ k'.state = 4 ∧
           (k.txPart.length < 20 → k.txLast < 4096 →
             let n := k.txPart.length + idle.val + q.pkt.slots
             k'.txPart.length = n % 20 ∧ k'.txLast = (k.txLast + n / 20) % 4096)) ∧
          (∀ j, j ≠ l.val → s'.link j = s.link j) ∧ s'.mem = s.mem ∧ s'.tiles = s.tiles) ∧
      (k.free vc.val < q.pkt.slots → exec (.packetSend l vc idle false) s = .next (s1.lackCredits l.val q))) ∧
    (∀ (vc : Fin 12), k.room 1 = true → 4 ≤ k.ctlGap → (s.setLink l.val (k.control l.val)).nextOut l.val vc.val = none →
      exec (.packetSend l vc 0 true) s = .next (s.setLink l.val (k.control l.val)) ∧
      (k.control l.val).ctlSent.head? = some (place 0x3F 54 6 ||| place k.rxNext 36 12 ||| placeB k.nak 35) ∧
      (k.control l.val).freed = [] ∧ (k.control l.val).nak = false ∧ (k.control l.val).ackDue = false ∧ (k.control l.val).ctlGap ≤ 1)

/-- LINK_TRAINING_DONE, ID_EXCHANGE, LINK_DOWN, RETRAIN_HOLDOFF, LINK_ENABLE_WRITE, RETRAIN, YF_ROUTE_WRITE, ROUTE_SETTLE: completion.
The model's own readings in it: log entries 69, 71, 72, 74. -/
def Obligations.LinkStatesAndRoutes : Prop :=
  (∀ (s : State) (l : Fin 65) (pol : Fin 16) (rev : Bool), (s.link l.val).state = 2 →
    ((s.link l.val).full = true → ∃ s', exec (.linkTrainingDone l 2 pol rev) s = .next s' ∧
      s'.link l.val = { s.link l.val with state := 3, full := false, polarity := pol.val, reversed := rev, idSent := s.idPayload l.val } ∧
      (∀ j, j ≠ l.val → s'.link j = s.link j) ∧
      { s' with fab := s.fab, bup := s.bup } = s ∧
      ∃ e, SMap.find s'.bup.saved (8 + l.val) = some e ∧ e.partner = [] ∧ e.checkOk = true) ∧
    (∃ s', exec (.linkTrainingDone l 3 pol rev) s = .next s' ∧
      s'.link l.val = { s.link l.val with state := 1, retrainDue := true } ∧ { s' with fab := s.fab, bup := s.bup } = s)) ∧
  (∀ (s : State) (l : Fin 65) (payload : List Byte), payload.length = 64 → (s.link l.val).state = 3 →
    let at_ (i : Nat) : Nat := (payload.getD i 0).toNat
    let serial := (payload.drop 12).take 16
    let dev := (at_ 4 + 256 * at_ 5) % 4096
    s.wrongPartner l.val serial = false →
    (at_ 0 % 16 ≤ 1 → 1 ≤ at_ 0 / 16 → at_ 8 % 16 = 15 → dev ≠ s.ownId → (s.link l.val).known = none →
      s.topoExpected l.val = false → at_ 3 ≤ 64 →
      ∃ s', exec (.idExchange l payload) s = .next s' ∧ (s'.link l.val).state = 4 ∧ (s'.link l.val).partnerDev = dev ∧
        (s'.link l.val).partnerLink = at_ 1 % 64 ∧ (s'.link l.val).serial = serial ∧ (s'.link l.val).known = some (dev, serial) ∧
        (s'.link l.val).res = at_ 3 ∧ (s'.link l.val).pool = (if l.val = 64 then 8192 - 4 * at_ 3 else 2048 - 12 * at_ 3) ∧
        (∀ j, j ≠ l.val → s'.link j = s.link j) ∧ s'.mem = s.mem ∧ s'.tiles = s.tiles ∧ s'.rel = s.rel) ∧
    (¬ (at_ 0 % 16 ≤ 1 ∧ 1 ≤ at_ 0 / 16) → s.rel.queue.length < 960 →
      ∃ s', exec (.idExchange l payload) s = .next s' ∧ s'.link l.val = { s.link l.val with state := 5, heldCode := 0x02 } ∧
        s.tookRecord s' 0x08 0x02 2)) ∧
  (∀ (s : State) (l : Fin 64) (cause : Fin 3), (s.link l.val).live = true → cause ≠ 0 → (s.link l.val).unacked = [] →
    (s.link l.val).out = [] → s.fab.wait = [] → s.rel.queue.length < 960 →
    ∃ s', exec (.linkDown l cause) s = .next s' ∧ (s'.link l.val).state = 1 ∧ (s'.link l.val).retrainDue = true ∧
      (s'.link l.val).downs = (if (s.link l.val).state = 4 then ((s.link l.val).downs + 1) % 2 ^ 32 else (s.link l.val).downs) ∧
      (∀ j, j ≠ l.val → s'.link j = s.link j) ∧ s.tookRecord s' 0x08 0x01 2 ∧ s'.mem = s.mem ∧ s'.tiles = s.tiles) ∧
  (∀ (s : State) (l : Fin 65), (s.link l.val).state = 1 → (s.link l.val).retrainDue = true → (s.link l.val).enable = true →
    s.seated l.val = true → exec (.retrainHoldoff l) s = .next
      (s.setLink l.val { s.link l.val with state := 2, full := true, retrainDue := false })) ∧
  (∀ (s s1 : State) (w : Wr) (x : WrIn) (l : Nat), s.wrAt w s1 x → l < 64 → x.off = 0x103_0800_0000 + l * 0x1000 → bitOf x.mask 0 = true →
    let k := s.link l
    (bitOf (x.value &&& x.mask) 1 = false → bitOf x.value 0 = true → k.state = 0 → s.seated l = true →
      exec (.linkEnableWrite w) s = .next ((s1.setLink l { k with enable := true }).setLink l
        { k with enable := true, state := 2, retrainDue := false })) ∧
    (bitOf (x.value &&& x.mask) 1 = false → bitOf x.value 0 = false → k.state = 1 → k.unacked = [] → k.out = [] → s.fab.wait = [] →
      ∃ s', exec (.linkEnableWrite w) s = .next s' ∧ (s'.link l).state = 0 ∧ (s'.link l).enable = false ∧
        (s'.link l).downs = k.downs ∧ ∀ j, j ≠ l → s'.link j = s.link j) ∧
    (bitOf (x.value &&& x.mask) 1 = true → bitOf x.value 0 = true → k.state = 1 → k.unacked = [] → k.out = [] → s.fab.wait = [] → s.seated l = true →
      ∃ s', exec (.retrain w) s = .next s' ∧ (s'.link l).state = 2 ∧ (s'.link l).full = true ∧ (s'.link l).enable = true ∧
        (s'.link l).retrainDue = false ∧ ∀ j, j ≠ l → s'.link j = s.link j)) ∧
  (∀ (s s1 : State) (w : Wr) (x : WrIn) (d b : Nat), s.wrAt w s1 x → d < 4096 → b < 8 →
    let r := s.route d
    (x.off = 0x103_0810_0000 + d * 16 + b → exec (.yfRouteWrite w) s = .next (s1.setRoute d
      { mask := x.merge r.mask, valid := r.valid, settle := r.settle ++ [(r.mask, r.valid, s.upMask)] })) ∧
    (x.off = 0x103_0810_0008 + d * 16 + b → exec (.yfRouteWrite w) s = .next (s1.setRoute d
      { mask := r.mask, valid := bitOf (x.merge (placeB r.valid 63)) 63,
        settle := r.settle ++ [(r.mask, r.valid, s.upMask)] }))) ∧
  (∀ (s : State) (d : Fin 4096), (s.route d.val).settle ≠ [] → (∀ q ∈ s.fab.held, q.pkt.dst ≠ d.val) → s.fab.wait = [] →
    ∃ s', exec (.routeSettle d) s = .next s' ∧ (s'.route d.val).settle = [] ∧ (s'.route d.val).mask = (s.route d.val).mask ∧
      s'.fab.held = s.fab.held ∧ s'.fab.links = s.fab.links ∧ s'.mem = s.mem)

/-- YF_READ, YF_WRITE, YF_WRITE_MASKED, YF_ADD_TO_LINE, YF_MINMAX_TO_LINE, YF_CTR_INC (R328–R339): completion.
The model's own readings in it: log entry 73. -/
def Obligations.YonusRequests : Prop :=
  ∀ (s : State) (l : Fin 64) (vc : Fin 6) (p : Pkt),
    (∀ ok : AccOk, s.findReq s.nextReq = none →
      (s.fabOk l.val vc.val TREAD p ok → regionOf (addrOffset p.addr) = some .hbm ∨ regionOf (addrOffset p.addr) = some .scratch ∨
          regionOf (addrOffset p.addr) = some .store →
        ∃ s' r, exec (.yfRead l vc) s = .next s' ∧ s.queuedFrom s' l.val p r ∧ r.who = .fabric l.val (p.src * 4096 + p.mid * 4 + p.cls) ∧
          r.kind = .load ∧ r.addr = p.addr ∧ r.len = p.lenM1 + 1 ∧ r.ctx = p.ctx ∧ r.aux = p.tag ∧ r.cls = ok.cls) ∧
      (s.fabOk l.val vc.val TREAD p ok → regionOf (addrOffset p.addr) = some .sync → s.isLocal p.addr = true →
        s.keyBusy (p.who l.val) = false → (∀ x ∈ s.reqs, x.adm ≠ 2) →
        ∀ s2, ((s.takeIn l.val p).fabQueue l.val p ok .load).atPort s.nextReq = (s2, true) →
        ∃ r : Req, r.addr = p.addr ∧ r.len = p.lenM1 + 1 ∧ r.aux = p.tag ∧ r.ctx = p.ctx ∧
          r.who = .fabric l.val (p.src * 4096 + p.mid * 4 + p.cls) ∧
          exec (.yfRead l vc) s = .next ((s2.dropReq s.nextReq).respond
            (s2.answerPkt r 0 (clean (s.syncRead (addrOffset p.addr - 0x102_0000_0000) (p.lenM1 + 1)))))) ∧
      (s.fabOk l.val vc.val TWRITE p ok →
        ∃ s' r, exec (.yfWrite l vc) s = .next s' ∧ s.queuedFrom s' l.val p r ∧ r.who = .fabric l.val (p.src * 4096 + p.mid * 4 + p.cls) ∧
          r.kind = .store ∧ r.addr = p.addr ∧ r.ctx = p.ctx ∧ vals r.data = p.data ∧ r.mask = [] ∧ r.cls = ok.cls) ∧
      (s.fabOk l.val vc.val TWRITE_MASKED p ok →
        ∃ s' r, exec (.yfWriteMasked l vc) s = .next s' ∧ s.queuedFrom s' l.val p r ∧ r.kind = .store ∧ r.addr = p.addr ∧
          r.who = .fabric l.val (p.src * 4096 + p.mid * 4 + p.cls) ∧ r.ctx = p.ctx ∧ vals r.data = p.data ∧ r.mask.length = 256 ∧
          ∀ i < 256, r.mask.getD i false = p.mask.testBit i) ∧
      (s.fabOk l.val vc.val TADD p ok →
        ∃ s' r, exec (.yfAddToLine l vc) s = .next s' ∧ s.queuedFrom s' l.val p r ∧ r.kind = .red p.fmt ∧ r.addr = p.addr ∧
          r.who = .fabric l.val (p.src * 4096 + p.mid * 4 + p.cls) ∧ vals r.data = p.data ∧ r.ctx = p.ctx) ∧
      (s.fabOk l.val vc.val TMINMAX p ok →
        ∃ s' r, exec (.yfMinmaxToLine l vc) s = .next s' ∧ s.queuedFrom s' l.val p r ∧ r.kind = .red p.fmt ∧ r.addr = p.addr ∧
          r.who = .fabric l.val (p.src * 4096 + p.mid * 4 + p.cls) ∧ vals r.data = p.data ∧ r.ctx = p.ctx) ∧
      (∀ s1, s.fabOk l.val vc.val TCTR_INC p ok → s.keyBusy (p.who l.val) = false → s.enter (p.who l.val) ok.cls p.addr 1 = (s1, true) →
        let n := (addrOffset p.addr - 0x102_0000_0000) / 16
        s.attr .ctr n = 0 → s.ctr n + p.operand < 2 ^ 64 → (∀ y ∈ s.sync.waits, y.held = false) →
        ∃ s', exec (.yfCtrInc l vc) s = .next s' ∧ s'.ctr n = s.ctr n + p.operand ∧ (∀ k, k ≠ n → s'.ctr k = s.ctr k) ∧
          (∀ y ∈ s'.sync.waits, y ∈ s.sync.waits) ∧ s'.sync.lock = s.sync.lock ∧ s'.sync.evt = s.sync.evt ∧ s'.mem = s.mem ∧
          (s'.link l.val).ingress = (s.link l.val).ingress.erase p ∧ s'.ports = s1.ports)) ∧
    (∀ (c : Instr) (type : Nat) (s' : State), s.headIn l.val vc.val = some p → p.type = type ∨ fabTypes.contains p.type = false →
      (type, c) ∈ [(0x01, Instr.yfRead l vc), (0x02, Instr.yfWrite l vc), (0x03, Instr.yfWriteMasked l vc), (0x04, Instr.yfAddToLine l vc),
        (0x05, Instr.yfMinmaxToLine l vc), (0x06, Instr.yfCtrInc l vc), (0x07, Instr.barrierArrive l vc), (0x09, Instr.barrierRelease l vc)] →
      (p.dst = s.ownId → (s.takeIn l.val p).homeCheck l.val p = .error s' → exec c s = .next s') ∧
      (p.dst ≠ s.ownId → s.bup.stage ≠ 3 → p.hop < 5 → (s.takeIn l.val p).egress { p with hop := p.hop + 1 } (some l.val) = (s', true) →
        exec c s = .next s') ∧
      (p.dst ≠ s.ownId → s.bup.stage = 3 → exec c s = .next s) ∧
      (p.dst ≠ s.ownId → s.bup.stage ≠ 3 → 5 ≤ p.hop → exec c s = .next
        (((s.takeIn l.val p).fabSpoil YF_HOP_LIMIT p (some l.val)).failPkt p YF_HOP_LIMIT)))

/-- YF_READ_DATA, YF_STATUS, YF_READ_TIMEOUT, YF_RESIDENCE, BARRIER_ARRIVE, BARRIER_RELEASE, YF_BAR_WRITE: completion.
The model's own readings in it: log entries 3, 70. -/
def Obligations.YonusResponsesAndBarriers : Prop :=
  (∀ (s : State) (l : Fin 64) (vc : Fin 6) (p : Pkt), s.headIn l.val (6 + vc.val) = some p → p.dst = s.ownId →
    let s1 := s.takeIn l.val p
    (∀ (g : RTag) (id c : Nat) (r : Req), p.type = TREAD_DATA → s.fab.tags.find? (fun x => x.tag == p.tag) = some g →
      g.req = some id → g.line = none → s.findReq id = some r → r.id = id → r.kind = .load → r.who = .mgt c → s.fab.wait = [] →
      (p.status = 0 → ∃ s', exec (.yfReadData l vc) s = .next s' ∧ s'.fab.tags = s.fab.tags.filter (fun x => x.tag != g.tag) ∧
        s'.findReq id = some { r with st := .done, data := withPoison p.data p.poison } ∧ s'.rel = s.rel ∧ s'.mem = s.mem) ∧
      (p.status ≠ 0 → s.rel.queue.length < 960 → g.mid ≠ 0x098 →
        ∃ s', exec (.yfReadData l vc) s = .next s' ∧ s'.fab.tags = s.fab.tags.filter (fun x => x.tag != g.tag) ∧
        s'.findReq id = some { r with st := .failed p.status } ∧ s.tookRecord s' 0x09 p.status 0 ∧ s'.mem = s.mem)) ∧
    (p.type = TREAD_DATA → s.fab.tags.find? (fun x => x.tag == p.tag) = none →
      exec (.yfReadData l vc) s = .next (s1.fabSpoil YF_LATE_RESPONSE p (some l.val))) ∧
    (p.type = TSTATUS → 16 ≤ p.ctx → p.mid ≠ 0x098 → s.rel.queue.length < 960 → (∀ y ∈ s.sync.waits, y.held = false) →
      ∃ s', exec (.yfStatus l vc) s = .next s' ∧ s.tookRecord s' 0x09 p.status 0 ∧ s'.odGet 0x2800 8 = s.odGet 0x2800 8 + 1 ∧
        s'.reqs = s.reqs ∧ s'.mem = s.mem ∧ s'.sync = s.sync)) ∧
  (∀ (s : State) (tag : Fin 8192) (g : RTag) (id c : Nat) (r : Req), s.fab.tags.find? (fun x => x.tag == tag.val) = some g →
    g.req = some id → g.line = none → s.findReq id = some r → r.kind = .load → r.who = .mgt c → s.fab.wait = [] →
    s.rel.queue.length < 960 →
    ∃ s', exec (.yfReadTimeout tag) s = .next s' ∧ s'.fab.tags = s.fab.tags.filter (fun x => x.tag != tag.val) ∧
      s'.findReq id = some { r with st := .failed YF_READ_TIMEOUT } ∧ s.tookRecord s' 0x09 0x16 1 ∧ s'.mem = s.mem) ∧
  (∀ (s : State) (l : Fin 64) (pos : Nat),
    (∀ p : Pkt, (s.link l.val).ingress[pos]? = some p →
      exec (.yfResidence .ingress l pos) s = .next (((s.takeIn l.val p).fabSpoil YF_RESIDENCE p (some l.val)).failPkt p YF_RESIDENCE)) ∧
    (∀ (q : QPkt) (f : Nat), (s.link l.val).out[pos]? = some q → q.from_ = some f → q.adm = 0 →
      exec (.yfResidence .egress l pos) s = .next
        (((s.setLink l.val { s.link l.val with out := (s.link l.val).out.eraseIdx pos }).fabSpoil YF_RESIDENCE q.pkt (some f)).failPkt
          q.pkt YF_RESIDENCE)) ∧
    (∀ (q : QPkt) (f : Nat), s.fab.held[pos]? = some q → q.from_ = some f →
      ∃ s0, s0 = { s with fab := { s.fab with held := s.fab.held.eraseIdx pos } } ∧
      exec (.yfResidence .router l pos) s = .next ((s0.fabSpoil YF_RESIDENCE q.pkt (some f)).failPkt q.pkt YF_RESIDENCE)) ∧
    (∀ (r : Req) (key : Nat), s.findReq pos = some r → r.who = .fabric l.val key → r.adm = 0 → r.st = .sent →
      exec (.yfResidence .home l pos) s = .next (((s.dropReq pos).fabSpoil YF_RESIDENCE (s.answerPkt r 0 []) (some l.val)).statusPkt
        r.who r.ctx r.addr YF_RESIDENCE))) ∧
  (∀ (s s1 : State) (l : Fin 64) (vc : Fin 6) (p : Pkt) (ok : AccOk), (∀ y ∈ s.sync.waits, y.held = false) →
    s.keyBusy (p.who l.val) = false → s.enter (p.who l.val) ok.cls p.addr 1 = (s1, true) →
    let c := p.chan
    let b := s.ybar c
    (s.fabOk l.val vc.val TBAR_ARRIVE p ok →
      (∀ i, b.children.findIdx? (fun d => d == p.src) = some i → b.valid = true → p.operand = (s.chanOf c).round →
        (s.setYbar c { b with arrived := natSetBit b.arrived i true }).partComplete c = false →
        exec (.barrierArrive l vc) s = .next ((s1.takeIn l.val p).setYbar c { b with arrived := natSetBit b.arrived i true })) ∧
      (p.operand ≠ (s.chanOf c).round →
        exec (.barrierArrive l vc) s = .next ((s1.takeIn l.val p).fabSpoil YF_BAR_ROUND p (some l.val)))) ∧
    (s.fabOk l.val vc.val TBAR_RELEASE p ok → b.valid = true → b.root = false → p.src = b.parent →
      p.operand = (s.chanOf c).round → b.nchild = 0 → (s.chanOf c).expect ≠ 0 → (s.chanOf c).localN ≠ 0 →
      (∀ y ∈ s.sync.waits, y.on .chan c = false) →
      ∃ s', exec (.barrierRelease l vc) s = .next s' ∧ (s'.chanOf c).round = ((s.chanOf c).round + 1) % 2 ^ 32 ∧
        (s'.chanOf c).arrived = [] ∧ (s'.ybar c).sent = false ∧ s'.sync.waits = s.sync.waits ∧ s'.mem = s.mem)) ∧
  (∀ (s s1 : State) (w : Wr) (x : WrIn) (c f o : Nat), s.wrAt w s1 x → c < 32 → f < 5 → o < 8 →
    x.off = 0x103_0812_0000 + c * 0x40 + 8 * f + o →
    let b := s.ybar c
    (b.valid = false → f = 0 → exec (.yfBarWrite w) s = .next
      ((s1.setYbar c { b with ctrl := x.merge b.ctrl &&& 0xC01F_0FFF_0000_0000 }).barCheck c).syncSettle) ∧
    (b.valid = false → f ≠ 0 → ∃ b' : YBar, exec (.yfBarWrite w) s = .next (s1.setYbar c b') ∧ b'.ctrl = b.ctrl ∧
      (∀ i < 4, b'.childId (4 * (f - 1) + i) = fld (x.merge (b.reg (8 * f))) (16 * i) 12) ∧
      ∀ k, k / 4 ≠ f - 1 → b'.childId k = b.childId k) ∧
    (b.valid = true → bitOf x.mask 63 = false ∨ bitOf x.value 63 = true ∨ f ≠ 0 → exec (.yfBarWrite w) s = .next s1) ∧
    (b.valid = true → f = 0 → bitOf x.mask 63 = true → bitOf x.value 63 = false → exec (.yfBarWrite w) s = .next
      ((s1.setYbar c { b with ctrl := b.ctrl &&& 0x7FFF_FFFF_FFFF_FFFF }).barCheck c).syncSettle))

/-- HLD_READ, HLD_WRITE, HLD_WRITE_MASKED, READ_SHARED, READ_EXCL, WRITEBACK, SNOOP_RESP, HLD_FIELD: completion.
The model's own readings in it: log entries 76, 77, 78. -/
def Obligations.CompanionRequests : Prop :=
  ∀ (s : State) (p : Pkt),
    let off := addrOffset p.addr
    let L := off / 256
    let s1 := s.takeIn hildLink p
    (∀ ok : AccOk, s.findReq s.nextReq = none →
      (s.hildOk TREAD p ok → regionOf off = some .hbm ∨ regionOf off = some .scratch ∨ regionOf off = some .store →
        ∃ s' r, exec .hldRead s = .next s' ∧ s.queuedFrom s' hildLink p r ∧ r.who = .hild ∧ r.kind = .load ∧
          r.addr = (s.globalOf off).toNat ∧ r.len = p.lenM1 + 1 ∧ r.ctx = 0 ∧ r.aux = p.tag ∧ r.op = p.addr) ∧
      (s.hildOk TWRITE p ok → regionOf off = some .hbm ∨ (∀ x ∈ s.reqs, x.who ≠ .hild) →
        ∃ s' r, exec .hldWrite s = .next s' ∧ s.queuedFrom s' hildLink p r ∧ r.who = .hild ∧ r.kind = .store ∧
          r.addr = (s.globalOf off).toNat ∧ vals r.data = p.data ∧ r.mask = [] ∧ r.ctx = 0) ∧
      (s.hildOk TWRITE_MASKED p ok → regionOf off = some .hbm ∨ (∀ x ∈ s.reqs, x.who ≠ .hild) →
        ∃ s' r, exec .hldWriteMasked s = .next s' ∧ s.queuedFrom s' hildLink p r ∧ r.who = .hild ∧ r.kind = .store ∧
          r.addr = (s.globalOf off).toNat ∧ vals r.data = p.data ∧ r.mask.length = 256 ∧ ∀ i < 256, r.mask.getD i false = p.mask.testBit i) ∧
      (∀ excl : Bool, s.hildOk (if excl then TREAD_EXCL else TREAD_SHARED) p ok →
        ∃ s' r, exec (if excl then .readExcl else .readShared) s = .next s' ∧ s.queuedFrom s' hildLink p r ∧ r.who = .hild ∧
          r.kind = .load ∧ r.addr = (s.globalOf off).toNat ∧ r.len = 256 ∧ r.share = (if excl then 2 else 1) ∧ r.aux = p.tag ∧
          r.op = p.addr) ∧
      (s.hildOk TWRITEBACK p ok →
        (∀ e, SMap.find s.hild.dir L = some e → e.excl = true →
          exec .writeback s = .next ((s1.mergeLine p).dropEntry L) ∧ (p.data = [] → s1.mergeLine p = s1)) ∧
        ((∀ e, SMap.find s.hild.dir L = some e → e.excl = false) → exec .writeback s = .next s1))) ∧
    (s.headIn hildLink 2 = some p → p.type = THILD_SNOOP_RESP →
      ((∀ n ∈ s.hild.snoops, n.line ≠ L) → exec .snoopResp s = .next s1) ∧
      (∀ (n : Snoop) (e : DirEnt), s.hild.snoops.find? (fun x => x.line == L) = some n → SMap.find s.hild.dir L = some e →
        let s2 := { s1 with hild := { s.hild with snoops := s.hild.snoops.erase n } }
        let s3 := if e.excl then s2.mergeLine p else s2
        (n.inv = true → exec .snoopResp s = .next (s3.dropEntry L)) ∧
        (n.inv = false → ∃ s', exec .snoopResp s = .next s' ∧ SMap.find s'.hild.dir L = some { e with excl := false } ∧
          s'.mem = s3.mem))) ∧
    (s.headIn hildLink 0 = some p → p.type ∉ [0x01, 0x02, 0x03, 0x10, 0x20, 0x21, 0x22, 0x25, 0x26] → s.rel.queue.length < 960 →
      ∃ s' q, exec .hldField s = .next s' ∧ s.tookRecord s' 0x0A 0x01 0 ∧
        (s'.link hildLink).out = (s.link hildLink).out ++ [q] ∧ q.pkt.type = TSTATUS ∧ q.pkt.addr = p.addr ∧ s'.mem = s.mem) ∧
    (∀ (id : Nat) (r : Req), r.kind = .load → r.share = 1 ∨ r.share = 2 → r.who = .hild →
      let line := addrOffset r.addr / 256
      (∀ s1, s.reqAt id .hbm (fun k => !k.isRed && k != .ctrInc) = some r → s.isLocal r.addr = true → s.atPort id = (s1, true) →
        (∀ n ∈ s.hild.snoops, n.line ≠ line) → s.hild.dir.length + s.reqs.length < 131072 →
        exec (.llcAccess id) s = .next (s1.readLine r false)) ∧
      (∀ bs : List PByte, s.findReq id = some r →
        ∃ e q, SMap.find (s.finishReq id bs).hild.dir line = some e ∧
          e.excl = (r.share == 2 || (SMap.find s.hild.dir line).any (fun (e : DirEnt) => e.excl)) ∧
          (∀ j, j ≠ line → SMap.find (s.finishReq id bs).hild.dir j = SMap.find s.hild.dir j) ∧
          ((s.finishReq id bs).link hildLink).out = (s.link hildLink).out ++ [q] ∧ q.pkt.type = TREAD_DATA ∧ q.pkt.data = vals bs ∧
          q.pkt.tag = r.aux ∧ q.pkt.status = 0 ∧ (s.finishReq id bs).mem = s.mem))

/-- HLD_READ_DATA, WRITE_ACK, HLD_READ_TIMEOUT, HLD_WRITE_TIMEOUT, SNOOP_TIMEOUT, HLD_LINK_DOWN, INTERRUPT_HOLDOFF: completion.
The model's own readings in it: log entries 3, 79. -/
def Obligations.HildDeviceSide : Prop :=
  (∀ (s : State) (p : Pkt) (r : Req) (c : Nat), s.headIn hildLink 2 = some p → r.who = .mgt c → s.findReq r.id = some r →
    (∀ x ∈ s.reqs, s.toHild x = true → x.st ≠ .sent) →
    (p.type = TREAD_DATA → s.hildLoads.find? (fun x => x.tag == p.tag) = some r →
      (p.status = 0 → p.fits = true → r.len ≤ p.data.length → ∃ s', exec .hldReadData s = .next s' ∧
        s'.findReq r.id = some { r with st := .done, data := (withPoison p.data p.poison).take r.len } ∧
        (∀ k, k ≠ r.id → s'.findReq k = s.findReq k) ∧ s'.mem = s.mem ∧ s'.rel = s.rel) ∧
      (p.status ≠ 0 → s.rel.queue.length < 960 → ∃ s', exec .hldReadData s = .next s' ∧
        s'.findReq r.id = some { r with st := .failed (0x80 + p.status) } ∧ s.tookRecord s' 0x0A (0x80 + p.status) 0)) ∧
    (p.type = TWRITE_ACK → s.reqs.find? (fun x => x.st == .out && x.kind == .store && s.toHild x && x.who.mid == p.mid &&
        decide (addrOffset x.addr = addrOffset p.addr)) = some r →
      ((∀ e ∈ s.hild.log, e.req ≠ r.id) → ∃ s', exec .writeAck s = .next s' ∧ s'.reqs = s.reqs.filter (fun x => !(x.id == r.id)) ∧
        s'.mem = s.mem ∧ s'.rel = s.rel ∧ s'.sync = s.sync ∧ s'.hild = s.hild) ∧
      (∀ e, s.hild.log.find? (fun x => x.req == r.id) = some e → s.odGet 0x2900 0x17 = 0 → (∀ y ∈ s.sync.waits, y.held = false) →
        let n := s.odNat 0x2900 0x12
        s.attr .ctr n = 0 → s.ctr n + 1 < 2 ^ 64 →
        ∃ s', exec .writeAck s = .next s' ∧ s'.ctr n = s.ctr n + 1 ∧ (∀ k, k ≠ n → s'.ctr k = s.ctr k) ∧
          s'.hild.log = s.hild.log.filter (fun x => x.req != r.id) ∧ s'.mem = s.mem))) ∧
  (∀ (s : State) (req c : Nat) (r : Req), s.findReq req = some r → r.who = .mgt c → r.st = .out → s.toHild r = true →
    s.rel.queue.length < 960 → s.odGet 0x2900 0x17 = 0 → (∀ x ∈ s.reqs, s.toHild x = true → x.st ≠ .sent) →
    (r.kind = .load → ∃ s', exec (.hldReadTimeout req) s = .next s' ∧ s'.findReq req = some { r with st := .failed 0x06 } ∧
      s.tookRecord s' 0x0A 0x06 1 ∧ s'.mem = s.mem) ∧
    (r.kind = .store → ∃ s', exec (.hldWriteTimeout req) s = .next s' ∧ s'.findReq req = none ∧ s.tookRecord s' 0x0A 0x07 1 ∧
      s'.mem = s.mem ∧ s'.hild.log = s.hild.log.filter (fun x => x.req != req))) ∧
  (∀ (s : State) (c : Instr), (∃ line, (∃ n ∈ s.hild.snoops, n.line = line) ∧ c = .snoopTimeout line) ∨
      c = .hldLinkDown 1 ∨ c = .hldLinkDown 2 → (s.link hildLink).state = 4 →
    (∀ e ∈ s.hild.dir, e.2.excl = false) → (∀ r ∈ s.reqs, s.toHild r = false) → s.rel.queue.length < 960 →
    ∃ s', exec c s = .next s' ∧ (s'.link hildLink).state = 1 ∧ (s'.link hildLink).retrainDue = true ∧ s'.hild.dir = [] ∧
      s'.hild.snoops = [] ∧ s.tookRecord s' 0x0A 0x05 2 ∧ s'.mem = s.mem ∧ s'.reqs = s.reqs ∧
      ∀ j, j ≠ hildLink → s'.link j = s.link j) ∧
  (∀ (s : State) (cause : Fin 3), cause ≠ 0 → (s.link hildLink).state = 2 ∨ (s.link hildLink).state = 3 →
    ∃ s', exec (.hldLinkDown cause) s = .next s' ∧ (s'.link hildLink).state = 1 ∧ (s'.link hildLink).retrainDue = true ∧
      s'.hild = s.hild ∧ s'.rel = s.rel ∧ s'.mem = s.mem ∧ s'.reqs = s.reqs ∧ ∀ j, j ≠ hildLink → s'.link j = s.link j) ∧
  (∀ s : State, s.hild.irqHold = true →
    (s.hild.irqNext = none ∨ s.odGet 0x2900 0x17 = 0 →
      exec .interruptHoldoff s = .next { s with hild := { s.hild with irqHold := false, irqNext := none } }) ∧
    (∀ sev cls code, s.odGet 0x2900 0x17 ≠ 0 → s.hild.irqNext = some (sev, cls, code) → exec .interruptHoldoff s = .next (s.irqWord sev cls code) ∧
      (s.irqWord sev cls code).hild.irqNext = none))

/-- DEALE_OPEN, DEALE_CLOSE, DEALE_READ, DEALE_WRITE, DEALE_READ_BLOCK, DEALE_WRITE_BLOCK, DEALE_COMMAND, SESSION_TIMEOUT and the
Deale path of a row that writes one entry (R360–R370): completion.
The model's own readings in it: log entries 80, 81, 82, 83. -/
def Obligations.DealeSessions : Prop :=
  ∀ (s : State) (eth : Eth) (f : List Byte) (d : Deale),
    (s.dealeIn eth f 0x10 d → s.mgp.sessions.length < 4 →
      ∃ s' n, exec (.dealeOpen eth f) s = .next s' ∧ 0 < n ∧ n < 65536 ∧ (∀ x ∈ s.mgp.sessions, x.id ≠ n) ∧
        s'.mgp.sessions = s.mgp.sessions ++
          [{ id := n, mac := eth.src.toNat, role := min d.role (s.stationRole eth.src.toNat), seq := 0, kept := none }] ∧
        s'.mgp.outbox = s.mgp.outbox ++
          [{ d.reply OD_OK [] with session := n, role := min d.role (s.stationRole eth.src.toNat) }] ∧
        { s' with mgp := s.mgp, free := s.free } = s) ∧
    (s.dealeIn eth f 0x10 d → 4 ≤ s.mgp.sessions.length → s.rel.queue.length < 960 →
      ∃ s', exec (.dealeOpen eth f) s = .next s' ∧ s'.mgp.outbox = s.mgp.outbox ++ [d.reply DEALE_BUSY []] ∧
        s.tookRecord s' 0x11 0x0A 0 ∧ s'.mgp.sessions = s.mgp.sessions) ∧
    (∀ x : Session, s.dealeNext d x → s.bup.rom = false →
      (s.dealeIn eth f 0x11 d → ∃ s', exec (.dealeClose eth f) s = .next s' ∧
        s'.mgp.sessions = s.mgp.sessions.filter (fun y => y.id != x.id) ∧
        s'.mgp.outbox = s.mgp.outbox ++ [d.reply OD_OK []] ∧ { s' with mgp := s.mgp } = s) ∧
      (∀ e, s.odEntry d.index d.sub = some e →
        (s.dealeIn eth f 1 d → (odRoles d.index).1 ≤ x.role → e.readable = true → e.scalar = true → e.size ≤ 8 →
          ∃ s', exec (.dealeRead eth f) s = .next s' ∧ s.dealeDone s' d x OD_OK (leBytes e.size (s.odValue d.index d.sub).toNat) ∧
            { s' with mgp := s.mgp } = s) ∧
        (s.dealeIn eth f 1 d → x.role < (odRoles d.index).1 → s.rel.queue.length < 960 →
          ∃ s', exec (.dealeRead eth f) s = .next s' ∧ s.dealeDone s' d x DEALE_ROLE [] ∧ s.tookRecord s' 0x11 0x05 0) ∧
        (∀ (st : Nat) (s2 : State), s.dealeIn eth f 2 d → (odRoles d.index).2 ≤ x.role → e.scalar = true → e.size ≤ 8 →
          d.data.length = e.size → s.odWrite d.index d.sub (wholeValue e.type d.data) (some d.mac) = (st, s2) →
          ∃ s', exec (.dealeWrite eth f) s = .next s' ∧ s2.dealeDone s' d x st [] ∧
            (st = OD_OK → { s' with mgp := s2.mgp } = s2) ∧ (st ≠ OD_OK → s2.rel.queue.length < 960 → s2.tookRecord s' 0x11 st 0)) ∧
        (s.dealeIn eth f 3 d → (odRoles d.index).1 ≤ x.role → e.readable = true → e.scalar = false → d.offset + frameLen f ≤ e.size →
          ∃ s', exec (.dealeReadBlock eth f) s = .next s' ∧
            s.dealeDone s' d x OD_OK (s.odBytes d.index d.sub d.offset (frameLen f)) ∧ { s' with mgp := s.mgp } = s) ∧
        (∀ (st : Nat) (s2 : State), s.dealeIn eth f 4 d → (odRoles d.index).2 ≤ x.role →
          s.odWriteBlock d.index d.sub d.offset d.data = (st, s2) →
          ∃ s', exec (.dealeWriteBlock eth f) s = .next s' ∧ s2.dealeDone s' d x st [] ∧
            (st = OD_OK → { s' with mgp := s2.mgp } = s2)))) ∧
    (∀ (x : Session) (r : Deale), s.dealeIn eth f 2 d → s.mgp.sessions.find? (fun y => y.id == d.session && y.mac == d.mac) = some x →
      d.seq = x.seq → x.kept = some r →
      exec (.dealeWrite eth f) s = .next { s with mgp := { s.mgp with outbox := s.mgp.outbox ++ [r] } }) ∧
    (s.rel.queue.length < 960 →
      (∀ x : Session, s.dealeIn eth f 1 d → s.mgp.sessions.find? (fun y => y.id == d.session && y.mac == d.mac) = some x →
        d.seq ≠ x.seq → d.seq ≠ (x.seq + 1) % 65536 → ∃ s', exec (.dealeRead eth f) s = .next s' ∧
          s'.mgp.outbox = s.mgp.outbox ++ [d.reply DEALE_SEQ []] ∧ s'.mgp.sessions = s.mgp.sessions ∧ s.tookRecord s' 0x11 0x04 0) ∧
      (s.dealeIn eth f 1 d → s.mgp.sessions.find? (fun y => y.id == d.session && y.mac == d.mac) = none →
        ∃ s', exec (.dealeRead eth f) s = .next s' ∧ s'.mgp.outbox = s.mgp.outbox ++ [d.reply DEALE_SESSION []] ∧
          s.tookRecord s' 0x11 0x03 0) ∧
      (∀ c : Nat, s.dealeIn eth f c d → c ∉ [1, 2, 3, 4, 0x10, 0x11] → ∃ s', exec (.dealeCommand eth f) s = .next s' ∧
        s'.mgp.outbox = s.mgp.outbox ++ [d.reply DEALE_COMMAND []] ∧ s'.mgp.sessions = s.mgp.sessions ∧ s.tookRecord s' 0x11 0x02 0) ∧
      (s.accepts eth = true → frameNat f 1 1 = 1 → frameNat f 0 1 / 16 ≠ 1 → ∃ s', exec (.dealeRead eth f) s = .next s' ∧
        s'.mgp.outbox = s.mgp.outbox ++ [(dealeOf eth.src.toNat f).reply DEALE_VERSION []] ∧ s.tookRecord s' 0x11 0x01 0)) ∧
    (s.accepts eth = false → (∀ c ∈ [Instr.dealeOpen eth f, .dealeClose eth f, .dealeRead eth f, .dealeWrite eth f, .dealeReadBlock eth f,
      .dealeWriteBlock eth f, .dealeCommand eth f], exec c s = .next s)) ∧
    (∀ n : Half, s.dealeServed = true → exec (.sessionTimeout n) s = .next
      { s with mgp := { s.mgp with sessions := s.mgp.sessions.filter (fun x => x.id != n.toNat) } }) ∧
    (∀ (ses seq : Half) (x : Session), s.accepts eth = true → s.bup.rom = false → x.role = 2 →
      let d1 : Deale := { command := 2, response := false, status := 0, session := ses.toNat, seq := seq.toNat, index := 0x1F00, sub := 1,
                          role := 0, offset := 0, data := leBytes 4 storeSave.toNat, mac := eth.src.toNat }
      s.dealeNext d1 x → s.odCheckWrite 0x1F00 1 storeSave = OD_OK →
      ∃ s', exec (.save (.deale eth ses seq)) s = .next s' ∧ (s.storeCmd storeSave).dealeDone s' d1 x OD_OK [] ∧
        { s' with mgp := s.mgp } = s.storeCmd storeSave)

/-- OD_MIRROR_READ, OD_MIRROR_WRITE, BLOCK_PORT_READ, BLOCK_PORT_WRITE, FLASH_WINDOW_WRITE, SAVE, DFLT, STORE_COMPLETE: completion.
The model's own readings in it: log entries 85, 87, 88, 89, 90. -/
def Obligations.DictionaryAccess : Prop :=
  (∀ (s s1 : State) (mid : Mid) (idx : Half) (sub : Byte) (desc : Bool) (ok : AccOk), s.firmware = true → 0x98 ≤ mid.toNat →
    midIssued mid.toNat = true → mid.toNat ≠ 0x0FB →
    let off := mirrorOff idx.toNat sub.toNat + (if desc then 8 else 0)
    let a := (s.globalOf off).toNat
    s.checkAccess mid.toNat 0 .R a 8 = .ok ok → s.enter (whoOfMid mid.toNat) ok.cls a 1 = (s1, true) →
    ∃ s' v st, exec (.odMirrorRead mid idx sub desc) s = .next s' ∧
      s'.resp = s.resp ++ [{ who := whoOfMid mid.toNat, ctx := 0, code := 0, addr := a, data := clean (leBytes 8 v) }] ∧
      s'.od.val = s.od.val ∧ s'.ports = s1.ports ∧ fld (SMap.get (0 : W64) s'.od.last (whoOfMid mid.toNat).mid) 0 8 = st ∧ s'.mem = s.mem ∧
      (∀ e, s.odEntry idx.toNat sub.toNat = some e → e.readable = true → e.scalar = true → desc = false →
        st = OD_OK ∧ v = (s.odValue idx.toNat sub.toNat).toNat) ∧
      (∀ e, s.odEntry idx.toNat sub.toNat = some e → desc = true → st = OD_OK ∧ v = e.descriptor.toNat) ∧
      (s.odEntry idx.toNat sub.toNat = none → st = OD_NO_OBJECT ∧ v = 0)) ∧
  (∀ (s s1 : State) (w : Wr) (x : WrIn) (idx sub : Nat), s.firmware = true → s.wrAt w s1 x → idx < 65536 → sub < 256 →
    x.off = mirrorOff idx sub →
    (x.full = true → x.whole = true → ownOd idx sub x.data = false →
      (∀ c, s1.odCheckWrite idx sub x.data = c → c ≠ OD_OK → s.rel.queue.length < 960 →
        ∃ s', exec (.odMirrorWrite w) s = .next s' ∧ s'.od.val = s.od.val ∧ s.tookRecord s' 0x11 c 0 ∧ s'.mem = s.mem ∧ s'.tiles = s.tiles) ∧
      (∀ s2, s1.odCheckWrite idx sub x.data = OD_OK → s1.odPerform idx sub x.data none = (OD_OK, s2) →
        exec (.odMirrorWrite w) s = .next (s2.mirrorDone x.who idx sub)) ∧
      (idx = 0x2500 ∨ idx = 0x2400 ∨ idx = 0x2100 → s1.odPerform idx sub x.data none = (OD_OK, s1.odSet idx sub x.data))) ∧
    (x.full = false ∨ x.whole = false → s.rel.queue.length < 960 → ∃ s', exec (.odMirrorWrite w) s = .next s' ∧ s'.od.val = s.od.val ∧
      s.tookRecord s' 0x11 (if (s.odEntry idx sub).isNone then OD_NO_OBJECT else OD_ACCESS) 0)) ∧
  (∀ (s s1 : State) (k : Fin 16) (mid : Mid) (off : Nat), s.firmware = true → 0x98 ≤ mid.toNat → midIssued mid.toNat = true →
    mid.toNat ≠ 0x0FB →
    let sel := SMap.get (0 : W64) s.od.sel k.val
    let idx := fld sel 0 16
    let sub := fld sel 16 8
    let o := fld sel 32 24 + off
    let a := (s.globalOf (portOff k.val off)).toNat
    (∀ (len : Nat) (ok : AccOk), 0 < len → len ≤ 256 → off + len ≤ 0x1000 → s.checkAccess mid.toNat 0 .R a len = .ok ok →
      s.enter (whoOfMid mid.toNat) ok.cls a ((len + 63) / 64) = (s1, true) →
      s.odCheckRead idx sub true o len = OD_OK → ∃ s', exec (.blockPortRead k mid off len) s = .next s' ∧
        s'.resp = s.resp ++ [{ who := whoOfMid mid.toNat, ctx := 0, code := 0, addr := a, data := clean (s.odBytes idx sub o len) }] ∧
        s'.od.val = s.od.val ∧ s'.od.blob = s.od.blob) ∧
    (∀ (data : List Byte) (ok : AccOk) (s2 : State), 0 < data.length → data.length ≤ 256 → off + data.length ≤ 0x1000 →
      (∀ r ∈ s.reqs, r.who.mid ≠ mid.toNat) → s.checkAccess mid.toNat 0 .W a data.length = .ok ok →
      s.enter (whoOfMid mid.toNat) ok.cls a ((data.length + 63) / 64) = (s1, true) →
      s1.odWriteBlock idx sub o data = (OD_OK, s2) →
      exec (if idx = 0x2200 ∧ sub = 8 then .flashWindowWrite k mid off data else .blockPortWrite k mid off data) s =
        .next (s2.odEnd (.port (whoOfMid mid.toNat) (portOff k.val off)) idx sub true OD_OK))) ∧
  (∀ (s s1 : State) (via : OdVia) (who : Who),
    (s.mirrorAt via 0x1F00 1 0x65766173 s1 who → ∃ c : StoreCopy, c.valid = true ∧ c.seq = s1.newerSeq + 1 ∧
      exec (.save via) s = .next ((({ s1 with od := { s1.od with busy := some c } } : State).odSet 0x1F00 3 1).mirrorDone who 0x1F00 1)) ∧
    (s.mirrorAt via 0x1F00 1 0x746C6664 s1 who → ∃ c : StoreCopy, c.valid = true ∧
      exec (.dflt via) s = .next ((({ s1 with od := { s1.od with busy := some c } } : State).odSet 0x1F00 3 1).mirrorDone who 0x1F00 1))) ∧
  (∀ (s : State) (c : StoreCopy), s.firmware = true → s.od.busy = some c → (∀ e ∈ c.vals, s.odValue (e.1 / 256) (e.1 % 256) = e.2) →
    (∀ e ∈ c.blobs, s.odBytes (e.1 / 256) (e.1 % 256) 0 e.2.length = e.2) →
    (∃ s', exec (.storeComplete true) s = .next s' ∧ s'.od.busy = none ∧ s'.odGet 0x1F00 3 = 2 ∧
      s'.od.copies = s.twoCopies.set s.storeTarget c ∧ s'.mem = s.mem) ∧
    (∃ s', exec (.storeComplete false) s = .next s' ∧ s'.od.busy = none ∧ s'.odGet 0x1F00 3 = 3 ∧
      s'.od.copies.length = 2 ∧ ∀ i, i ≠ s.storeTarget → s'.od.copies[i]? = s.twoCopies[i]?))

/-- MARK, RATE_SAMPLE, BURST_CHECK_FAIL, LANE_WALK_COMPLETE, CONTROL_LANE_TIMEOUT (R389–R399): completion.
The model's own readings in it: log entries 94, 95, 96. -/
def Obligations.RatesAndBundles : Prop :=
  (∀ s : State,
    (s.bedLosc < (s.marks + 1) * 65536 → exec .mark s = .next s) ∧
    ((s.marks + 1) * 65536 ≤ s.bedLosc → ∃ s', exec .mark s = .next s' ∧ s'.marks = (s.marks + 1) % 2 ^ 64 ∧ s'.mem = s.mem ∧
      (s.activeTiles ≠ [] → s'.markLf = s.lfLosc ∧ s'.markUf = s.ufLosc))) ∧
  (∀ (s : State) (t : Fin 144) (rate : W64), (s.tile t.val).role = 0 →
    let norm := fld rate 32 16
    s.odNat 0x2310 2 ≤ fld rate 48 8 → s.odNat 0x2310 2 ≤ fld rate 56 8 → s.odNat 0x2310 1 ≤ norm →
    ((s.tile t.val).trend = 0 ∨ (s.tile t.val).trend = norm) →
    exec (.rateSample t rate) s = .next (s.setTile t.val { s.tile t.val with
      rate := rate, trend := norm, baseline := if (s.tile t.val).baseline = 0 then norm else (s.tile t.val).baseline,
      lifeMin := if (s.tile t.val).lifeMin = 0 then norm else min norm (s.tile t.val).lifeMin })) ∧
  (∀ (s : State) (t : Fin 144), (s.tile t.val).vbWidth ≠ 3 →
    (∀ n : Fin 4, n ≠ 3 → exec (.burstCheckFail t n) s = .next s) ∧
    exec (.burstCheckFail t 3) s = .next (s.setTile t.val { s.tile t.val with vbPaused := true }) ∧
    (∃ s', exec (.controlLaneTimeout t) s = .next s' ∧ (s'.tile t.val).vbWidth = 3 ∧ s'.mem.hbm = s.mem.hbm ∧ s'.mem.bed = s.mem.bed)) ∧
  (∀ (s : State) (t : Fin 144) (h0 h1 : Fin 2049), (s.tile t.val).vbPaused = true → (s.tile t.val).vbWidth = 0 →
    (s.tile t.val).storing = false →
    let x := s.tile t.val
    x.vbBad0 + h0.val ≤ 2048 → x.vbBad1 + h1.val ≤ 2048 →
    (x.vbSpares + h0.val + h1.val ≤ 128 → ∃ s', exec (.laneWalkComplete t h0 h1) s = .next s' ∧ s'.tile t.val = { x with
      vbBad0 := x.vbBad0 + h0.val, vbBad1 := x.vbBad1 + h1.val, vbPaused := false, vbSpares := x.vbSpares + h0.val + h1.val } ∧
      (s.rel.queue.length + h0.val + h1.val ≤ 960 → s'.rel.queue.length = s.rel.queue.length + h0.val + h1.val) ∧
      (∀ u, u ≠ t.val → s'.tile u = s.tile u) ∧ s'.mem = s.mem) ∧
    (128 < x.vbSpares + h0.val + h1.val →
      let good := if x.vbBad1 + h1.val < x.vbBad0 + h0.val then 1 else 0
      let bad := if good = 0 then x.vbBad0 + h0.val else x.vbBad1 + h1.val
      bad ≤ 128 → ∃ s', exec (.laneWalkComplete t h0 h1) s = .next s' ∧ s'.tile t.val = { x with
        vbBad0 := x.vbBad0 + h0.val, vbBad1 := x.vbBad1 + h1.val, vbPaused := false, vbWidth := 1 + good, vbSpares := bad } ∧
        (s.rel.queue.length + h0.val + h1.val < 960 → ∃ r ∈ s'.rel.queue, r.cls = 0x10 ∧ r.code = 0x02 ∧ r.sev = 2) ∧
        (∀ u, u ≠ t.val → s'.tile u = s.tile u) ∧ s'.mem = s.mem))

/-- INPUT_SUPERVISION, PWR_INPUT_UV, PWR_INPUT_OV, UNDERVOLTAGE_RECOVERY, AVS_POLL, PWR_PHASE_LOST, POWER_MEASURE,
VOLTAGE_STEP (R405–R411): completion.
The model's own readings in it: log entries 98, 99. -/
def Obligations.PowerInputsAndLimit : Prop :=
  ∀ s : State,
    (∀ (main : Bool) (mv aux : Fin 4294967296), s.pwr.aux = true → ∃ s', exec (.inputSupervision main mv aux) s = .next s' ∧
      s'.odGet 0x2000 0x0A = BitVec.ofNat 64 mv.val ∧ s'.odGet 0x2000 0x0B = BitVec.ofNat 64 aux.val ∧
      s'.pwr = { s.pwr with main := main, uvSamples := if mv.val < 40000 then s.pwr.uvSamples + 1 else 0,
                            uvDeep := if mv.val < 36000 then s.pwr.uvDeep + 1 else 0,
                            ovSamples := if 59500 < mv.val then s.pwr.ovSamples + 1 else 0,
                            upSamples := if 41000 ≤ mv.val then s.pwr.upSamples + 1 else 0 } ∧ { s' with pwr := s.pwr, od := s.od } = s) ∧
    (s.pwr.converter = true → s.rel.queue.length < 960 →
      (s.pwr.uvDeep < 10 → 10 ≤ s.pwr.uvSamples → s.pwr.inputThrottle = false → ∃ s', exec .pwrInputUv s = .next s' ∧
        s'.pwr = { s.pwr with inputThrottle := true } ∧ (∀ n < 8, (s'.region (8 + n)).urgent = true) ∧ s.tookRecord s' 0x0D 0x01 0 ∧
        s'.mem = s.mem) ∧
      (10 ≤ s.pwr.uvDeep → ∃ s', exec .pwrInputUv s = .next s' ∧ s'.pwr.converter = false ∧ s'.mem = Mems.init ∧ s'.reqs = [] ∧
        (∃ r ∈ s'.rel.queue, r.cls = 0x0D ∧ r.code = 0x01 ∧ r.sev = 4)) ∧
      (10 ≤ s.pwr.ovSamples → ∃ s', exec .pwrInputOv s = .next s' ∧ s'.pwr.converter = false ∧ s'.mem = Mems.init ∧ s'.reqs = [] ∧
        (∃ r ∈ s'.rel.queue, r.cls = 0x0D ∧ r.code = 0x02 ∧ r.sev = 4))) ∧
    (s.pwr.inputThrottle = true → 100 ≤ s.pwr.upSamples → ∃ s', exec .undervoltageRecovery s = .next s' ∧
      s'.pwr = { s.pwr with inputThrottle := false } ∧ s'.mem = s.mem) ∧
    (∀ k : Fin 13, s.pwr.converter = true → (s.rail k.val).off = false →
      (∀ i t st, ∃ s', exec (.avsPoll k (some (i, t, st))) s = .next s' ∧
        s'.rail k.val = { s.rail k.val with current := i, temp := t, status := st, fault := false } ∧
        (∀ j, j ≠ k.val → s'.rail j = s.rail j) ∧ s'.mem = s.mem) ∧
      ((s.rail k.val).fault = false → s.rel.queue.length < 960 → ∃ s', exec (.avsPoll k none) s = .next s' ∧
        s'.rail k.val = { s.rail k.val with fault := true } ∧ s.tookRecord s' 0x0D 0x03 0 ∧ s'.mem = s.mem) ∧
      ((s.rail k.val).lost = 0 → s.rel.queue.length < 960 → ∃ s', exec (.pwrPhaseLost k) s = .next s' ∧
        s'.rail k.val = { s.rail k.val with lost := 1 } ∧ s.tookRecord s' 0x0D 0x04 0 ∧ s'.regions = s.regions ∧ s'.tiles = s.tiles) ∧
      ((s.rail k.val).lost = 1 → ∃ s', exec (.pwrPhaseLost k) s = .next s' ∧ s'.rail k.val = { s.rail k.val with lost := 2 } ∧
        (∀ r ∈ s.feeds k.val, (s'.region r).degraded = true ∧ (8 ≤ r → r < 16 → (s'.region r).hold = true)) ∧ s'.tiles = s.tiles)) ∧
    (∀ ms1 ms100 : Fin 65536, s.pwr.converter = true →
      let lim := s.odNat 0x2000 2
      (lim ≤ 2500 → lim < ms1.val → s.pwr.limitThrottle = false → ∃ s', exec (.powerMeasure ms1 ms100 []) s = .next s' ∧
        s'.pwr.limitThrottle = true ∧ s'.pwr.excess = decide (lim < ms100.val) ∧ s'.odGet 0x2000 0x0D = s.odGet 0x2000 0x0D + 1 ∧
        s'.odGet 0x2000 9 = BitVec.ofNat 64 ms1.val ∧ (∀ n < 8, (s'.region (8 + n)).urgent = true) ∧ s'.mem = s.mem) ∧
      (lim ≤ 2500 → ms1.val < lim → s.pwr.limitThrottle = true → ∃ s', exec (.powerMeasure ms1 ms100 []) s = .next s' ∧
        s'.pwr.limitThrottle = false ∧ s'.odGet 0x2000 9 = BitVec.ofNat 64 ms1.val ∧ s'.mem = s.mem)) ∧
    (s.pwr.converter = true → s.pwr.changing = false → s.rel.takeover = false → ∃ s', exec .voltageStep s = .next s' ∧
      (∀ r < 16, s.profF = false → s.pwr.excess = true → s'.pwr.limitV r = max (min (s.pwr.limitV r) 680) (s.pwr.limitV r - 10)) ∧
      (∀ r < 16, s.profF = false → s.pwr.excess = false → s.pwr.under95 = true →
        s'.pwr.limitV r = min (max (s.pwr.baseV r) (s.pwr.limitV r)) (s.pwr.limitV r + 10)) ∧
      (∀ key, s'.pwr.baseV key = s.pwr.baseV key) ∧ s'.mem = s.mem)

/-- NEIGHBOUR_CHECK, PWR_DEFER_TIMEOUT, REGION_ON, REGION_HOLD_RELEASE, PLACEMENT_RETRY, REGION_GATE_OFF, POWER_PROFILE_WRITE,
PROFILE_CHANGE_COMPLETE, POWER_STATE_REQUEST, SELF_REFRESH_ENTRY (R406–R418): completion.
The model's own readings in it: log entries 3, 99, 101. -/
def Obligations.PowerRegionsAndStates : Prop :=
  (∀ (s : State) (r : Fin 26) (w : SwitchOn), s.turnOf r.val = some w → r.val < 16 →
    let a := r.val / 8 * 8 + (r.val % 8 ^^^ 1)
    let b := (r.val + 8) % 16
    let on (s' : State) : Prop := (s'.region r.val).state = 2 ∧ (s'.region (8 + r.val % 8)).hold = true ∧
      (∀ x ∈ s'.pwr.switches, x.region ≠ r.val) ∧ s'.mem = s.mem ∧ s'.tiles = s.tiles
    (∀ same other : Nat, s.neighbourOk a same = true → s.neighbourOk b other = true →
      ∃ s', exec (.neighbourCheck r same other) s = .next s' ∧ on s') ∧
    (∀ same other : Nat, (s.neighbourOk a same && s.neighbourOk b other) = false →
      ∃ s', exec (.neighbourCheck r same other) s = .next s' ∧ (s'.region r.val).state = (s.region r.val).state ∧
        s'.pwr.switches = s.pwr.switches.map (fun x => if x.region = r.val then { x with defer := w.defer + 1 } else x) ∧ s'.tiles = s.tiles) ∧
    (s.odNat 0x2000 6 ≤ 10 * w.defer →
      (s.headroom r.val = true → ∃ s', exec (.pwrDeferTimeout r) s = .next s' ∧ on s') ∧
      (s.headroom r.val = false → s.rel.queue.length < 960 → ∃ s', exec (.pwrDeferTimeout r) s = .next s' ∧ (s'.region r.val).state = 0 ∧
        (∀ x ∈ s'.pwr.switches, x.region ≠ r.val) ∧ mapPart (s.odGet 0x2B20 1) (r.val % 8) ∈ s'.sched.retry ∧
        s.tookRecord s' 0x0D 0x08 0 ∧ s'.mem = s.mem))) ∧
  (∀ (s : State) (r : Fin 26), (s.region r.val).state = 2 → s.pwr.limitThrottle = false →
    ∃ s', exec (.regionOn r) s = .next s' ∧ (s'.region r.val).state = 3 ∧ (s'.region r.val).volt = s.regionVolt r.val ∧
      (s'.region r.val).holdWait = true ∧ s'.mem = s.mem ∧
      (r.val < 8 → ∀ t, t / 18 = r.val → t < 144 → s'.tile t = { s.tile t with storing := true }) ∧
      ∀ t, t < 144 → (t / 18 ≠ r.val ∨ 8 ≤ r.val) → s'.tile t = s.tile t) ∧
  (∀ (s : State) (r : Fin 26), (s.region r.val).state = 3 → (s.region r.val).holdWait = true →
    ∃ s', exec (.regionHoldRelease r) s = .next s' ∧ (s'.region r.val).holdWait = false ∧ (s'.region r.val).state = 3 ∧
      s'.mem = s.mem ∧ s'.tiles = s.tiles) ∧
  (∀ (s : State) (p : Fin 8), exec (.placementRetry p) s = .next
    { s with sched := { s.sched with retry := s.sched.retry.filter (fun q => decide (q ≠ p.val)) } }) ∧
  (∀ (s : State) (n : Fin 8), s.odGet 0x2000 4 = 1 → s.bup.stage ≠ 4 → (s.region n.val).state = 3 → (s.region (8 + n.val)).state = 3 →
    (∀ t ∈ sectorTiles n.val, s.tileIdle t = true) → ∃ s', exec (.regionGateOff n) s = .next s' ∧
      (s'.region n.val).state = 0 ∧ (s'.region (8 + n.val)).state = 0 ∧ (∀ t, t / 18 ≠ n.val → s'.arr t = s.arr t) ∧
      s'.mem.hbm = s.mem.hbm ∧ s'.mem.bed = s.mem.bed ∧ ∀ t ∈ sectorTiles n.val, (s'.tile t).task = none) ∧
  (∀ (s s1 : State) (via : OdVia) (who : Who) (v : W64),
    (s.mirrorAt via 0x2000 1 v s1 who → ∃ s2 : State, exec (.powerProfileWrite via v) s = .next (s2.mirrorDone who 0x2000 1) ∧
      s2.odGet 0x2000 1 = v ∧ s2.pwr.changing = s.pwr.converter ∧
      (s.pwr.converter = true → ∀ r < 16, (s.region r).state ≠ 4 → (s2.region r).state = 0)) ∧
    (s.mirrorAt via 0x2000 3 v s1 who → ∃ s2 : State, exec (.powerStateRequest via v) s = .next (s2.mirrorDone who 0x2000 3) ∧
      s2.odGet 0x2000 3 = v ∧ s2.pwr.standby = decide (v = 1) ∧ (v ≠ 1 → ∀ n, (s2.stack n).selfRefresh = false))) ∧
  (∀ s : State, s.pwr.changing = true → ∃ s', exec .profileChangeComplete s = .next s' ∧ s'.pwr = { s.pwr with changing := false } ∧
    s'.mem = s.mem ∧ s'.tiles = s.tiles) ∧
  (∀ (s : State) (n : Fin 8), s.pwr.standby = true → (s.stack n.val).good = true →
    (s.stack n.val).fillBusy = false → (s.slice n.val).misses = [] → (∀ r ∈ s.reqs, r.st.ended = false → s.isLocal r.addr = true → regionOf (addrOffset r.addr) = some .hbm →
      sliceOf (addrOffset r.addr / 256) ≠ n.val) →
    exec (.selfRefreshEntry n) s = .next (s.setStack n.val { s.stack n.val with selfRefresh := true }))

/-- THERMAL_SAMPLE, THERM_SENSOR_FAULT, THERM_SENSOR_SUSPECT, LEVEL_FALL, THERM_SHUTDOWN, SHUTDOWN_LATCH_CLEAR: completion.
The model's own readings in it: log entries 105, 106, 107. -/
def Obligations.ThermalMonitor : Prop :=
  ∀ (s : State) (g : Fin 32),
    let x := s.thGroup g.val
    (∀ (temps : List Int) (plf : Fin 65536) (refs : Int × Int), temps.length = sensorCount g.val →
      (s.groupPowered g.val = true → ∃ s', exec (.thermalSample g temps plf refs) s = .next s' ∧ (s'.thGroup g.val).valid = true ∧
        (∀ k, k ≠ g.val → s'.thGroup k = s.thGroup k) ∧ s'.mem = s.mem ∧ s'.reqs = s.reqs) ∧
      (s.groupPowered g.val = false → exec (.thermalSample g temps plf refs) s = .next s) ∧
      (∀ t : Int, s.groupPowered g.val = true → 24 ≤ g.val → temps = [t] → -400 ≤ t → x.excluded = [] → x.suspect = false →
        x.hist.length < 63 →
        (t < 750 → ∃ s', exec (.thermalSample g temps plf refs) s = .next s' ∧ (s'.thGroup g.val).eff = t ∧
          (s'.thGroup g.val).hist = t :: x.hist ∧ (s'.thGroup g.val).level = x.level ∧ s'.rel = s.rel ∧ s'.tiles = s.tiles) ∧
        (750 ≤ t → t < 850 → x.level = 0 → s.rel.queue.length < 960 → ∃ s', exec (.thermalSample g temps plf refs) s = .next s' ∧
          (s'.thGroup g.val).eff = t ∧ (s'.thGroup g.val).level = 1 ∧ s.tookRecord s' 0x0E 0x04 0 ∧ s'.tiles = s.tiles))) ∧
    (∀ sensor : Nat, sensor ∉ x.excluded → 50 ≤ SMap.get 0 x.dev sensor → s.rel.queue.length < 960 →
      ∃ s', exec (.thermSensorFault g sensor) s = .next s' ∧ sensor ∈ (s'.thGroup g.val).excluded ∧ s.tookRecord s' 0x0E 0x01 0 ∧
        (∀ k, k ≠ g.val → s'.thGroup k = s.thGroup k) ∧ s'.mem = s.mem) ∧
    (8 ≤ g.val → g.val < 16 → x.suspect = false → 50 * s.odNat 0x2100 0x0D ≤ x.hot → s.rel.queue.length < 960 →
      ∃ s', exec (.thermSensorSuspect g) s = .next s' ∧ s'.thGroup g.val = { x with suspect := true } ∧ s.tookRecord s' 0x0E 0x03 2 ∧
        (g.val - 8) ∈ s'.thm.throttled ∧ s'.mem = s.mem) ∧
    (50 ≤ x.cool → x.level ≠ 0 → ∃ s', exec (.levelFall g) s = .next s' ∧ s'.thGroup g.val = { x with level := x.level - 1, cool := 0 } ∧
      s'.rel = s.rel ∧ s'.mem = s.mem) ∧
    (s.pwr.converter = true → 2 ≤ x.overShut → ∃ s', exec (.thermShutdown g) s = .next s' ∧ s'.pwr.converter = false ∧ s'.thm.latch = true ∧
      s'.pins.tripN = true ∧ s'.mem = Mems.init ∧ s'.reqs = [] ∧ s'.thm.lastShut.length = 64 ∧
      s'.thm.lastShut.take 3 = [0x0E, 0x07, 4]) ∧
    (s.pwr.aux = false → s.pwr.main = false → exec .shutdownLatchClear s = .next
      { s with thm := { s.thm with latch := false }, pins := { s.pins with tripN := false } })

/-- AUX_INPUT_LOSS, COLD_RESET, COLD_RESET_RELEASE, BRINGUP_STAGE_COMPLETE, BRINGUP_STAGE_TIMEOUT, HBM_TRAINING_DONE: completion.
The model's own readings in it: log entries 110, 112, 114, 116, 117, 122. -/
def Obligations.ColdResetAndBringUp : Prop :=
  ∀ s : State,
    (s.pwr.aux = true → s.od.busy = none → s.sec.burning = false →
      ∀ c ∈ [Instr.coldReset false, Instr.coldReset true, Instr.auxInputLoss], ∃ s', exec c s = .next s' ∧
        s'.bup.held = true ∧ s'.pwr.converter = false ∧ s'.pwr.aux = decide (c ≠ .auxInputLoss) ∧ s'.mem = Mems.init ∧ s'.reqs = [] ∧
        s'.sync = Sync.init ∧ s'.sched = Sched.init ∧ s'.od.val = [] ∧ s'.pending = s.pending ∧ s'.fuses = s.fuses ∧
        s'.od.copies = s.od.copies ∧ s'.bup.image = s.bup.image ∧ s'.thm.latch = s.thm.latch ∧ s'.pins.levels = s.pins.levels) ∧
    (∀ straps : Byte, s.bup.held = true → s.pwr.aux = true → ∃ s', exec (.coldResetRelease straps) s = .next s' ∧
      s'.pins.straps = straps.toNat % 16 ∧ s'.bup.held = false ∧ s'.bup.stage = 0 ∧
      (8 ≤ straps.toNat % 16 → s'.bup.state = 0 ∧ s'.bup.rom = s.bup.rom) ∧ (straps.toNat % 16 < 8 → s'.bup.state = 5 ∧ s'.bup.rom = true) ∧
      { s' with pins := s.pins, bup := s.bup } = s) ∧
    (s.bup.held = false → s.bup.rom = false → s.bup.state = 0 → s.bup.warmStep = 0 →
      (∀ found lanes, s.bup.stage = 0 →
        (s.imageGood = true → s.fuses.svnFloor ≤ Config.imageSvn s.bup.image → ∃ s', exec (.bringupStageComplete found lanes) s = .next s' ∧
          s'.bup.stage = 1 ∧ s'.bup.fw = true ∧ s'.mem = s.mem) ∧
        (s.imageGood = false → s.rel.queue.length < 960 → ∃ s', exec (.bringupStageComplete found lanes) s = .next s' ∧
          s'.bup.rom = true ∧ s'.bup.state = 5 ∧ s'.bup.fw = false ∧ s.tookRecord s' 0x12 0x01 4)) ∧
      (∀ lanes, s.bup.stage = 1 → s.pwr.aux = true → s.pwr.main = true → s.thm.latch = false →
        (∃ s', exec (.bringupStageComplete [] lanes) s = .next s' ∧ s'.bup.stage = 2 ∧ s'.pwr.converter = true ∧ s'.bed.sweeping = true ∧
          s'.bedLosc = 0 ∧ s'.lfLosc = 0 ∧ s'.ufLosc = 0 ∧ s'.bed.nb = scratchBanks (s.odNat 0x2400 1) ∧ s'.mem = s.mem) ∧
        (∃ s', exec (.bringupStageComplete [0] lanes) s = .next s' ∧ s'.bup.state = 4 ∧ s'.bup.cause = 0x100)) ∧
      (∀ lanes, s.bup.stage = 2 → s.memoriesDone = true → ∃ s', exec (.bringupStageComplete [] lanes) s = .next s' ∧ s'.bup.stage = 3 ∧
        (∀ l < 65, (s.link l).enable = true → (s'.link l).state = if s.seated l then 2 else 1) ∧ s'.mem = s.mem) ∧
      (∀ found lanes, s.bup.stage = 3 → s.linksDone = true → ∃ s', exec (.bringupStageComplete found lanes) s = .next s' ∧
        s'.bup.stage = 4 ∧ s'.mem = s.mem) ∧
      (∀ found lanes, s.bup.stage = 4 → s.facesReady found lanes = true → ∃ s', exec (.bringupStageComplete found lanes) s = .next s' ∧
        s'.bup.stage = 5 ∧ s'.startupHold = false ∧ (∀ t < 144, ((s'.tile t).role = 2 ↔ (s'.tile t).causes ≠ 0)) ∧ s'.mem = s.mem) ∧
      (∀ found lanes, s.bup.stage = 5 → ∃ s', exec (.bringupStageComplete found lanes) s = .next s' ∧ s'.bup.stage = 6 ∧
        s'.bup.topoBad = !s.topoHolds ∧ s'.bup.state ∈ [1, 2, 3, 4]) ∧
      (s.bup.stage ∈ [1, 2, 4, 5] → s.rel.queue.length < 960 → ∃ s', exec .bringupStageTimeout s = .next s' ∧ s'.bup.state = 4 ∧
        s'.bup.cause = 0x80 ∧ s'.bup.stage = 6 ∧ s'.bup.stagesOver = [s.bup.stage] ∧ s.tookRecord s' 0x0F 0x02 4 ∧ s'.mem = s.mem) ∧
      (s.bup.stage = 3 → ∃ s', exec .bringupStageTimeout s = .next s' ∧ s'.bup.stage = 5 ∧ s'.bup.state = 0 ∧
        (∀ l < 65, (s'.link l).state ≠ 2 ∧ (s'.link l).state ≠ 3) ∧ s'.mem = s.mem) ∧
      (∀ (n : Fin 8) (failed noRes : W64), s.bup.stage = 2 → SMap.find s.bup.trained n.val = none →
        s.savedOk n.val (s.band (24 + n.val)) = false →
        let f := failed ||| (noRes &&& BitVec.ofNat 64 (s.stack n.val).listedPcs) ||| (s.stack n.val).overflow
        (popCount 64 f.toNat ≤ 8 → ∃ s', exec (.hbmTrainingDone n 2 failed noRes) s = .next s' ∧
          s'.stack n.val = { s.stack n.val with repair := [], overflow := 0, rowCes := [], trained := true, fenced := f, sweeping := true } ∧
          (SMap.find s'.bup.trained n.val).isSome = true ∧ s'.mem = s.mem) ∧
        (∃ s', exec (.hbmTrainingDone n 3 failed noRes) s = .next s' ∧ (s'.stack n.val).good = false ∧
          SMap.find s'.bup.trained n.val = some 5 ∧ s'.mem = s.mem)))

/-- RECV, ERAS, ERASE_COMPLETE, COMT, COMT_VERIFY_DONE, XSPI_TIMEOUT, WARM_RST_N, WARM_RESET_COMMAND, WARM_RESET_QUIESCE_BOUND,
LLC_WRITEBACK_DONE, PARTITION_RESET, TILE_RESET, LINK_RESET: completion.
The model's own readings in it: log entries 3, 119, 122, 123, 125. -/
def Obligations.RecoveryAndResets : Prop :=
  (∀ (s s1 : State) (via : OdVia) (who : Who),
    (s.mirrorAt via 0x2200 6 0x76636572 s1 who → s.bup.state ≠ 0 → s.bup.state ≠ 5 → ∃ s2 : State,
      exec (.recv via) s = .next (s2.mirrorDone who 0x2200 6) ∧ s2.bup.state = 5 ∧ s2.bup.recovery = 0 ∧ s2.bup.erased = false ∧
      s2.sched.running = false ∧ s2.mem.hbm = s.mem.hbm) ∧
    (s.mirrorAt via 0x2200 6 0x73617265 s1 who → s.bup.state = 5 → exec (.eras via) s = .next
      (({ s1 with bup := { s1.bup with recovery := 1, erased := false } } : State).mirrorDone who 0x2200 6)) ∧
    (s.mirrorAt via 0x2200 6 0x746D6F63 s1 who → s.bup.state = 5 → s.bup.erased = true → s.bup.recovery ≠ 1 → s.bup.recovery ≠ 3 →
      exec (.comt via) s = .next (({ s1 with bup := { s1.bup with recovery := 3 } } : State).mirrorDone who 0x2200 6)) ∧
    (s.mirrorAt via 0x2210 1 0x6D726177 s1 who → s.bup.state ≠ 0 → s.bup.state ≠ 5 → s.bup.held = false → s.bup.rom = false →
      s.bup.warmStep = 0 → s.pwr.converter = true → ∃ s2 : State, exec (.warmResetCommand via) s = .next (s2.mirrorDone who 0x2210 1) ∧
        s2.bup.warmStep = 3 ∧ s2.bup.state = 0 ∧ s2.sched.running = false ∧ s2.bup.lastReset = 3) ∧
    (∀ v, s.mirrorAt via 0x2210 3 v s1 who → v.toNat < 144 → s.bup.warmStep = 0 → (s.tile v.toNat).storing = false →
      (s1.tileIdle v.toNat = true → ∃ s2 : State, exec (.tileReset via v) s = .next (s2.mirrorDone who 0x2210 3) ∧
        (s2.tile v.toNat).core = Core.init ∧ (s2.tile v.toNat).sb = [] ∧ (s2.tile v.toNat).task = none ∧
        (∀ r ∈ s2.reqs, r.who.tile ≠ some v.toNat) ∧ s2.bup.lastReset = BitVec.ofNat 32 (5 + v.toNat * 256) ∧ s2.mem.hbm = s.mem.hbm) ∧
      (s1.tileIdle v.toNat = false → s.rel.queue.length < 958 → ∃ s', exec (.tileReset via v) s = .next s' ∧ s'.tiles = s.tiles ∧
        s'.bup.lastReset = BitVec.ofNat 32 (5 + v.toNat * 256 + 65536) ∧ (∃ r ∈ s'.rel.queue, r.cls = 0x0F ∧ r.code = 0x08 ∧ r.sev = 0))) ∧
    (∀ v, s.mirrorAt via 0x2210 2 v s1 who → v.toNat < 8 → s.bup.warmStep = 0 →
      (∀ t ∈ (s.partSectors v.toNat).flatMap sectorTiles, (s.tile t).storing = false ∧ s1.tileIdle t = true) →
      ∃ s2 : State, exec (.partitionReset via v) s = .next (s2.mirrorDone who 0x2210 2) ∧ (s2.part v.toNat).fatal = false ∧
        (∀ t ∈ (s.partSectors v.toNat).flatMap sectorTiles, (s2.tile t).core = Core.init ∧ (s2.tile t).task = none) ∧
        s2.bup.lastReset = BitVec.ofNat 32 (4 + v.toNat * 256) ∧ s2.mem.hbm = s.mem.hbm) ∧
    (∀ l : Fin 64, s.mirrorAt via 0x7004 l.val 1 s1 who → (s.link l.val).enable = true → (s.link l.val).state = 1 →
      (s.link l.val).unacked = [] → (s.link l.val).out = [] → s.fab.wait = [] → s.seated l.val = true →
      ∃ s2 : State, exec (.linkReset via l) s = .next (s2.mirrorDone who 0x7004 l.val) ∧ (s2.link l.val).state = 2 ∧
        (s2.link l.val).full = true ∧ (∀ j, j ≠ l.val → s2.link j = s.link j) ∧ s2.bup.lastReset = BitVec.ofNat 32 (6 + l.val * 256))) ∧
  (∀ s : State,
    (s.bup.recovery = 1 →
      exec (.eraseComplete true) s = .next { s with bup := { s.bup with image := [], written := [], erased := true, recovery := 2 } } ∧
      exec (.eraseComplete false) s = .next { s with bup := { s.bup with recovery := 5 } }) ∧
    (s.bup.recovery = 3 → Config.imageVerifies s.fuses.keyHash s.bup.image = true → s.od.busy = none →
      ∃ s', exec .comtVerifyDone s = .next s' ∧ s'.bup.held = true ∧ s'.bup.image = s.bup.image ∧ s'.bup.imageOk = true ∧ s'.reqs = []) ∧
    (s.bup.recovery = 3 → Config.imageVerifies s.fuses.keyHash s.bup.image = false →
      exec .comtVerifyDone s = .next { s with bup := { s.bup with recovery := 4 } }) ∧
    (s.od.busy = none → s.bup.state = 5 → exec .xspiTimeout s = .next { s with bup := { s.bup with recovery := 5 } }) ∧
    (s.od.busy ≠ none → ∃ s', exec .xspiTimeout s = .next s' ∧ s'.od.busy = none ∧ s'.odGet 0x1F00 3 = 3) ∧
    (s.bup.state ≠ 0 → s.bup.state ≠ 5 → s.bup.held = false → s.bup.rom = false → s.bup.warmStep = 0 → s.pwr.converter = true →
      ∃ s', exec .warmRstN s = .next s' ∧ s'.bup.warmStep = 3 ∧ s'.bup.state = 0 ∧ s'.sched.running = false ∧ s'.bup.lastReset = 2 ∧
        s'.odGet 0x2210 6 = s.odGet 0x2210 6 + 1) ∧
    (s.bup.warmStep = 3 → ∃ s', exec .warmResetQuiesceBound s = .next s' ∧ s'.bup.warmStep = 5 ∧ s'.mem.hbm = s.mem.hbm) ∧
    (s.bup.warmStep = 5 → ∃ s', exec .llcWritebackDone s = .next s' ∧ s'.bup.warmStep = 8 ∧ s'.bup.stage = 4 ∧ s'.sync = Sync.init ∧
      s'.startupHold = true ∧ s'.sched.tasks = [] ∧ (∀ r ∈ s'.reqs, r.who.tile = none) ∧ s'.od.copies = s.od.copies))

/-- RECORD_DELIVER, SEVERITY_LINE, HEARTBEAT, MGT_FAILOVER, TAKEOVER_COMPLETE, MGT_NO_CORE, NO_CORE_CONVERTER_OFF (R475–R488):
completion.
The model's own readings in it: log entries 127, 128, 129, 130. -/
def Obligations.DeliveryAndCorePair : Prop :=
  ∀ s : State,
    (∀ (r : Rec) (rs : List Rec), s.firmware = true → s.rel.queue = r :: rs → s.rel.lost = [] → s.odNat 0x2900 0x10 = 0 → s.odGet 0x2900 0x17 = 0 →
      (r.sev < 2 → s.odGet 0x1100 6 = 0 → ∃ s', exec .recordDeliver s = .next s' ∧
        s'.rel = { s.rel with queue := rs, seq := (s.rel.seq + 1) % 2 ^ 64 } ∧ s'.odGet 0x2900 0x15 = s.odGet 0x2900 0x15 + 1 ∧
        { s' with rel := s.rel, od := s.od, trc := s.trc } = s) ∧
      (r.sev < 2 → s.odGet 0x1100 6 ≠ 0 → s.odNat 0x1100 5 ≤ r.sev → s.notifyRoom = true →
        ∃ s' m, exec .recordDeliver s = .next s' ∧ s'.mgp.outbox = s.mgp.outbox ++ [m] ∧ m.command = 5 ∧ m.response = false ∧
          m.seq = s.mgp.notifySeq ∧ m.mac = s.odNat 0x1100 6 ∧ m.data = r.bytes s.rel.seq ∧ s'.mgp.notifyAt = some s.bedLosc) ∧
      (r.sev = 2 → r.cls ≠ 0x07 → r.cls ≠ 0x11 → s.odNat 0x2D30 1 = 0xFFFF → ∃ s', exec .recordDeliver s = .next s' ∧
        s'.rel = { s.rel with queue := rs, seq := (s.rel.seq + 1) % 2 ^ 64, degraded := true } ∧
        s'.odGet 0x2D30 2 = s.odGet 0x2D30 2 + 1 ∧ s'.tiles = s.tiles ∧ s'.mem = s.mem) ∧
      (r.sev = 4 → s.bup.warmStep = 0 → ∃ s', exec .recordDeliver s = .next s' ∧
        s'.rel = { s.rel with queue := rs, seq := (s.rel.seq + 1) % 2 ^ 64, fatal := true, alert := true } ∧
        s'.sched.running = false ∧ (∀ k ∈ s'.sched.tasks, k.st = .placed → k.part < 8 → k.abort ≠ none) ∧ s'.tiles = s.tiles ∧
        s'.mem = s.mem)) ∧
    (∀ (r : Rec) (rs : List Rec), s.firmware = true → s.rel.lines = r :: rs → s.rel.lost = [] → s.rel.queue.length < 960 →
      r.sev = 2 → r.cls ≠ 0x07 → r.cls ≠ 0x11 → s.odNat 0x2D30 1 = 0xFFFF → ∃ s', exec .severityLine s = .next s' ∧
        s'.rel.lines = rs ∧ s'.rel.lost = [] ∧ s'.rel.degraded = true ∧ s.tookRecord s' 0x11 0x22 2 ∧
        s'.odGet 0x2D30 2 = s.odGet 0x2D30 2 + 1 ∧ s'.tiles = s.tiles ∧ s'.mem = s.mem) ∧
    exec .heartbeat s = .next s ∧
    (s.rel.standby = true → s.rel.dead = false → s.rel.takeover = false → s.sec.signing = false →
      ∃ s', exec .mgtFailover s = .next s' ∧ s'.rel = { s.rel with takeover := true } ∧
        (∀ n < 8, (s'.region (8 + n)).urgent = true) ∧ s'.mem = s.mem ∧ s'.sched = s.sched ∧ s'.sync = s.sync ∧ s'.od = s.od) ∧
    (s.rel.takeover = true → s.rel.dead = false → s.rel.queue.length < 1024 →
      ∃ s', exec .takeoverComplete s = .next s' ∧ s'.rel.takeover = false ∧ s'.rel.standby = false ∧
        s'.rel.active = 1 - s.rel.active ∧ s.tookRecord s' 0x11 0x20 2 ∧ s'.mem = s.mem ∧ s'.sched = s.sched ∧ s'.sync = s.sync) ∧
    (s.rel.dead = false → (s.rel.standby = false ∨ s.rel.takeover = true) → s.rel.queue.length < 1024 →
      ∃ s', exec .mgtNoCore s = .next s' ∧ s'.rel.dead = true ∧ s'.rel.alert = true ∧ s.tookRecord s' 0x11 0x21 4 ∧
        s'.firmware = false ∧ { s' with rel := s.rel } = s) ∧
    (s.rel.dead = true → s.pwr.converter = true → ∃ s', exec .noCoreConverterOff s = .next s' ∧ s'.pwr.converter = false ∧
      s'.mem = Mems.init ∧ s'.reqs = [] ∧ s'.sched = Sched.init ∧ s'.rel = s.rel ∧ s'.fuses = s.fuses)

/-- SVNB, FW_SVN_RAISED, DBGU, ATPT, REPORT_SIGNED, ENDORSEMENT_READY, CAGE_PRESENCE, SIDEBAND_INPUT_CHANGE, REFERENCE_CLOCK_FAIL,
JTAG_INSTRUCTION: completion.
The model's own readings in it: log entries 110, 111, 121, 132, 133, 138. -/
def Obligations.SecurityAndPins : Prop :=
  (∀ (s s1 : State) (via : OdVia) (who : Who),
    (s.mirrorAt via 0x2F00 2 0x626E7673 s1 who → s.bup.state ≠ 5 → s.sec.burning = false → s.sec.signing = false →
      s.fuses.svnFloor < s.bup.svn → exec (.svnb via) s = .next
        (({ s1 with sec := { s1.sec with burning := true } } : State).mirrorDone who 0x2F00 2)) ∧
    (s.mirrorAt via 0x2F00 2 0x626E7673 s1 who → s.bup.state ≠ 5 → s.sec.burning = false → s.sec.signing = false →
      s.bup.svn ≤ s.fuses.svnFloor → exec (.svnb via) s = .next (s1.odEnd (.mirror who (mirrorOff 0x2F00 2)) 0x2F00 2 true OD_RANGE)) ∧
    (s.mirrorAt via 0x2F00 3 0x75676264 s1 who → s.rel.queue.length < 959 → ∃ s', exec (.dbgu via) s = .next s' ∧
      s'.sec = s.sec ∧ s'.mem = s.mem ∧ ∃ r ∈ s'.rel.queue, r.cls = 0x12 ∧ r.code = 0x13 ∧ r.sev = 0) ∧
    (s.mirrorAt via 0x2F10 2 0x74707461 s1 who → s.sec.endorsed = true → s.sec.signing = false → exec (.atpt via) s = .next
      (({ s1 with sec := { s1.sec with signing := true, repState := 1, report := s1.reportHead } } : State).mirrorDone who 0x2F10 2))) ∧
  (∀ (s : State) (eth : Eth) (ses seq : Half) (x : Session), s.accepts eth = true → s.bup.rom = false → x.role = 2 →
    let d : Deale := { command := 2, response := false, status := 0, session := ses.toNat, seq := seq.toNat, index := 0x2F00, sub := 3,
                       role := 0, offset := 0, data := leBytes 4 0x75676264, mac := eth.src.toNat }
    s.dealeNext d x → s.odCheckWrite 0x2F00 3 0x75676264 = OD_OK → s.fuses.debugLock = 1 → s.rel.queue.length < 960 →
    ∃ s', exec (.dbgu (.deale eth ses seq)) s = .next s' ∧ s.dealeDone s' d x OD_OK [] ∧ s'.sec.unlocked = true ∧ s'.debugLocked = false ∧
      s.tookRecord s' 0x12 0x12 0 ∧ { s' with sec := s.sec, rel := s.rel, mgp := s.mgp } = s ∧
      (s.sec.log.length < 8 → s'.sec.log = s.sec.log ++ [(5, hash64 (leBytes 4 0x75676264 ++ leBytes 6 eth.src.toNat))])) ∧
  (∀ s : State,
    (s.sec.burning = true → s.rel.queue.length < 960 → ∃ s', exec .fwSvnRaised s = .next s' ∧ s'.sec = { s.sec with burning := false } ∧
      s'.fuses = { s.fuses with svnFloor := max s.fuses.svnFloor s.bup.svn } ∧ s.tookRecord s' 0x12 0x11 0 ∧
      { s' with sec := s.sec, fuses := s.fuses, rel := s.rel } = s) ∧
    (s.sec.signing = true → exec (.reportSigned true) s = .next { s with sec := { s.sec with
      signing := false, repState := 2,
      report := s.sec.report ++ takeAt (Config.slhSign true s.attSeeds s.sec.report) 0 49856 } }) ∧
    (s.sec.signing = true → s.rel.queue.length < 960 → ∃ s', exec (.reportSigned false) s = .next s' ∧
      s'.sec = { s.sec with signing := false, repState := 3, report := [] } ∧ s.tookRecord s' 0x12 0x14 0 ∧
      { s' with sec := s.sec, rel := s.rel } = s) ∧
    (s.sec.endorsed = false → s.measured 4 = true → s.bup.fw = true → ∃ s', exec .endorsementReady s = .next s' ∧
      s'.sec = { s.sec with endorsed := true } ∧ { s' with sec := s.sec, od := s.od } = s) ∧
    (∀ c : Fin 16, c.val < 9 →
      (s.pins.cages.testBit c.val = false → s.bup.stage ≠ 3 → ∃ s', exec (.cagePresence c true) s = .next s' ∧
        s'.pins.cages.testBit c.val = true ∧ { s' with pins := { s'.pins with cages := s.pins.cages } } = s) ∧
      (s.pins.cages.testBit c.val = true → ∃ s', exec (.cagePresence c false) s = .next s' ∧ s'.pins.cages.testBit c.val = false ∧
        ∀ i < 4, let l := 28 + 4 * c.val + i
          (s'.link l).state = if (s.link l).state ∈ [2, 3, 4] then 1 else (s.link l).state)) ∧
    (∀ (pin : Fin 16) (level : Bool), pin.val < 10 → ∃ s', exec (.sidebandInputChange pin level) s = .next s' ∧
      s'.pins.levels.testBit pin.val = level ∧ (∀ i, i ≠ pin.val → s'.pins.levels.testBit i = s.pins.levels.testBit i) ∧
      { s' with pins := { s'.pins with levels := s.pins.levels } } = s) ∧
    (∀ ref : Fin 2, s.pins.refBad = 0 → exec (.referenceClockFail ref) s = .next { s with pins := { s.pins with
      refBad := 2 ^ ref.val, refSwitches := (s.pins.refSwitches + 1) % 2 ^ 32 } }) ∧
    (∀ ref : Fin 2, s.pins.refBad = 2 ^ (1 - ref.val) → s.rel.queue.length < 1024 → ∃ s',
      exec (.referenceClockFail ref) s = .next s' ∧ s'.pins.refBad = 3 ∧ (s.pwr.converter = true → s'.pwr.converter = false) ∧
      ∃ r ∈ s'.rel.queue, r.cls = 0x0D ∧ r.code = 0x01 ∧ r.sev = 4) ∧
    (∀ code, exec (.jtagInstruction code) s = .next { s with pins := { s.pins with
      jtag := if (s.debugLocked = true ∧ 5 < code) ∨ (code ∈ [1, 4, 5] ∧ s.bup.state ∈ [1, 2]) then 0 else code } }))

/-- HALT, HALT_COMPLETE, DBG_DRAIN_LATE, DBG_RESUME, STEP_CORE, STEP_GROUP, DBG_RDATA_READ, DBG_RDATA_WRITE (R500–R506): completion.
The model's own readings in it: log entry 3. -/
def Obligations.DebugCommands : Prop :=
  (∀ (s s1 : State) (w : Wr) (x : WrIn) (t : Fin 144), s.wrAt w s1 x → x.off = 0x103_0000_1000 + t.val * 0x1_0000 →
    let v := x.value &&& x.mask
    (v &&& 0xF = 1 → ((s.tile t.val).task.isSome = true → (s.dbg t.val).state ≠ 1 → (s.dbg t.val).state ≠ 2 →
      ∃ s', exec (.halt w) s = .next s' ∧ (s'.dbg t.val).state = 1 ∧ (s'.dbg t.val).cause = 1 ∧
        (s'.dbg t.val).ctl = x.merge (s.dbg t.val).ctl &&& 0x1_3F00 ∧ s'.mem = s.mem ∧ s'.reqs = s1.reqs ∧ s'.sync = s.sync)) ∧
    (v &&& 0xF = 2 → (s.dbg t.val).state ≠ 0 → ∃ s', exec (.dbgResume w) s = .next s' ∧ (s'.dbg t.val).state = 0 ∧
      (s'.dbg t.val).step = 0 ∧ (s'.dbg t.val).cause = 0 ∧ s'.mem = s.mem ∧ s'.reqs = s1.reqs ∧ s'.sync = s.sync) ∧
    (v &&& 0xF = 4 → ∃ s', exec (.stepCore w) s = .next s' ∧ { s' with tiles := s1.tiles } = s1 ∧
      if (s.dbg t.val).state = 2 then (s'.dbg t.val).state = 3 ∧ (s'.dbg t.val).step = 1
      else (s'.dbg t.val).state = (s.dbg t.val).state ∧ (s'.dbg t.val).notHalted = true) ∧
    (v &&& 0xF = 8 → ∃ s', exec (.stepGroup w) s = .next s' ∧ { s' with tiles := s1.tiles } = s1 ∧
      if (s.dbg t.val).state = 2 then (s'.dbg t.val).state = 3 ∧ (s'.dbg t.val).step = 2
      else (s'.dbg t.val).state = (s.dbg t.val).state ∧ (s'.dbg t.val).notHalted = true)) ∧
  (∀ (s : State) (t : Fin 144), (s.dbg t.val).state = 1 →
    (s.drained t.val = true → s.rel.queue.length < 960 → ∃ s', exec (.haltComplete t) s = .next s' ∧ (s'.dbg t.val).state = 2 ∧
      (s'.dbg t.val).halts = ((s.dbg t.val).halts + 1) % 2 ^ 32 ∧ (s'.tile t.val).core = (s.tile t.val).core ∧
      ((s.dbg t.val).cause = 2 ∨ (s.dbg t.val).cause = 3 → s.tookRecord s' 0x13 0x01 0) ∧
      ((s.dbg t.val).cause ≠ 2 → (s.dbg t.val).cause ≠ 3 → s'.rel = s.rel) ∧ s'.mem = s.mem ∧ s'.reqs = s.reqs) ∧
    ((s.dbg t.val).drainLate = false → s.rel.queue.length < 960 → ∃ s', exec (.dbgDrainLate t) s = .next s' ∧
      (s'.dbg t.val).drainLate = true ∧ (s'.dbg t.val).state = 1 ∧ s.tookRecord s' 0x13 0x02 0 ∧
      { s' with tiles := s.tiles, rel := s.rel } = s)) ∧
  (∀ (s s1 : State) (t : Fin 144) (mid : Mid) (ok : AccOk), 0x98 ≤ mid.toNat → midIssued mid.toNat = true →
    (mid.toNat = 0x0FB → s.debugLocked = false) →
    let a := (s.globalOf (0x103_0000_1038 + t.val * 0x1_0000)).toNat
    s.checkAccess mid.toNat 0 .R a 8 = .ok ok → s.enter (whoOfMid mid.toNat) ok.cls a 1 = (s1, true) →
    let sel := (s.dbg t.val).rsel
    let r := fld sel 0 7
    ∃ s' v, exec (.dbgRdataRead t mid) s = .next s' ∧
      s'.resp = s1.resp ++ [{ who := whoOfMid mid.toNat, ctx := 0, code := 0, addr := a, data := clean (leBytes 8 v) }] ∧
      ((s.dbg t.val).state = 2 → v = ((s1.rdataCheck t.val).rdataRead t.val).1.toNat ∧
        (s'.dbg t.val).notHalted = (s.dbg t.val).notHalted) ∧
      ((s.dbg t.val).state = 2 → fld sel 62 2 = 0 → v = (if r < 32 then (s.core t.val).reg r else if r = 32 then (s.core t.val).pc else 0).toNat) ∧
      ((s.dbg t.val).state = 2 → fld sel 62 2 = 1 → ∀ g, s.grp t.val (fld sel 50 6) = some g → g.vlive r (fld sel 45 5) = none →
        v = 0 ∧ (s'.dbg t.val).dead = true) ∧
      ((s.dbg t.val).state ≠ 2 → v = 0 ∧ (s'.dbg t.val).notHalted = true) ∧
      ((s.dbg t.val).state ≠ 2 ∨ fld sel 62 2 = 0 ∨ fld sel 62 2 = 3 → { s' with tiles := s1.tiles, resp := s1.resp } = s1)) ∧
  (∀ (s s1 : State) (w : Wr) (x : WrIn) (t : Fin 144), s.wrAt w s1 x → x.off = 0x103_0000_1038 + t.val * 0x1_0000 →
    ∃ s', exec (.dbgRdataWrite w) s = .next s' ∧ { s' with tiles := s1.tiles } = s1 ∧
      let sel := (s.dbg t.val).rsel
      let r := fld sel 0 7
      ((s.dbg t.val).state ≠ 2 → (s'.dbg t.val).notHalted = true ∧ (s'.tile t.val).core = (s.tile t.val).core ∧
        (s'.tile t.val).tge = (s.tile t.val).tge) ∧
      ((s.dbg t.val).state = 2 → fld sel 62 2 = 0 → r < 32 → (s'.tile t.val).tge = (s.tile t.val).tge ∧
        ∀ i, (s'.core t.val).reg i = if i = r ∧ r ≠ 0 then x.merge ((s.core t.val).reg r) else (s.core t.val).reg i) ∧
      ((s.dbg t.val).state = 2 → fld sel 62 2 = 0 → r = 32 → (s'.core t.val).pc = x.merge (s.core t.val).pc) ∧
      ((s.dbg t.val).state = 2 → fld sel 62 2 = 1 → ∀ g, s.grp t.val (fld sel 50 6) = some g → (s'.tile t.val).core = (s.tile t.val).core ∧
        ∃ g', s'.grp t.val (fld sel 50 6) = some g' ∧ g'.vlive r (fld sel 45 5) = some (BitVec.ofNat 32 (x.merge (s.rdataRead t.val).1).toNat)) ∧
      ((s.dbg t.val).state = 2 → fld sel 62 2 = 2 → r < 64 → ∀ g, s.grp t.val (fld sel 50 6) = some g →
        s'.grp t.val (fld sel 50 6) = some (g.setU r (x.merge (g.ureg r)))))

/-- TRACE_OUTPUT, DUMP_READ_START, DUMP_COMPLETE (R508, R509): completion.
The model's own readings in it: log entries 136, 137. -/
def Obligations.TraceAndDump : Prop :=
  ∀ s : State,
    (∀ (src : Nat) (r : TraceRec) (rest : List (Nat × TraceRec)), s.trc.buf = (src, r) :: rest →
      (s.odGet 0x2E01 1 = 1 → ∃ s', exec .traceOutput s = .next s' ∧ s'.trc.port = s.trc.port ++ [r] ∧ s'.trc.buf = rest ∧
        s'.trc.line = s.trc.line ∧ { s' with trc := s.trc } = s) ∧
      (s.odGet 0x2E01 1 = 2 → s.trc.stopped = false → s.odNat 0x2E01 6 ≠ 0 →
        ((s.trc.line ++ r).length < 256 → ∃ s', exec .traceOutput s = .next s' ∧ s'.trc.line = s.trc.line ++ r ∧ s'.trc.buf = rest ∧
          s'.trc.port = s.trc.port ∧ { s' with trc := s.trc } = s) ∧
        (256 ≤ (s.trc.line ++ r).length → ∃ s', exec .traceOutput s = .next s' ∧ s'.trc.line = [] ∧ s'.trc.buf = rest ∧
          s'.trc.port = s.trc.port ∧ (s'.trc.stopped = true ∨ s'.trc.ringPos = (s.trc.ringPos + 256) % 2 ^ 64)))) ∧
    (∀ d, s.trc.dump = some d →
      (mayRead (s.tile d.tile).sb d.op d.pd.tagOut false = true →
        exec .dumpReadStart s = .next { s with trc := { s.trc with reading := true } }) ∧
      (mayRead (s.tile d.tile).sb d.op d.pd.tagOut false = false → exec .dumpReadStart s = .next s) ∧
      (s.trc.reading = true → s.odGet 0x2E10 4 = 1 → (s.dumpTodo d).length + s.trc.buf.length ≤ traceCap →
        ∃ s', exec .dumpComplete s = .next s' ∧ s'.trc.dump = none ∧ s'.trc.reading = false ∧ s'.odGet 0x2E10 7 = 2) ∧
      (s.trc.reading = true → s.odGet 0x2E10 4 = 1 → s.trc.buf.length ≤ traceCap → traceCap < (s.dumpTodo d).length + s.trc.buf.length →
        ∃ s', exec .dumpComplete s = .next s' ∧ s'.trc.dump = some { d with sent := d.sent + (traceCap - s.trc.buf.length) }) ∧
      (s.trc.reading = true → s.odGet 0x2E10 4 ≠ 1 → ∃ s', exec .dumpComplete s = .next s' ∧ s'.trc.dump = none ∧
        s'.trc.reading = false ∧ (s'.odGet 0x2E10 7 = 2 ∨ s'.odGet 0x2E10 7 = 3 ∨ s'.odGet 0x2E10 7 = 4)))
end

