-- ==== Sys2Proof/Laws/SMap.lean ====
section
/-! SUPPORT. The laws of sparse tables: reading what was written, leaving the rest, keeping the canonical form. -/

namespace Sys2Proof

@[simp] theorem SMap.get_nil {α : Type} (d : α) (k : Nat) : SMap.get d ([] : SMap α) k = d := rfl
@[simp] theorem SMap.find_nil {α : Type} (k : Nat) : SMap.find ([] : SMap α) k = none := rfl

@[simp] theorem SMap.get_put_same {α : Type} (d : α) (m : SMap α) (k : Nat) (v : α) :
    SMap.get d (SMap.put m k v) k = v := by
  induction m with
  | nil => simp [SMap.put, SMap.get]
  | cons p m ih =>
    obtain ⟨j, w⟩ := p
    simp only [SMap.put]
    split
    · simp [SMap.get]
    · split
      · simp [SMap.get]
      · simp [SMap.get, *]

@[simp] theorem SMap.find_put_same {α : Type} (m : SMap α) (k : Nat) (v : α) : SMap.find (SMap.put m k v) k = some v := by
  induction m with
  | nil => simp [SMap.put, SMap.find]
  | cons p m ih =>
    obtain ⟨j, w⟩ := p
    simp only [SMap.put]
    split
    · simp [SMap.find]
    · split
      · simp [SMap.find]
      · simp [SMap.find, *]

theorem SMap.get_put_ne {α : Type} (d : α) (m : SMap α) {k i : Nat} (v : α) (h : i ≠ k) :
    SMap.get d (SMap.put m k v) i = SMap.get d m i := by
  induction m with
  | nil => simp [SMap.put, SMap.get, h]
  | cons p m ih =>
    obtain ⟨j, w⟩ := p
    simp only [SMap.put]
    split
    · simp only [SMap.get, h, if_false]
      split
      · have h1 : ¬ i = j := by omega
        have h2 : i < j := by omega
        simp [h1, h2]
      · rfl
    · split
      · subst_vars; simp [SMap.get, h]
      · simp [SMap.get, ih]

theorem SMap.get_drop_ne {α : Type} (d : α) (m : SMap α) {k i : Nat} (h : i ≠ k) :
    SMap.rising none m = true → SMap.get d (SMap.drop m k) i = SMap.get d m i := by
  have key : ∀ (m : SMap α) (l : Option Nat), SMap.rising l m = true →
      SMap.get d (SMap.drop m k) i = SMap.get d m i := by
    intro m
    induction m with
    | nil => intro _ _; rfl
    | cons p m ih =>
      obtain ⟨j, w⟩ := p
      intro l hl
      have hm : SMap.rising (some j) m = true := by
        cases l <;> simp_all [SMap.rising]
      simp only [SMap.drop]
      split
      · rfl
      · split
        · subst_vars
          simp only [SMap.get, h, if_false]
          split
          · cases m with
            | nil => rfl
            | cons q m' =>
              obtain ⟨j', w'⟩ := q
              simp only [SMap.rising, Bool.and_eq_true, decide_eq_true_eq] at hm
              have h1 : ¬ i = j' := by omega
              have h2 : i < j' := by omega
              simp [SMap.get, h1, h2]
          · rfl
        · simp [SMap.get, ih _ hm]
  exact key m none

theorem SMap.rising_put {α : Type} (m : SMap α) (k : Nat) (v : α) :
    ∀ l, (∀ i, l = some i → i < k) → SMap.rising l m = true → SMap.rising l (SMap.put m k v) = true := by
  induction m with
  | nil =>
    intro l hl _
    cases l with
    | none => rfl
    | some i => simp [SMap.put, SMap.rising, hl i rfl]
  | cons p m ih =>
    obtain ⟨j, w⟩ := p
    intro l hl hr
    have hm : SMap.rising (some j) m = true := by cases l <;> simp_all [SMap.rising]
    simp only [SMap.put]
    split
    · cases l with
      | none => simp_all [SMap.rising]
      | some i => simp_all [SMap.rising]
    · split
      · subst_vars; cases l <;> simp_all [SMap.rising]
      · have := ih (some j) (by intro i hi; cases hi; omega) hm
        cases l <;> simp_all [SMap.rising]

theorem SMap.rising_mono {α : Type} (m : SMap α) {a b : Nat} (h : a ≤ b) :
    SMap.rising (some b) m = true → SMap.rising (some a) m = true := by
  cases m with
  | nil => simp [SMap.rising]
  | cons p m =>
    obtain ⟨j, w⟩ := p
    simp only [SMap.rising, Bool.and_eq_true, decide_eq_true_eq]
    rintro ⟨h1, h2⟩; exact ⟨by omega, h2⟩

theorem SMap.rising_drop {α : Type} (m : SMap α) (k : Nat) :
    ∀ l, SMap.rising l m = true → SMap.rising l (SMap.drop m k) = true := by
  induction m with
  | nil => intro l _; cases l <;> rfl
  | cons p m ih =>
    obtain ⟨j, w⟩ := p
    intro l hr
    have hm : SMap.rising (some j) m = true := by cases l <;> simp_all [SMap.rising]
    simp only [SMap.drop]
    split
    · exact hr
    · split
      · cases l with
        | none =>
          cases m with
          | nil => rfl
          | cons q m' => obtain ⟨j', w'⟩ := q; simp_all [SMap.rising]
        | some i =>
          simp only [SMap.rising, Bool.and_eq_true, decide_eq_true_eq] at hr
          exact SMap.rising_mono m (by omega) hm
      · have := ih (some j) hm
        cases l <;> simp_all [SMap.rising]

theorem SMap.all_put {α : Type} (f : Nat × α → Bool) (m : SMap α) (k : Nat) (v : α) (hv : f (k, v) = true)
    (h : m.all f = true) : (SMap.put m k v).all f = true := by
  induction m with
  | nil => simp [SMap.put, hv]
  | cons p m ih =>
    obtain ⟨j, w⟩ := p
    simp only [List.all_cons, Bool.and_eq_true] at h
    simp only [SMap.put]
    split
    · simp [hv, h]
    · split
      · simp only [List.all_cons, Bool.and_eq_true]; exact ⟨hv, h.2⟩
      · simp only [List.all_cons, Bool.and_eq_true]; exact ⟨h.1, ih h.2⟩

theorem SMap.all_drop {α : Type} (f : Nat × α → Bool) (m : SMap α) (k : Nat)
    (h : m.all f = true) : (SMap.drop m k).all f = true := by
  induction m with
  | nil => rfl
  | cons p m ih =>
    obtain ⟨j, w⟩ := p
    simp only [List.all_cons, Bool.and_eq_true] at h
    simp only [SMap.drop]
    split
    · simp [h]
    · split
      · exact h.2
      · simp only [List.all_cons, Bool.and_eq_true]; exact ⟨h.1, ih h.2⟩

/-- Every write keeps a table canonical. -/
theorem SMap.write_wf {α : Type} [DecidableEq α] (d : α) (m : SMap α) (k : Nat) (v : α)
    (h : SMap.wf d m = true) : SMap.wf d (SMap.write d m k v) = true := by
  simp only [SMap.wf, Bool.and_eq_true] at h ⊢
  unfold SMap.write
  split
  · exact ⟨SMap.rising_drop m k _ h.1, SMap.all_drop _ m k h.2⟩
  · exact ⟨SMap.rising_put m k v none (by simp) h.1, SMap.all_put _ m k v (by simp_all) h.2⟩

theorem SMap.get_drop_same {α : Type} (d : α) (m : SMap α) (k : Nat) :
    ∀ l, SMap.rising l m = true → SMap.get d (SMap.drop m k) k = d := by
  induction m with
  | nil => intro _ _; rfl
  | cons p m ih =>
    obtain ⟨j, w⟩ := p
    intro l hl
    have hm : SMap.rising (some j) m = true := by cases l <;> simp_all [SMap.rising]
    simp only [SMap.drop]
    split
    · have h1 : ¬ k = j := by omega
      simp [SMap.get, *]
    · split
      · rename_i _ hk
        cases m with
        | nil => rfl
        | cons q m' =>
          obtain ⟨j', w'⟩ := q
          simp only [SMap.rising, Bool.and_eq_true, decide_eq_true_eq] at hm
          have h1 : ¬ k = j' := by omega
          have h2 : k < j' := by omega
          simp [SMap.get, h1, h2]
      · simp [SMap.get, *, ih _ hm]

/-- A table reads what was written. -/
theorem SMap.get_write_same {α : Type} [DecidableEq α] (d : α) (m : SMap α) (k : Nat) (v : α)
    (h : SMap.wf d m = true) : SMap.get d (SMap.write d m k v) k = v := by
  simp only [SMap.wf, Bool.and_eq_true] at h
  unfold SMap.write
  split
  · rw [SMap.get_drop_same d m k none h.1]; simp_all
  · simp

/-- A write leaves every other key. -/
theorem SMap.get_write_ne {α : Type} [DecidableEq α] (d : α) (m : SMap α) {k i : Nat} (v : α) (hne : i ≠ k)
    (h : SMap.wf d m = true) : SMap.get d (SMap.write d m k v) i = SMap.get d m i := by
  simp only [SMap.wf, Bool.and_eq_true] at h
  unfold SMap.write
  split
  · exact SMap.get_drop_ne d m hne h.1
  · exact SMap.get_put_ne d m v hne

end Sys2Proof
end

