-- ==== Sys2Proof/Laws/Mem.lean ====
section
/-! SUPPORT. Every operation over the memories keeps their canonical form, and what a byte reads as after a write. -/

namespace Sys2Proof

theorem SMap.rising_filter {α : Type} (f : Nat × α → Bool) (m : SMap α) :
    ∀ l, SMap.rising l m = true → SMap.rising l (m.filter f) = true := by
  induction m with
  | nil => intro _ _; simpa using ‹_›
  | cons p m ih =>
    obtain ⟨j, w⟩ := p
    intro l hl
    have hm : SMap.rising (some j) m = true := by cases l <;> simp_all [SMap.rising]
    have hj : ∀ i, l = some i → i < j := by
      intro i hi; subst hi; simp only [SMap.rising, Bool.and_eq_true, decide_eq_true_eq] at hl; exact hl.1
    cases hf : f (j, w) with
    | true =>
      rw [List.filter_cons_of_pos hf]
      cases l with
      | none => exact ih _ hm
      | some i => simp only [SMap.rising, Bool.and_eq_true, decide_eq_true_eq]; exact ⟨hj i rfl, ih _ hm⟩
    | false =>
      rw [List.filter_cons_of_neg (by simp [hf])]
      cases l with
      | none =>
        have h := ih _ hm
        cases hx : m.filter f with
        | nil => rfl
        | cons q m' => rw [hx] at h; simp_all [SMap.rising]
      | some i => exact SMap.rising_mono _ (Nat.le_of_lt (hj i rfl)) (ih _ hm)

theorem SMap.filter_wf {α : Type} [DecidableEq α] (d : α) (f : Nat × α → Bool) (m : SMap α)
    (h : SMap.wf d m = true) : SMap.wf d (m.filter f) = true := by
  simp only [SMap.wf, Bool.and_eq_true, List.all_eq_true] at h ⊢
  exact ⟨SMap.rising_filter f m none h.1, fun x hx => h.2 x ((List.mem_filter.1 hx).1)⟩

theorem EccMem.swept_wf : EccMem.swept.wf = true := rfl

/-- Raw stores keep the form. -/
theorem EccMem.putBytes_wf (bs : List Byte) : ∀ (m : EccMem) (a : Nat), m.wf = true → (m.putBytes a bs).wf = true := by
  induction bs with
  | nil => intro m a h; exact h
  | cons b bs ih =>
    intro m a h
    simp only [EccMem.wf, Bool.and_eq_true] at h
    refine ih _ _ ?_
    simp only [EccMem.wf, Bool.and_eq_true]
    exact ⟨SMap.write_wf 0 m.data a b h.1, h.2⟩

theorem EccMem.putRaw_wf (m : EccMem) (w : Nat) (x : W64) (c : Byte) (h : m.wf = true) : (m.putRaw w x c).wf = true := by
  have h := EccMem.putBytes_wf (leBytes 8 x.toNat) m (8 * w) h
  simp only [EccMem.wf, Bool.and_eq_true] at h
  simp only [EccMem.putRaw, EccMem.wf, Bool.and_eq_true]
  exact ⟨h.1, SMap.write_wf 0xFF _ w c h.2⟩

theorem EccMem.putWord_wf (m : EccMem) (w : Nat) (x : W64) (p : Bool) (h : m.wf = true) : (m.putWord w x p).wf = true :=
  EccMem.putRaw_wf m w x _ h

/-- Reads, which correct and poison in place (R294), keep the form. -/
theorem EccMem.readWord_wf (m : EccMem) (w : Nat) (h : m.wf = true) : (m.readWord w).2.2.1.wf = true := by
  unfold EccMem.readWord
  dsimp only
  split <;> first | exact h | exact EccMem.putWord_wf _ _ _ _ h

theorem EccMem.readWords_wf (n : Nat) : ∀ (m : EccMem) (w : Nat), m.wf = true → (EccMem.readWords m w n).2.1.wf = true := by
  induction n with
  | zero => intro m w h; exact h
  | succ n ih => intro m w h; exact ih _ _ (EccMem.readWord_wf m w h)

theorem EccMem.read_wf (m : EccMem) (a len : Nat) (h : m.wf = true) : (m.read a len).2.1.wf = true :=
  EccMem.readWords_wf _ m _ h

/-- Writes keep the form. -/
theorem EccMem.writeWord_wf (m : EccMem) (w : Nat) (us : List (Option PByte)) (h : m.wf = true) :
    (m.writeWord w us).1.wf = true := by
  unfold EccMem.writeWord
  split
  · exact h
  · split
    · exact EccMem.putWord_wf _ _ _ _ h
    · exact EccMem.putWord_wf _ _ _ _ (EccMem.readWord_wf m w h)

theorem EccMem.writeWords_wf (n : Nat) : ∀ (m : EccMem) (w : Nat) (us : List (Option PByte)), m.wf = true →
    (EccMem.writeWords m w n us).1.wf = true := by
  induction n with
  | zero => intro m w us h; exact h
  | succ n ih => intro m w us h; exact ih _ _ _ (EccMem.writeWord_wf m w _ h)

theorem EccMem.writeMasked_wf (m : EccMem) (a : Nat) (us : List (Option PByte)) (h : m.wf = true) :
    (m.writeMasked a us).1.wf = true := EccMem.writeWords_wf _ m _ _ h

theorem EccMem.write_wf (m : EccMem) (a : Nat) (bs : List PByte) (h : m.wf = true) : (m.write a bs).1.wf = true :=
  EccMem.writeMasked_wf m a _ h

/-- Sweeps and fills keep the form (R296, R300). -/
theorem EccMem.sweepWhere_wf (m : EccMem) (p : Nat → Bool) (h : m.wf = true) : (m.sweepWhere p).wf = true := by
  simp only [EccMem.wf, Bool.and_eq_true] at h
  simp only [EccMem.sweepWhere, EccMem.wf, Bool.and_eq_true]
  exact ⟨SMap.filter_wf _ _ _ h.1, SMap.filter_wf _ _ _ h.2⟩

theorem EccMem.foldl_wf {β : Type} (f : EccMem → β → EccMem) (hf : ∀ m b, m.wf = true → (f m b).wf = true) (bs : List β) :
    ∀ m : EccMem, m.wf = true → (bs.foldl f m).wf = true := by
  induction bs with
  | nil => intro m h; exact h
  | cons b bs ih => intro m h; exact ih _ (hf m b h)

theorem EccMem.poisonWord_wf (m : EccMem) (w : Nat) (h : m.wf = true) : (m.poisonWord w).wf = true :=
  EccMem.putWord_wf m w _ true h

theorem EccMem.poisonWhere_wf (m : EccMem) (p : Nat → Bool) (h : m.wf = true) : (m.poisonWhere p).wf = true :=
  EccMem.foldl_wf _ EccMem.poisonWord_wf _ m h

theorem EccMem.poisonRange_wf (m : EccMem) (lo hi : Nat) (h : m.wf = true) : (m.poisonRange lo hi).wf = true :=
  EccMem.poisonWhere_wf m _ h

theorem EccMem.fillLine_wf (m : EccMem) (L : Nat) (x : W64) (h : m.wf = true) : (m.fillLine L x).wf = true :=
  EccMem.foldl_wf (fun m i => m.putWord (L * 32 + i) x false) (fun m _ h => EccMem.putWord_wf m _ _ _ h) _ m h

@[simp] theorem leBytes_length (n v : Nat) : (leBytes n v).length = n := by
  induction n generalizing v with
  | zero => rfl
  | succ n ih => rw [leBytes, List.length_cons, ih]

/-- A raw store of bytes leaves every byte outside it. -/
theorem EccMem.putBytes_byteAt_ne (bs : List Byte) : ∀ (m : EccMem) (a i : Nat), m.wf = true → (i < a ∨ a + bs.length ≤ i) →
    (m.putBytes a bs).byteAt i = m.byteAt i := by
  induction bs with
  | nil => intro m a i _ _; rfl
  | cons b bs ih =>
    intro m a i h hi
    simp only [EccMem.wf, Bool.and_eq_true] at h
    have h' : ({ m with data := SMap.write 0 m.data a b } : EccMem).wf = true := by
      simp only [EccMem.wf, Bool.and_eq_true]; exact ⟨SMap.write_wf 0 m.data a b h.1, h.2⟩
    rw [EccMem.putBytes, ih _ _ _ h' (by simp only [List.length_cons] at hi; omega)]
    exact SMap.get_write_ne 0 m.data b (by simp only [List.length_cons] at hi; omega) h.1

theorem EccMem.putWord_byteAt_ne (m : EccMem) (w : Nat) (x : W64) (p : Bool) (i : Nat) (h : m.wf = true) (hi : i / 8 ≠ w) :
    (m.putWord w x p).byteAt i = m.byteAt i :=
  EccMem.putBytes_byteAt_ne _ m (8 * w) i h (by rw [leBytes_length]; omega)

theorem EccMem.putWord_checkAt_same (m : EccMem) (w : Nat) (x : W64) (p : Bool) (h : m.wf = true) :
    (m.putWord w x p).checkAt w = if p then checkByte x ^^^ 0xFF else checkByte x := by
  have h := EccMem.putBytes_wf (leBytes 8 x.toNat) m (8 * w) h
  simp only [EccMem.wf, Bool.and_eq_true] at h
  exact SMap.get_write_same _ _ _ _ h.2

namespace Machine

theorem Mems.wf_iff (m : Mems) : m.wf = true ↔ m.hbm.wf = true ∧ m.bed.wf = true ∧
    SMap.wf EccMem.swept m.stores = true ∧ ∀ e ∈ m.stores, e.2.wf = true := by
  simp only [Mems.wf, Bool.and_eq_true, List.all_eq_true, and_assoc]

theorem Mems.init_wf : Mems.init.wf = true := rfl

theorem Mems.store_wf {m : SMap EccMem} (h : ∀ e ∈ m, e.2.wf = true) (t : Nat) : (SMap.get EccMem.swept m t).wf = true := by
  induction m with
  | nil => rfl
  | cons p m ih =>
    obtain ⟨j, w⟩ := p
    simp only [SMap.get]
    split
    · exact h (j, w) (List.mem_cons_self ..)
    · split
      · rfl
      · exact ih (fun e he => h e (List.mem_cons_of_mem _ he))

theorem State.memAt_wf (s : State) (pl : Place) (h : s.mem.wf = true) : (s.memAt pl).wf = true := by
  rw [Mems.wf_iff] at h
  cases pl with
  | hbm _ => exact h.1
  | bed _ => exact h.2.1
  | store t _ => exact Mems.store_wf h.2.2.2 t

/-- Replacing one memory by a canonical one keeps all of them canonical. -/
theorem State.setMem_wf (s : State) (pl : Place) (m : EccMem) (h : s.mem.wf = true) (hm : m.wf = true) :
    (s.setMem pl m).mem.wf = true := by
  rw [Mems.wf_iff] at h
  cases pl with
  | hbm _ => exact (Mems.wf_iff _).2 ⟨hm, h.2⟩
  | bed _ => exact (Mems.wf_iff _).2 ⟨h.1, hm, h.2.2⟩
  | store t _ =>
    refine (Mems.wf_iff _).2 ⟨h.1, h.2.1, SMap.write_wf _ _ _ _ h.2.2.1, ?_⟩
    have h4 : s.mem.stores.all (fun e => e.2.wf) = true := List.all_eq_true.2 (fun e he => h.2.2.2 e he)
    have h5 : (SMap.write EccMem.swept s.mem.stores t m).all (fun e => e.2.wf) = true := by
      unfold SMap.write
      split
      · exact SMap.all_drop _ _ _ h4
      · exact SMap.all_put _ _ _ _ hm h4
    exact fun e he => List.all_eq_true.1 h5 e he

end Machine

end Sys2Proof
end

