-- ==== Sys2Proof/Laws/State.lean ====
section
/-! SUPPORT. The fields of a state after each named update: what an update does not write stays, and a unit reads as it was
set. One lemma for each field and update, by definition; then what the shared operations leave. -/

namespace Sys2Proof.Machine

variable (s : State)

@[simp] theorem State.setTile_pending (t : Nat) (x : Tile) : (s.setTile t x).pending = s.pending := rfl
@[simp] theorem State.setTile_free (t : Nat) (x : Tile) : (s.setTile t x).free = s.free := rfl
@[simp] theorem State.setTile_bedLosc (t : Nat) (x : Tile) : (s.setTile t x).bedLosc = s.bedLosc := rfl
@[simp] theorem State.setTile_lfLosc (t : Nat) (x : Tile) : (s.setTile t x).lfLosc = s.lfLosc := rfl
@[simp] theorem State.setTile_ufLosc (t : Nat) (x : Tile) : (s.setTile t x).ufLosc = s.ufLosc := rfl
@[simp] theorem State.setTile_act (t : Nat) (x : Tile) : (s.setTile t x).act = s.act := rfl
@[simp] theorem State.setTile_mem (t : Nat) (x : Tile) : (s.setTile t x).mem = s.mem := rfl
@[simp] theorem State.setTile_reqs (t : Nat) (x : Tile) : (s.setTile t x).reqs = s.reqs := rfl
@[simp] theorem State.setTile_nextReq (t : Nat) (x : Tile) : (s.setTile t x).nextReq = s.nextReq := rfl
@[simp] theorem State.setTile_resp (t : Nat) (x : Tile) : (s.setTile t x).resp = s.resp := rfl
@[simp] theorem State.setTile_sync (t : Nat) (x : Tile) : (s.setTile t x).sync = s.sync := rfl
@[simp] theorem State.setTile_sched (t : Nat) (x : Tile) : (s.setTile t x).sched = s.sched := rfl
@[simp] theorem State.setTile_od (t : Nat) (x : Tile) : (s.setTile t x).od = s.od := rfl
@[simp] theorem State.setTile_bed (t : Nat) (x : Tile) : (s.setTile t x).bed = s.bed := rfl
@[simp] theorem State.setTile_rel (t : Nat) (x : Tile) : (s.setTile t x).rel = s.rel := rfl
@[simp] theorem State.setTile_startupHold (t : Nat) (x : Tile) : (s.setTile t x).startupHold = s.startupHold := rfl
@[simp] theorem State.setTile_regions (t : Nat) (x : Tile) : (s.setTile t x).regions = s.regions := rfl
@[simp] theorem State.setTile_marks (t : Nat) (x : Tile) : (s.setTile t x).marks = s.marks := rfl
@[simp] theorem State.setTile_markLf (t : Nat) (x : Tile) : (s.setTile t x).markLf = s.markLf := rfl
@[simp] theorem State.setTile_markUf (t : Nat) (x : Tile) : (s.setTile t x).markUf = s.markUf := rfl
@[simp] theorem State.setTile_ports (t : Nat) (x : Tile) : (s.setTile t x).ports = s.ports := rfl
@[simp] theorem State.setTile_fab (t : Nat) (x : Tile) : (s.setTile t x).fab = s.fab := rfl
@[simp] theorem State.setTile_hild (t : Nat) (x : Tile) : (s.setTile t x).hild = s.hild := rfl
@[simp] theorem State.setTile_mgp (t : Nat) (x : Tile) : (s.setTile t x).mgp = s.mgp := rfl
@[simp] theorem State.setTile_fuses (t : Nat) (x : Tile) : (s.setTile t x).fuses = s.fuses := rfl
@[simp] theorem State.setTile_pwr (t : Nat) (x : Tile) : (s.setTile t x).pwr = s.pwr := rfl
@[simp] theorem State.setTile_thm (t : Nat) (x : Tile) : (s.setTile t x).thm = s.thm := rfl
@[simp] theorem State.setTile_bup (t : Nat) (x : Tile) : (s.setTile t x).bup = s.bup := rfl
@[simp] theorem State.setTile_sec (t : Nat) (x : Tile) : (s.setTile t x).sec = s.sec := rfl
@[simp] theorem State.setTile_trc (t : Nat) (x : Tile) : (s.setTile t x).trc = s.trc := rfl
@[simp] theorem State.setTile_pins (t : Nat) (x : Tile) : (s.setTile t x).pins = s.pins := rfl

@[simp] theorem State.updTile_pending (t : Nat) (f : Tile → Tile) : (s.updTile t f).pending = s.pending := rfl
@[simp] theorem State.updTile_free (t : Nat) (f : Tile → Tile) : (s.updTile t f).free = s.free := rfl
@[simp] theorem State.updTile_bedLosc (t : Nat) (f : Tile → Tile) : (s.updTile t f).bedLosc = s.bedLosc := rfl
@[simp] theorem State.updTile_lfLosc (t : Nat) (f : Tile → Tile) : (s.updTile t f).lfLosc = s.lfLosc := rfl
@[simp] theorem State.updTile_ufLosc (t : Nat) (f : Tile → Tile) : (s.updTile t f).ufLosc = s.ufLosc := rfl
@[simp] theorem State.updTile_act (t : Nat) (f : Tile → Tile) : (s.updTile t f).act = s.act := rfl
@[simp] theorem State.updTile_mem (t : Nat) (f : Tile → Tile) : (s.updTile t f).mem = s.mem := rfl
@[simp] theorem State.updTile_reqs (t : Nat) (f : Tile → Tile) : (s.updTile t f).reqs = s.reqs := rfl
@[simp] theorem State.updTile_nextReq (t : Nat) (f : Tile → Tile) : (s.updTile t f).nextReq = s.nextReq := rfl
@[simp] theorem State.updTile_resp (t : Nat) (f : Tile → Tile) : (s.updTile t f).resp = s.resp := rfl
@[simp] theorem State.updTile_sync (t : Nat) (f : Tile → Tile) : (s.updTile t f).sync = s.sync := rfl
@[simp] theorem State.updTile_sched (t : Nat) (f : Tile → Tile) : (s.updTile t f).sched = s.sched := rfl
@[simp] theorem State.updTile_od (t : Nat) (f : Tile → Tile) : (s.updTile t f).od = s.od := rfl
@[simp] theorem State.updTile_bed (t : Nat) (f : Tile → Tile) : (s.updTile t f).bed = s.bed := rfl
@[simp] theorem State.updTile_rel (t : Nat) (f : Tile → Tile) : (s.updTile t f).rel = s.rel := rfl
@[simp] theorem State.updTile_startupHold (t : Nat) (f : Tile → Tile) : (s.updTile t f).startupHold = s.startupHold := rfl
@[simp] theorem State.updTile_regions (t : Nat) (f : Tile → Tile) : (s.updTile t f).regions = s.regions := rfl
@[simp] theorem State.updTile_marks (t : Nat) (f : Tile → Tile) : (s.updTile t f).marks = s.marks := rfl
@[simp] theorem State.updTile_markLf (t : Nat) (f : Tile → Tile) : (s.updTile t f).markLf = s.markLf := rfl
@[simp] theorem State.updTile_markUf (t : Nat) (f : Tile → Tile) : (s.updTile t f).markUf = s.markUf := rfl
@[simp] theorem State.updTile_ports (t : Nat) (f : Tile → Tile) : (s.updTile t f).ports = s.ports := rfl
@[simp] theorem State.updTile_fab (t : Nat) (f : Tile → Tile) : (s.updTile t f).fab = s.fab := rfl
@[simp] theorem State.updTile_hild (t : Nat) (f : Tile → Tile) : (s.updTile t f).hild = s.hild := rfl
@[simp] theorem State.updTile_mgp (t : Nat) (f : Tile → Tile) : (s.updTile t f).mgp = s.mgp := rfl
@[simp] theorem State.updTile_fuses (t : Nat) (f : Tile → Tile) : (s.updTile t f).fuses = s.fuses := rfl
@[simp] theorem State.updTile_pwr (t : Nat) (f : Tile → Tile) : (s.updTile t f).pwr = s.pwr := rfl
@[simp] theorem State.updTile_thm (t : Nat) (f : Tile → Tile) : (s.updTile t f).thm = s.thm := rfl
@[simp] theorem State.updTile_bup (t : Nat) (f : Tile → Tile) : (s.updTile t f).bup = s.bup := rfl
@[simp] theorem State.updTile_sec (t : Nat) (f : Tile → Tile) : (s.updTile t f).sec = s.sec := rfl
@[simp] theorem State.updTile_trc (t : Nat) (f : Tile → Tile) : (s.updTile t f).trc = s.trc := rfl
@[simp] theorem State.updTile_pins (t : Nat) (f : Tile → Tile) : (s.updTile t f).pins = s.pins := rfl

@[simp] theorem State.updCore_pending (t : Nat) (f : Core → Core) : (s.updCore t f).pending = s.pending := rfl
@[simp] theorem State.updCore_free (t : Nat) (f : Core → Core) : (s.updCore t f).free = s.free := rfl
@[simp] theorem State.updCore_bedLosc (t : Nat) (f : Core → Core) : (s.updCore t f).bedLosc = s.bedLosc := rfl
@[simp] theorem State.updCore_lfLosc (t : Nat) (f : Core → Core) : (s.updCore t f).lfLosc = s.lfLosc := rfl
@[simp] theorem State.updCore_ufLosc (t : Nat) (f : Core → Core) : (s.updCore t f).ufLosc = s.ufLosc := rfl
@[simp] theorem State.updCore_act (t : Nat) (f : Core → Core) : (s.updCore t f).act = s.act := rfl
@[simp] theorem State.updCore_mem (t : Nat) (f : Core → Core) : (s.updCore t f).mem = s.mem := rfl
@[simp] theorem State.updCore_reqs (t : Nat) (f : Core → Core) : (s.updCore t f).reqs = s.reqs := rfl
@[simp] theorem State.updCore_nextReq (t : Nat) (f : Core → Core) : (s.updCore t f).nextReq = s.nextReq := rfl
@[simp] theorem State.updCore_resp (t : Nat) (f : Core → Core) : (s.updCore t f).resp = s.resp := rfl
@[simp] theorem State.updCore_sync (t : Nat) (f : Core → Core) : (s.updCore t f).sync = s.sync := rfl
@[simp] theorem State.updCore_sched (t : Nat) (f : Core → Core) : (s.updCore t f).sched = s.sched := rfl
@[simp] theorem State.updCore_od (t : Nat) (f : Core → Core) : (s.updCore t f).od = s.od := rfl
@[simp] theorem State.updCore_bed (t : Nat) (f : Core → Core) : (s.updCore t f).bed = s.bed := rfl
@[simp] theorem State.updCore_rel (t : Nat) (f : Core → Core) : (s.updCore t f).rel = s.rel := rfl
@[simp] theorem State.updCore_startupHold (t : Nat) (f : Core → Core) : (s.updCore t f).startupHold = s.startupHold := rfl
@[simp] theorem State.updCore_regions (t : Nat) (f : Core → Core) : (s.updCore t f).regions = s.regions := rfl
@[simp] theorem State.updCore_marks (t : Nat) (f : Core → Core) : (s.updCore t f).marks = s.marks := rfl
@[simp] theorem State.updCore_markLf (t : Nat) (f : Core → Core) : (s.updCore t f).markLf = s.markLf := rfl
@[simp] theorem State.updCore_markUf (t : Nat) (f : Core → Core) : (s.updCore t f).markUf = s.markUf := rfl
@[simp] theorem State.updCore_ports (t : Nat) (f : Core → Core) : (s.updCore t f).ports = s.ports := rfl
@[simp] theorem State.updCore_fab (t : Nat) (f : Core → Core) : (s.updCore t f).fab = s.fab := rfl
@[simp] theorem State.updCore_hild (t : Nat) (f : Core → Core) : (s.updCore t f).hild = s.hild := rfl
@[simp] theorem State.updCore_mgp (t : Nat) (f : Core → Core) : (s.updCore t f).mgp = s.mgp := rfl
@[simp] theorem State.updCore_fuses (t : Nat) (f : Core → Core) : (s.updCore t f).fuses = s.fuses := rfl
@[simp] theorem State.updCore_pwr (t : Nat) (f : Core → Core) : (s.updCore t f).pwr = s.pwr := rfl
@[simp] theorem State.updCore_thm (t : Nat) (f : Core → Core) : (s.updCore t f).thm = s.thm := rfl
@[simp] theorem State.updCore_bup (t : Nat) (f : Core → Core) : (s.updCore t f).bup = s.bup := rfl
@[simp] theorem State.updCore_sec (t : Nat) (f : Core → Core) : (s.updCore t f).sec = s.sec := rfl
@[simp] theorem State.updCore_trc (t : Nat) (f : Core → Core) : (s.updCore t f).trc = s.trc := rfl
@[simp] theorem State.updCore_pins (t : Nat) (f : Core → Core) : (s.updCore t f).pins = s.pins := rfl

@[simp] theorem State.updArr_pending (t : Nat) (f : Arr → Arr) : (s.updArr t f).pending = s.pending := rfl
@[simp] theorem State.updArr_free (t : Nat) (f : Arr → Arr) : (s.updArr t f).free = s.free := rfl
@[simp] theorem State.updArr_bedLosc (t : Nat) (f : Arr → Arr) : (s.updArr t f).bedLosc = s.bedLosc := rfl
@[simp] theorem State.updArr_lfLosc (t : Nat) (f : Arr → Arr) : (s.updArr t f).lfLosc = s.lfLosc := rfl
@[simp] theorem State.updArr_ufLosc (t : Nat) (f : Arr → Arr) : (s.updArr t f).ufLosc = s.ufLosc := rfl
@[simp] theorem State.updArr_act (t : Nat) (f : Arr → Arr) : (s.updArr t f).act = s.act := rfl
@[simp] theorem State.updArr_mem (t : Nat) (f : Arr → Arr) : (s.updArr t f).mem = s.mem := rfl
@[simp] theorem State.updArr_reqs (t : Nat) (f : Arr → Arr) : (s.updArr t f).reqs = s.reqs := rfl
@[simp] theorem State.updArr_nextReq (t : Nat) (f : Arr → Arr) : (s.updArr t f).nextReq = s.nextReq := rfl
@[simp] theorem State.updArr_resp (t : Nat) (f : Arr → Arr) : (s.updArr t f).resp = s.resp := rfl
@[simp] theorem State.updArr_sync (t : Nat) (f : Arr → Arr) : (s.updArr t f).sync = s.sync := rfl
@[simp] theorem State.updArr_sched (t : Nat) (f : Arr → Arr) : (s.updArr t f).sched = s.sched := rfl
@[simp] theorem State.updArr_od (t : Nat) (f : Arr → Arr) : (s.updArr t f).od = s.od := rfl
@[simp] theorem State.updArr_bed (t : Nat) (f : Arr → Arr) : (s.updArr t f).bed = s.bed := rfl
@[simp] theorem State.updArr_rel (t : Nat) (f : Arr → Arr) : (s.updArr t f).rel = s.rel := rfl
@[simp] theorem State.updArr_startupHold (t : Nat) (f : Arr → Arr) : (s.updArr t f).startupHold = s.startupHold := rfl
@[simp] theorem State.updArr_regions (t : Nat) (f : Arr → Arr) : (s.updArr t f).regions = s.regions := rfl
@[simp] theorem State.updArr_marks (t : Nat) (f : Arr → Arr) : (s.updArr t f).marks = s.marks := rfl
@[simp] theorem State.updArr_markLf (t : Nat) (f : Arr → Arr) : (s.updArr t f).markLf = s.markLf := rfl
@[simp] theorem State.updArr_markUf (t : Nat) (f : Arr → Arr) : (s.updArr t f).markUf = s.markUf := rfl
@[simp] theorem State.updArr_ports (t : Nat) (f : Arr → Arr) : (s.updArr t f).ports = s.ports := rfl
@[simp] theorem State.updArr_fab (t : Nat) (f : Arr → Arr) : (s.updArr t f).fab = s.fab := rfl
@[simp] theorem State.updArr_hild (t : Nat) (f : Arr → Arr) : (s.updArr t f).hild = s.hild := rfl
@[simp] theorem State.updArr_mgp (t : Nat) (f : Arr → Arr) : (s.updArr t f).mgp = s.mgp := rfl
@[simp] theorem State.updArr_fuses (t : Nat) (f : Arr → Arr) : (s.updArr t f).fuses = s.fuses := rfl
@[simp] theorem State.updArr_pwr (t : Nat) (f : Arr → Arr) : (s.updArr t f).pwr = s.pwr := rfl
@[simp] theorem State.updArr_thm (t : Nat) (f : Arr → Arr) : (s.updArr t f).thm = s.thm := rfl
@[simp] theorem State.updArr_bup (t : Nat) (f : Arr → Arr) : (s.updArr t f).bup = s.bup := rfl
@[simp] theorem State.updArr_sec (t : Nat) (f : Arr → Arr) : (s.updArr t f).sec = s.sec := rfl
@[simp] theorem State.updArr_trc (t : Nat) (f : Arr → Arr) : (s.updArr t f).trc = s.trc := rfl
@[simp] theorem State.updArr_pins (t : Nat) (f : Arr → Arr) : (s.updArr t f).pins = s.pins := rfl

@[simp] theorem State.updTge_pending (t : Nat) (f : Tge → Tge) : (s.updTge t f).pending = s.pending := rfl
@[simp] theorem State.updTge_free (t : Nat) (f : Tge → Tge) : (s.updTge t f).free = s.free := rfl
@[simp] theorem State.updTge_bedLosc (t : Nat) (f : Tge → Tge) : (s.updTge t f).bedLosc = s.bedLosc := rfl
@[simp] theorem State.updTge_lfLosc (t : Nat) (f : Tge → Tge) : (s.updTge t f).lfLosc = s.lfLosc := rfl
@[simp] theorem State.updTge_ufLosc (t : Nat) (f : Tge → Tge) : (s.updTge t f).ufLosc = s.ufLosc := rfl
@[simp] theorem State.updTge_act (t : Nat) (f : Tge → Tge) : (s.updTge t f).act = s.act := rfl
@[simp] theorem State.updTge_mem (t : Nat) (f : Tge → Tge) : (s.updTge t f).mem = s.mem := rfl
@[simp] theorem State.updTge_reqs (t : Nat) (f : Tge → Tge) : (s.updTge t f).reqs = s.reqs := rfl
@[simp] theorem State.updTge_nextReq (t : Nat) (f : Tge → Tge) : (s.updTge t f).nextReq = s.nextReq := rfl
@[simp] theorem State.updTge_resp (t : Nat) (f : Tge → Tge) : (s.updTge t f).resp = s.resp := rfl
@[simp] theorem State.updTge_sync (t : Nat) (f : Tge → Tge) : (s.updTge t f).sync = s.sync := rfl
@[simp] theorem State.updTge_sched (t : Nat) (f : Tge → Tge) : (s.updTge t f).sched = s.sched := rfl
@[simp] theorem State.updTge_od (t : Nat) (f : Tge → Tge) : (s.updTge t f).od = s.od := rfl
@[simp] theorem State.updTge_bed (t : Nat) (f : Tge → Tge) : (s.updTge t f).bed = s.bed := rfl
@[simp] theorem State.updTge_rel (t : Nat) (f : Tge → Tge) : (s.updTge t f).rel = s.rel := rfl
@[simp] theorem State.updTge_startupHold (t : Nat) (f : Tge → Tge) : (s.updTge t f).startupHold = s.startupHold := rfl
@[simp] theorem State.updTge_regions (t : Nat) (f : Tge → Tge) : (s.updTge t f).regions = s.regions := rfl
@[simp] theorem State.updTge_marks (t : Nat) (f : Tge → Tge) : (s.updTge t f).marks = s.marks := rfl
@[simp] theorem State.updTge_markLf (t : Nat) (f : Tge → Tge) : (s.updTge t f).markLf = s.markLf := rfl
@[simp] theorem State.updTge_markUf (t : Nat) (f : Tge → Tge) : (s.updTge t f).markUf = s.markUf := rfl
@[simp] theorem State.updTge_ports (t : Nat) (f : Tge → Tge) : (s.updTge t f).ports = s.ports := rfl
@[simp] theorem State.updTge_fab (t : Nat) (f : Tge → Tge) : (s.updTge t f).fab = s.fab := rfl
@[simp] theorem State.updTge_hild (t : Nat) (f : Tge → Tge) : (s.updTge t f).hild = s.hild := rfl
@[simp] theorem State.updTge_mgp (t : Nat) (f : Tge → Tge) : (s.updTge t f).mgp = s.mgp := rfl
@[simp] theorem State.updTge_fuses (t : Nat) (f : Tge → Tge) : (s.updTge t f).fuses = s.fuses := rfl
@[simp] theorem State.updTge_pwr (t : Nat) (f : Tge → Tge) : (s.updTge t f).pwr = s.pwr := rfl
@[simp] theorem State.updTge_thm (t : Nat) (f : Tge → Tge) : (s.updTge t f).thm = s.thm := rfl
@[simp] theorem State.updTge_bup (t : Nat) (f : Tge → Tge) : (s.updTge t f).bup = s.bup := rfl
@[simp] theorem State.updTge_sec (t : Nat) (f : Tge → Tge) : (s.updTge t f).sec = s.sec := rfl
@[simp] theorem State.updTge_trc (t : Nat) (f : Tge → Tge) : (s.updTge t f).trc = s.trc := rfl
@[simp] theorem State.updTge_pins (t : Nat) (f : Tge → Tge) : (s.updTge t f).pins = s.pins := rfl

@[simp] theorem State.updDbg_pending (t : Nat) (f : Dbg → Dbg) : (s.updDbg t f).pending = s.pending := rfl
@[simp] theorem State.updDbg_free (t : Nat) (f : Dbg → Dbg) : (s.updDbg t f).free = s.free := rfl
@[simp] theorem State.updDbg_bedLosc (t : Nat) (f : Dbg → Dbg) : (s.updDbg t f).bedLosc = s.bedLosc := rfl
@[simp] theorem State.updDbg_lfLosc (t : Nat) (f : Dbg → Dbg) : (s.updDbg t f).lfLosc = s.lfLosc := rfl
@[simp] theorem State.updDbg_ufLosc (t : Nat) (f : Dbg → Dbg) : (s.updDbg t f).ufLosc = s.ufLosc := rfl
@[simp] theorem State.updDbg_act (t : Nat) (f : Dbg → Dbg) : (s.updDbg t f).act = s.act := rfl
@[simp] theorem State.updDbg_mem (t : Nat) (f : Dbg → Dbg) : (s.updDbg t f).mem = s.mem := rfl
@[simp] theorem State.updDbg_reqs (t : Nat) (f : Dbg → Dbg) : (s.updDbg t f).reqs = s.reqs := rfl
@[simp] theorem State.updDbg_nextReq (t : Nat) (f : Dbg → Dbg) : (s.updDbg t f).nextReq = s.nextReq := rfl
@[simp] theorem State.updDbg_resp (t : Nat) (f : Dbg → Dbg) : (s.updDbg t f).resp = s.resp := rfl
@[simp] theorem State.updDbg_sync (t : Nat) (f : Dbg → Dbg) : (s.updDbg t f).sync = s.sync := rfl
@[simp] theorem State.updDbg_sched (t : Nat) (f : Dbg → Dbg) : (s.updDbg t f).sched = s.sched := rfl
@[simp] theorem State.updDbg_od (t : Nat) (f : Dbg → Dbg) : (s.updDbg t f).od = s.od := rfl
@[simp] theorem State.updDbg_bed (t : Nat) (f : Dbg → Dbg) : (s.updDbg t f).bed = s.bed := rfl
@[simp] theorem State.updDbg_rel (t : Nat) (f : Dbg → Dbg) : (s.updDbg t f).rel = s.rel := rfl
@[simp] theorem State.updDbg_startupHold (t : Nat) (f : Dbg → Dbg) : (s.updDbg t f).startupHold = s.startupHold := rfl
@[simp] theorem State.updDbg_regions (t : Nat) (f : Dbg → Dbg) : (s.updDbg t f).regions = s.regions := rfl
@[simp] theorem State.updDbg_marks (t : Nat) (f : Dbg → Dbg) : (s.updDbg t f).marks = s.marks := rfl
@[simp] theorem State.updDbg_markLf (t : Nat) (f : Dbg → Dbg) : (s.updDbg t f).markLf = s.markLf := rfl
@[simp] theorem State.updDbg_markUf (t : Nat) (f : Dbg → Dbg) : (s.updDbg t f).markUf = s.markUf := rfl
@[simp] theorem State.updDbg_ports (t : Nat) (f : Dbg → Dbg) : (s.updDbg t f).ports = s.ports := rfl
@[simp] theorem State.updDbg_fab (t : Nat) (f : Dbg → Dbg) : (s.updDbg t f).fab = s.fab := rfl
@[simp] theorem State.updDbg_hild (t : Nat) (f : Dbg → Dbg) : (s.updDbg t f).hild = s.hild := rfl
@[simp] theorem State.updDbg_mgp (t : Nat) (f : Dbg → Dbg) : (s.updDbg t f).mgp = s.mgp := rfl
@[simp] theorem State.updDbg_fuses (t : Nat) (f : Dbg → Dbg) : (s.updDbg t f).fuses = s.fuses := rfl
@[simp] theorem State.updDbg_pwr (t : Nat) (f : Dbg → Dbg) : (s.updDbg t f).pwr = s.pwr := rfl
@[simp] theorem State.updDbg_thm (t : Nat) (f : Dbg → Dbg) : (s.updDbg t f).thm = s.thm := rfl
@[simp] theorem State.updDbg_bup (t : Nat) (f : Dbg → Dbg) : (s.updDbg t f).bup = s.bup := rfl
@[simp] theorem State.updDbg_sec (t : Nat) (f : Dbg → Dbg) : (s.updDbg t f).sec = s.sec := rfl
@[simp] theorem State.updDbg_trc (t : Nat) (f : Dbg → Dbg) : (s.updDbg t f).trc = s.trc := rfl
@[simp] theorem State.updDbg_pins (t : Nat) (f : Dbg → Dbg) : (s.updDbg t f).pins = s.pins := rfl

@[simp] theorem State.setSlice_pending (n : Nat) (x : Slice) : (s.setSlice n x).pending = s.pending := rfl
@[simp] theorem State.setSlice_free (n : Nat) (x : Slice) : (s.setSlice n x).free = s.free := rfl
@[simp] theorem State.setSlice_bedLosc (n : Nat) (x : Slice) : (s.setSlice n x).bedLosc = s.bedLosc := rfl
@[simp] theorem State.setSlice_lfLosc (n : Nat) (x : Slice) : (s.setSlice n x).lfLosc = s.lfLosc := rfl
@[simp] theorem State.setSlice_ufLosc (n : Nat) (x : Slice) : (s.setSlice n x).ufLosc = s.ufLosc := rfl
@[simp] theorem State.setSlice_tiles (n : Nat) (x : Slice) : (s.setSlice n x).tiles = s.tiles := rfl
@[simp] theorem State.setSlice_act (n : Nat) (x : Slice) : (s.setSlice n x).act = s.act := rfl
@[simp] theorem State.setSlice_mem (n : Nat) (x : Slice) : (s.setSlice n x).mem = s.mem := rfl
@[simp] theorem State.setSlice_reqs (n : Nat) (x : Slice) : (s.setSlice n x).reqs = s.reqs := rfl
@[simp] theorem State.setSlice_nextReq (n : Nat) (x : Slice) : (s.setSlice n x).nextReq = s.nextReq := rfl
@[simp] theorem State.setSlice_resp (n : Nat) (x : Slice) : (s.setSlice n x).resp = s.resp := rfl
@[simp] theorem State.setSlice_sync (n : Nat) (x : Slice) : (s.setSlice n x).sync = s.sync := rfl
@[simp] theorem State.setSlice_sched (n : Nat) (x : Slice) : (s.setSlice n x).sched = s.sched := rfl
@[simp] theorem State.setSlice_od (n : Nat) (x : Slice) : (s.setSlice n x).od = s.od := rfl
@[simp] theorem State.setSlice_rel (n : Nat) (x : Slice) : (s.setSlice n x).rel = s.rel := rfl
@[simp] theorem State.setSlice_startupHold (n : Nat) (x : Slice) : (s.setSlice n x).startupHold = s.startupHold := rfl
@[simp] theorem State.setSlice_regions (n : Nat) (x : Slice) : (s.setSlice n x).regions = s.regions := rfl
@[simp] theorem State.setSlice_marks (n : Nat) (x : Slice) : (s.setSlice n x).marks = s.marks := rfl
@[simp] theorem State.setSlice_markLf (n : Nat) (x : Slice) : (s.setSlice n x).markLf = s.markLf := rfl
@[simp] theorem State.setSlice_markUf (n : Nat) (x : Slice) : (s.setSlice n x).markUf = s.markUf := rfl
@[simp] theorem State.setSlice_ports (n : Nat) (x : Slice) : (s.setSlice n x).ports = s.ports := rfl
@[simp] theorem State.setSlice_fab (n : Nat) (x : Slice) : (s.setSlice n x).fab = s.fab := rfl
@[simp] theorem State.setSlice_hild (n : Nat) (x : Slice) : (s.setSlice n x).hild = s.hild := rfl
@[simp] theorem State.setSlice_mgp (n : Nat) (x : Slice) : (s.setSlice n x).mgp = s.mgp := rfl
@[simp] theorem State.setSlice_fuses (n : Nat) (x : Slice) : (s.setSlice n x).fuses = s.fuses := rfl
@[simp] theorem State.setSlice_pwr (n : Nat) (x : Slice) : (s.setSlice n x).pwr = s.pwr := rfl
@[simp] theorem State.setSlice_thm (n : Nat) (x : Slice) : (s.setSlice n x).thm = s.thm := rfl
@[simp] theorem State.setSlice_bup (n : Nat) (x : Slice) : (s.setSlice n x).bup = s.bup := rfl
@[simp] theorem State.setSlice_sec (n : Nat) (x : Slice) : (s.setSlice n x).sec = s.sec := rfl
@[simp] theorem State.setSlice_trc (n : Nat) (x : Slice) : (s.setSlice n x).trc = s.trc := rfl
@[simp] theorem State.setSlice_pins (n : Nat) (x : Slice) : (s.setSlice n x).pins = s.pins := rfl

@[simp] theorem State.updSlice_pending (n : Nat) (f : Slice → Slice) : (s.updSlice n f).pending = s.pending := rfl
@[simp] theorem State.updSlice_free (n : Nat) (f : Slice → Slice) : (s.updSlice n f).free = s.free := rfl
@[simp] theorem State.updSlice_bedLosc (n : Nat) (f : Slice → Slice) : (s.updSlice n f).bedLosc = s.bedLosc := rfl
@[simp] theorem State.updSlice_lfLosc (n : Nat) (f : Slice → Slice) : (s.updSlice n f).lfLosc = s.lfLosc := rfl
@[simp] theorem State.updSlice_ufLosc (n : Nat) (f : Slice → Slice) : (s.updSlice n f).ufLosc = s.ufLosc := rfl
@[simp] theorem State.updSlice_tiles (n : Nat) (f : Slice → Slice) : (s.updSlice n f).tiles = s.tiles := rfl
@[simp] theorem State.updSlice_act (n : Nat) (f : Slice → Slice) : (s.updSlice n f).act = s.act := rfl
@[simp] theorem State.updSlice_mem (n : Nat) (f : Slice → Slice) : (s.updSlice n f).mem = s.mem := rfl
@[simp] theorem State.updSlice_reqs (n : Nat) (f : Slice → Slice) : (s.updSlice n f).reqs = s.reqs := rfl
@[simp] theorem State.updSlice_nextReq (n : Nat) (f : Slice → Slice) : (s.updSlice n f).nextReq = s.nextReq := rfl
@[simp] theorem State.updSlice_resp (n : Nat) (f : Slice → Slice) : (s.updSlice n f).resp = s.resp := rfl
@[simp] theorem State.updSlice_sync (n : Nat) (f : Slice → Slice) : (s.updSlice n f).sync = s.sync := rfl
@[simp] theorem State.updSlice_sched (n : Nat) (f : Slice → Slice) : (s.updSlice n f).sched = s.sched := rfl
@[simp] theorem State.updSlice_od (n : Nat) (f : Slice → Slice) : (s.updSlice n f).od = s.od := rfl
@[simp] theorem State.updSlice_rel (n : Nat) (f : Slice → Slice) : (s.updSlice n f).rel = s.rel := rfl
@[simp] theorem State.updSlice_startupHold (n : Nat) (f : Slice → Slice) : (s.updSlice n f).startupHold = s.startupHold := rfl
@[simp] theorem State.updSlice_regions (n : Nat) (f : Slice → Slice) : (s.updSlice n f).regions = s.regions := rfl
@[simp] theorem State.updSlice_marks (n : Nat) (f : Slice → Slice) : (s.updSlice n f).marks = s.marks := rfl
@[simp] theorem State.updSlice_markLf (n : Nat) (f : Slice → Slice) : (s.updSlice n f).markLf = s.markLf := rfl
@[simp] theorem State.updSlice_markUf (n : Nat) (f : Slice → Slice) : (s.updSlice n f).markUf = s.markUf := rfl
@[simp] theorem State.updSlice_ports (n : Nat) (f : Slice → Slice) : (s.updSlice n f).ports = s.ports := rfl
@[simp] theorem State.updSlice_fab (n : Nat) (f : Slice → Slice) : (s.updSlice n f).fab = s.fab := rfl
@[simp] theorem State.updSlice_hild (n : Nat) (f : Slice → Slice) : (s.updSlice n f).hild = s.hild := rfl
@[simp] theorem State.updSlice_mgp (n : Nat) (f : Slice → Slice) : (s.updSlice n f).mgp = s.mgp := rfl
@[simp] theorem State.updSlice_fuses (n : Nat) (f : Slice → Slice) : (s.updSlice n f).fuses = s.fuses := rfl
@[simp] theorem State.updSlice_pwr (n : Nat) (f : Slice → Slice) : (s.updSlice n f).pwr = s.pwr := rfl
@[simp] theorem State.updSlice_thm (n : Nat) (f : Slice → Slice) : (s.updSlice n f).thm = s.thm := rfl
@[simp] theorem State.updSlice_bup (n : Nat) (f : Slice → Slice) : (s.updSlice n f).bup = s.bup := rfl
@[simp] theorem State.updSlice_sec (n : Nat) (f : Slice → Slice) : (s.updSlice n f).sec = s.sec := rfl
@[simp] theorem State.updSlice_trc (n : Nat) (f : Slice → Slice) : (s.updSlice n f).trc = s.trc := rfl
@[simp] theorem State.updSlice_pins (n : Nat) (f : Slice → Slice) : (s.updSlice n f).pins = s.pins := rfl

@[simp] theorem State.setBank_pending (n : Nat) (x : Bank) : (s.setBank n x).pending = s.pending := rfl
@[simp] theorem State.setBank_free (n : Nat) (x : Bank) : (s.setBank n x).free = s.free := rfl
@[simp] theorem State.setBank_bedLosc (n : Nat) (x : Bank) : (s.setBank n x).bedLosc = s.bedLosc := rfl
@[simp] theorem State.setBank_lfLosc (n : Nat) (x : Bank) : (s.setBank n x).lfLosc = s.lfLosc := rfl
@[simp] theorem State.setBank_ufLosc (n : Nat) (x : Bank) : (s.setBank n x).ufLosc = s.ufLosc := rfl
@[simp] theorem State.setBank_tiles (n : Nat) (x : Bank) : (s.setBank n x).tiles = s.tiles := rfl
@[simp] theorem State.setBank_act (n : Nat) (x : Bank) : (s.setBank n x).act = s.act := rfl
@[simp] theorem State.setBank_mem (n : Nat) (x : Bank) : (s.setBank n x).mem = s.mem := rfl
@[simp] theorem State.setBank_reqs (n : Nat) (x : Bank) : (s.setBank n x).reqs = s.reqs := rfl
@[simp] theorem State.setBank_nextReq (n : Nat) (x : Bank) : (s.setBank n x).nextReq = s.nextReq := rfl
@[simp] theorem State.setBank_resp (n : Nat) (x : Bank) : (s.setBank n x).resp = s.resp := rfl
@[simp] theorem State.setBank_sync (n : Nat) (x : Bank) : (s.setBank n x).sync = s.sync := rfl
@[simp] theorem State.setBank_sched (n : Nat) (x : Bank) : (s.setBank n x).sched = s.sched := rfl
@[simp] theorem State.setBank_od (n : Nat) (x : Bank) : (s.setBank n x).od = s.od := rfl
@[simp] theorem State.setBank_rel (n : Nat) (x : Bank) : (s.setBank n x).rel = s.rel := rfl
@[simp] theorem State.setBank_startupHold (n : Nat) (x : Bank) : (s.setBank n x).startupHold = s.startupHold := rfl
@[simp] theorem State.setBank_regions (n : Nat) (x : Bank) : (s.setBank n x).regions = s.regions := rfl
@[simp] theorem State.setBank_marks (n : Nat) (x : Bank) : (s.setBank n x).marks = s.marks := rfl
@[simp] theorem State.setBank_markLf (n : Nat) (x : Bank) : (s.setBank n x).markLf = s.markLf := rfl
@[simp] theorem State.setBank_markUf (n : Nat) (x : Bank) : (s.setBank n x).markUf = s.markUf := rfl
@[simp] theorem State.setBank_ports (n : Nat) (x : Bank) : (s.setBank n x).ports = s.ports := rfl
@[simp] theorem State.setBank_fab (n : Nat) (x : Bank) : (s.setBank n x).fab = s.fab := rfl
@[simp] theorem State.setBank_hild (n : Nat) (x : Bank) : (s.setBank n x).hild = s.hild := rfl
@[simp] theorem State.setBank_mgp (n : Nat) (x : Bank) : (s.setBank n x).mgp = s.mgp := rfl
@[simp] theorem State.setBank_fuses (n : Nat) (x : Bank) : (s.setBank n x).fuses = s.fuses := rfl
@[simp] theorem State.setBank_pwr (n : Nat) (x : Bank) : (s.setBank n x).pwr = s.pwr := rfl
@[simp] theorem State.setBank_thm (n : Nat) (x : Bank) : (s.setBank n x).thm = s.thm := rfl
@[simp] theorem State.setBank_bup (n : Nat) (x : Bank) : (s.setBank n x).bup = s.bup := rfl
@[simp] theorem State.setBank_sec (n : Nat) (x : Bank) : (s.setBank n x).sec = s.sec := rfl
@[simp] theorem State.setBank_trc (n : Nat) (x : Bank) : (s.setBank n x).trc = s.trc := rfl
@[simp] theorem State.setBank_pins (n : Nat) (x : Bank) : (s.setBank n x).pins = s.pins := rfl

@[simp] theorem State.updBank_pending (n : Nat) (f : Bank → Bank) : (s.updBank n f).pending = s.pending := rfl
@[simp] theorem State.updBank_free (n : Nat) (f : Bank → Bank) : (s.updBank n f).free = s.free := rfl
@[simp] theorem State.updBank_bedLosc (n : Nat) (f : Bank → Bank) : (s.updBank n f).bedLosc = s.bedLosc := rfl
@[simp] theorem State.updBank_lfLosc (n : Nat) (f : Bank → Bank) : (s.updBank n f).lfLosc = s.lfLosc := rfl
@[simp] theorem State.updBank_ufLosc (n : Nat) (f : Bank → Bank) : (s.updBank n f).ufLosc = s.ufLosc := rfl
@[simp] theorem State.updBank_tiles (n : Nat) (f : Bank → Bank) : (s.updBank n f).tiles = s.tiles := rfl
@[simp] theorem State.updBank_act (n : Nat) (f : Bank → Bank) : (s.updBank n f).act = s.act := rfl
@[simp] theorem State.updBank_mem (n : Nat) (f : Bank → Bank) : (s.updBank n f).mem = s.mem := rfl
@[simp] theorem State.updBank_reqs (n : Nat) (f : Bank → Bank) : (s.updBank n f).reqs = s.reqs := rfl
@[simp] theorem State.updBank_nextReq (n : Nat) (f : Bank → Bank) : (s.updBank n f).nextReq = s.nextReq := rfl
@[simp] theorem State.updBank_resp (n : Nat) (f : Bank → Bank) : (s.updBank n f).resp = s.resp := rfl
@[simp] theorem State.updBank_sync (n : Nat) (f : Bank → Bank) : (s.updBank n f).sync = s.sync := rfl
@[simp] theorem State.updBank_sched (n : Nat) (f : Bank → Bank) : (s.updBank n f).sched = s.sched := rfl
@[simp] theorem State.updBank_od (n : Nat) (f : Bank → Bank) : (s.updBank n f).od = s.od := rfl
@[simp] theorem State.updBank_rel (n : Nat) (f : Bank → Bank) : (s.updBank n f).rel = s.rel := rfl
@[simp] theorem State.updBank_startupHold (n : Nat) (f : Bank → Bank) : (s.updBank n f).startupHold = s.startupHold := rfl
@[simp] theorem State.updBank_regions (n : Nat) (f : Bank → Bank) : (s.updBank n f).regions = s.regions := rfl
@[simp] theorem State.updBank_marks (n : Nat) (f : Bank → Bank) : (s.updBank n f).marks = s.marks := rfl
@[simp] theorem State.updBank_markLf (n : Nat) (f : Bank → Bank) : (s.updBank n f).markLf = s.markLf := rfl
@[simp] theorem State.updBank_markUf (n : Nat) (f : Bank → Bank) : (s.updBank n f).markUf = s.markUf := rfl
@[simp] theorem State.updBank_ports (n : Nat) (f : Bank → Bank) : (s.updBank n f).ports = s.ports := rfl
@[simp] theorem State.updBank_fab (n : Nat) (f : Bank → Bank) : (s.updBank n f).fab = s.fab := rfl
@[simp] theorem State.updBank_hild (n : Nat) (f : Bank → Bank) : (s.updBank n f).hild = s.hild := rfl
@[simp] theorem State.updBank_mgp (n : Nat) (f : Bank → Bank) : (s.updBank n f).mgp = s.mgp := rfl
@[simp] theorem State.updBank_fuses (n : Nat) (f : Bank → Bank) : (s.updBank n f).fuses = s.fuses := rfl
@[simp] theorem State.updBank_pwr (n : Nat) (f : Bank → Bank) : (s.updBank n f).pwr = s.pwr := rfl
@[simp] theorem State.updBank_thm (n : Nat) (f : Bank → Bank) : (s.updBank n f).thm = s.thm := rfl
@[simp] theorem State.updBank_bup (n : Nat) (f : Bank → Bank) : (s.updBank n f).bup = s.bup := rfl
@[simp] theorem State.updBank_sec (n : Nat) (f : Bank → Bank) : (s.updBank n f).sec = s.sec := rfl
@[simp] theorem State.updBank_trc (n : Nat) (f : Bank → Bank) : (s.updBank n f).trc = s.trc := rfl
@[simp] theorem State.updBank_pins (n : Nat) (f : Bank → Bank) : (s.updBank n f).pins = s.pins := rfl

@[simp] theorem State.setStack_pending (n : Nat) (x : Stack) : (s.setStack n x).pending = s.pending := rfl
@[simp] theorem State.setStack_free (n : Nat) (x : Stack) : (s.setStack n x).free = s.free := rfl
@[simp] theorem State.setStack_bedLosc (n : Nat) (x : Stack) : (s.setStack n x).bedLosc = s.bedLosc := rfl
@[simp] theorem State.setStack_lfLosc (n : Nat) (x : Stack) : (s.setStack n x).lfLosc = s.lfLosc := rfl
@[simp] theorem State.setStack_ufLosc (n : Nat) (x : Stack) : (s.setStack n x).ufLosc = s.ufLosc := rfl
@[simp] theorem State.setStack_tiles (n : Nat) (x : Stack) : (s.setStack n x).tiles = s.tiles := rfl
@[simp] theorem State.setStack_act (n : Nat) (x : Stack) : (s.setStack n x).act = s.act := rfl
@[simp] theorem State.setStack_mem (n : Nat) (x : Stack) : (s.setStack n x).mem = s.mem := rfl
@[simp] theorem State.setStack_reqs (n : Nat) (x : Stack) : (s.setStack n x).reqs = s.reqs := rfl
@[simp] theorem State.setStack_nextReq (n : Nat) (x : Stack) : (s.setStack n x).nextReq = s.nextReq := rfl
@[simp] theorem State.setStack_resp (n : Nat) (x : Stack) : (s.setStack n x).resp = s.resp := rfl
@[simp] theorem State.setStack_sync (n : Nat) (x : Stack) : (s.setStack n x).sync = s.sync := rfl
@[simp] theorem State.setStack_sched (n : Nat) (x : Stack) : (s.setStack n x).sched = s.sched := rfl
@[simp] theorem State.setStack_od (n : Nat) (x : Stack) : (s.setStack n x).od = s.od := rfl
@[simp] theorem State.setStack_rel (n : Nat) (x : Stack) : (s.setStack n x).rel = s.rel := rfl
@[simp] theorem State.setStack_startupHold (n : Nat) (x : Stack) : (s.setStack n x).startupHold = s.startupHold := rfl
@[simp] theorem State.setStack_regions (n : Nat) (x : Stack) : (s.setStack n x).regions = s.regions := rfl
@[simp] theorem State.setStack_marks (n : Nat) (x : Stack) : (s.setStack n x).marks = s.marks := rfl
@[simp] theorem State.setStack_markLf (n : Nat) (x : Stack) : (s.setStack n x).markLf = s.markLf := rfl
@[simp] theorem State.setStack_markUf (n : Nat) (x : Stack) : (s.setStack n x).markUf = s.markUf := rfl
@[simp] theorem State.setStack_ports (n : Nat) (x : Stack) : (s.setStack n x).ports = s.ports := rfl
@[simp] theorem State.setStack_fab (n : Nat) (x : Stack) : (s.setStack n x).fab = s.fab := rfl
@[simp] theorem State.setStack_hild (n : Nat) (x : Stack) : (s.setStack n x).hild = s.hild := rfl
@[simp] theorem State.setStack_mgp (n : Nat) (x : Stack) : (s.setStack n x).mgp = s.mgp := rfl
@[simp] theorem State.setStack_fuses (n : Nat) (x : Stack) : (s.setStack n x).fuses = s.fuses := rfl
@[simp] theorem State.setStack_pwr (n : Nat) (x : Stack) : (s.setStack n x).pwr = s.pwr := rfl
@[simp] theorem State.setStack_thm (n : Nat) (x : Stack) : (s.setStack n x).thm = s.thm := rfl
@[simp] theorem State.setStack_bup (n : Nat) (x : Stack) : (s.setStack n x).bup = s.bup := rfl
@[simp] theorem State.setStack_sec (n : Nat) (x : Stack) : (s.setStack n x).sec = s.sec := rfl
@[simp] theorem State.setStack_trc (n : Nat) (x : Stack) : (s.setStack n x).trc = s.trc := rfl
@[simp] theorem State.setStack_pins (n : Nat) (x : Stack) : (s.setStack n x).pins = s.pins := rfl

@[simp] theorem State.updStack_pending (n : Nat) (f : Stack → Stack) : (s.updStack n f).pending = s.pending := rfl
@[simp] theorem State.updStack_free (n : Nat) (f : Stack → Stack) : (s.updStack n f).free = s.free := rfl
@[simp] theorem State.updStack_bedLosc (n : Nat) (f : Stack → Stack) : (s.updStack n f).bedLosc = s.bedLosc := rfl
@[simp] theorem State.updStack_lfLosc (n : Nat) (f : Stack → Stack) : (s.updStack n f).lfLosc = s.lfLosc := rfl
@[simp] theorem State.updStack_ufLosc (n : Nat) (f : Stack → Stack) : (s.updStack n f).ufLosc = s.ufLosc := rfl
@[simp] theorem State.updStack_tiles (n : Nat) (f : Stack → Stack) : (s.updStack n f).tiles = s.tiles := rfl
@[simp] theorem State.updStack_act (n : Nat) (f : Stack → Stack) : (s.updStack n f).act = s.act := rfl
@[simp] theorem State.updStack_mem (n : Nat) (f : Stack → Stack) : (s.updStack n f).mem = s.mem := rfl
@[simp] theorem State.updStack_reqs (n : Nat) (f : Stack → Stack) : (s.updStack n f).reqs = s.reqs := rfl
@[simp] theorem State.updStack_nextReq (n : Nat) (f : Stack → Stack) : (s.updStack n f).nextReq = s.nextReq := rfl
@[simp] theorem State.updStack_resp (n : Nat) (f : Stack → Stack) : (s.updStack n f).resp = s.resp := rfl
@[simp] theorem State.updStack_sync (n : Nat) (f : Stack → Stack) : (s.updStack n f).sync = s.sync := rfl
@[simp] theorem State.updStack_sched (n : Nat) (f : Stack → Stack) : (s.updStack n f).sched = s.sched := rfl
@[simp] theorem State.updStack_od (n : Nat) (f : Stack → Stack) : (s.updStack n f).od = s.od := rfl
@[simp] theorem State.updStack_rel (n : Nat) (f : Stack → Stack) : (s.updStack n f).rel = s.rel := rfl
@[simp] theorem State.updStack_startupHold (n : Nat) (f : Stack → Stack) : (s.updStack n f).startupHold = s.startupHold := rfl
@[simp] theorem State.updStack_regions (n : Nat) (f : Stack → Stack) : (s.updStack n f).regions = s.regions := rfl
@[simp] theorem State.updStack_marks (n : Nat) (f : Stack → Stack) : (s.updStack n f).marks = s.marks := rfl
@[simp] theorem State.updStack_markLf (n : Nat) (f : Stack → Stack) : (s.updStack n f).markLf = s.markLf := rfl
@[simp] theorem State.updStack_markUf (n : Nat) (f : Stack → Stack) : (s.updStack n f).markUf = s.markUf := rfl
@[simp] theorem State.updStack_ports (n : Nat) (f : Stack → Stack) : (s.updStack n f).ports = s.ports := rfl
@[simp] theorem State.updStack_fab (n : Nat) (f : Stack → Stack) : (s.updStack n f).fab = s.fab := rfl
@[simp] theorem State.updStack_hild (n : Nat) (f : Stack → Stack) : (s.updStack n f).hild = s.hild := rfl
@[simp] theorem State.updStack_mgp (n : Nat) (f : Stack → Stack) : (s.updStack n f).mgp = s.mgp := rfl
@[simp] theorem State.updStack_fuses (n : Nat) (f : Stack → Stack) : (s.updStack n f).fuses = s.fuses := rfl
@[simp] theorem State.updStack_pwr (n : Nat) (f : Stack → Stack) : (s.updStack n f).pwr = s.pwr := rfl
@[simp] theorem State.updStack_thm (n : Nat) (f : Stack → Stack) : (s.updStack n f).thm = s.thm := rfl
@[simp] theorem State.updStack_bup (n : Nat) (f : Stack → Stack) : (s.updStack n f).bup = s.bup := rfl
@[simp] theorem State.updStack_sec (n : Nat) (f : Stack → Stack) : (s.updStack n f).sec = s.sec := rfl
@[simp] theorem State.updStack_trc (n : Nat) (f : Stack → Stack) : (s.updStack n f).trc = s.trc := rfl
@[simp] theorem State.updStack_pins (n : Nat) (f : Stack → Stack) : (s.updStack n f).pins = s.pins := rfl

@[simp] theorem State.setTable_pending (n : Nat) (x : ActTable) : (s.setTable n x).pending = s.pending := rfl
@[simp] theorem State.setTable_free (n : Nat) (x : ActTable) : (s.setTable n x).free = s.free := rfl
@[simp] theorem State.setTable_bedLosc (n : Nat) (x : ActTable) : (s.setTable n x).bedLosc = s.bedLosc := rfl
@[simp] theorem State.setTable_lfLosc (n : Nat) (x : ActTable) : (s.setTable n x).lfLosc = s.lfLosc := rfl
@[simp] theorem State.setTable_ufLosc (n : Nat) (x : ActTable) : (s.setTable n x).ufLosc = s.ufLosc := rfl
@[simp] theorem State.setTable_tiles (n : Nat) (x : ActTable) : (s.setTable n x).tiles = s.tiles := rfl
@[simp] theorem State.setTable_mem (n : Nat) (x : ActTable) : (s.setTable n x).mem = s.mem := rfl
@[simp] theorem State.setTable_reqs (n : Nat) (x : ActTable) : (s.setTable n x).reqs = s.reqs := rfl
@[simp] theorem State.setTable_nextReq (n : Nat) (x : ActTable) : (s.setTable n x).nextReq = s.nextReq := rfl
@[simp] theorem State.setTable_resp (n : Nat) (x : ActTable) : (s.setTable n x).resp = s.resp := rfl
@[simp] theorem State.setTable_sync (n : Nat) (x : ActTable) : (s.setTable n x).sync = s.sync := rfl
@[simp] theorem State.setTable_sched (n : Nat) (x : ActTable) : (s.setTable n x).sched = s.sched := rfl
@[simp] theorem State.setTable_od (n : Nat) (x : ActTable) : (s.setTable n x).od = s.od := rfl
@[simp] theorem State.setTable_bed (n : Nat) (x : ActTable) : (s.setTable n x).bed = s.bed := rfl
@[simp] theorem State.setTable_rel (n : Nat) (x : ActTable) : (s.setTable n x).rel = s.rel := rfl
@[simp] theorem State.setTable_startupHold (n : Nat) (x : ActTable) : (s.setTable n x).startupHold = s.startupHold := rfl
@[simp] theorem State.setTable_regions (n : Nat) (x : ActTable) : (s.setTable n x).regions = s.regions := rfl
@[simp] theorem State.setTable_marks (n : Nat) (x : ActTable) : (s.setTable n x).marks = s.marks := rfl
@[simp] theorem State.setTable_markLf (n : Nat) (x : ActTable) : (s.setTable n x).markLf = s.markLf := rfl
@[simp] theorem State.setTable_markUf (n : Nat) (x : ActTable) : (s.setTable n x).markUf = s.markUf := rfl
@[simp] theorem State.setTable_ports (n : Nat) (x : ActTable) : (s.setTable n x).ports = s.ports := rfl
@[simp] theorem State.setTable_fab (n : Nat) (x : ActTable) : (s.setTable n x).fab = s.fab := rfl
@[simp] theorem State.setTable_hild (n : Nat) (x : ActTable) : (s.setTable n x).hild = s.hild := rfl
@[simp] theorem State.setTable_mgp (n : Nat) (x : ActTable) : (s.setTable n x).mgp = s.mgp := rfl
@[simp] theorem State.setTable_fuses (n : Nat) (x : ActTable) : (s.setTable n x).fuses = s.fuses := rfl
@[simp] theorem State.setTable_pwr (n : Nat) (x : ActTable) : (s.setTable n x).pwr = s.pwr := rfl
@[simp] theorem State.setTable_thm (n : Nat) (x : ActTable) : (s.setTable n x).thm = s.thm := rfl
@[simp] theorem State.setTable_bup (n : Nat) (x : ActTable) : (s.setTable n x).bup = s.bup := rfl
@[simp] theorem State.setTable_sec (n : Nat) (x : ActTable) : (s.setTable n x).sec = s.sec := rfl
@[simp] theorem State.setTable_trc (n : Nat) (x : ActTable) : (s.setTable n x).trc = s.trc := rfl
@[simp] theorem State.setTable_pins (n : Nat) (x : ActTable) : (s.setTable n x).pins = s.pins := rfl

@[simp] theorem State.updTable_pending (n : Nat) (f : ActTable → ActTable) : (s.updTable n f).pending = s.pending := rfl
@[simp] theorem State.updTable_free (n : Nat) (f : ActTable → ActTable) : (s.updTable n f).free = s.free := rfl
@[simp] theorem State.updTable_bedLosc (n : Nat) (f : ActTable → ActTable) : (s.updTable n f).bedLosc = s.bedLosc := rfl
@[simp] theorem State.updTable_lfLosc (n : Nat) (f : ActTable → ActTable) : (s.updTable n f).lfLosc = s.lfLosc := rfl
@[simp] theorem State.updTable_ufLosc (n : Nat) (f : ActTable → ActTable) : (s.updTable n f).ufLosc = s.ufLosc := rfl
@[simp] theorem State.updTable_tiles (n : Nat) (f : ActTable → ActTable) : (s.updTable n f).tiles = s.tiles := rfl
@[simp] theorem State.updTable_mem (n : Nat) (f : ActTable → ActTable) : (s.updTable n f).mem = s.mem := rfl
@[simp] theorem State.updTable_reqs (n : Nat) (f : ActTable → ActTable) : (s.updTable n f).reqs = s.reqs := rfl
@[simp] theorem State.updTable_nextReq (n : Nat) (f : ActTable → ActTable) : (s.updTable n f).nextReq = s.nextReq := rfl
@[simp] theorem State.updTable_resp (n : Nat) (f : ActTable → ActTable) : (s.updTable n f).resp = s.resp := rfl
@[simp] theorem State.updTable_sync (n : Nat) (f : ActTable → ActTable) : (s.updTable n f).sync = s.sync := rfl
@[simp] theorem State.updTable_sched (n : Nat) (f : ActTable → ActTable) : (s.updTable n f).sched = s.sched := rfl
@[simp] theorem State.updTable_od (n : Nat) (f : ActTable → ActTable) : (s.updTable n f).od = s.od := rfl
@[simp] theorem State.updTable_bed (n : Nat) (f : ActTable → ActTable) : (s.updTable n f).bed = s.bed := rfl
@[simp] theorem State.updTable_rel (n : Nat) (f : ActTable → ActTable) : (s.updTable n f).rel = s.rel := rfl
@[simp] theorem State.updTable_startupHold (n : Nat) (f : ActTable → ActTable) : (s.updTable n f).startupHold = s.startupHold := rfl
@[simp] theorem State.updTable_regions (n : Nat) (f : ActTable → ActTable) : (s.updTable n f).regions = s.regions := rfl
@[simp] theorem State.updTable_marks (n : Nat) (f : ActTable → ActTable) : (s.updTable n f).marks = s.marks := rfl
@[simp] theorem State.updTable_markLf (n : Nat) (f : ActTable → ActTable) : (s.updTable n f).markLf = s.markLf := rfl
@[simp] theorem State.updTable_markUf (n : Nat) (f : ActTable → ActTable) : (s.updTable n f).markUf = s.markUf := rfl
@[simp] theorem State.updTable_ports (n : Nat) (f : ActTable → ActTable) : (s.updTable n f).ports = s.ports := rfl
@[simp] theorem State.updTable_fab (n : Nat) (f : ActTable → ActTable) : (s.updTable n f).fab = s.fab := rfl
@[simp] theorem State.updTable_hild (n : Nat) (f : ActTable → ActTable) : (s.updTable n f).hild = s.hild := rfl
@[simp] theorem State.updTable_mgp (n : Nat) (f : ActTable → ActTable) : (s.updTable n f).mgp = s.mgp := rfl
@[simp] theorem State.updTable_fuses (n : Nat) (f : ActTable → ActTable) : (s.updTable n f).fuses = s.fuses := rfl
@[simp] theorem State.updTable_pwr (n : Nat) (f : ActTable → ActTable) : (s.updTable n f).pwr = s.pwr := rfl
@[simp] theorem State.updTable_thm (n : Nat) (f : ActTable → ActTable) : (s.updTable n f).thm = s.thm := rfl
@[simp] theorem State.updTable_bup (n : Nat) (f : ActTable → ActTable) : (s.updTable n f).bup = s.bup := rfl
@[simp] theorem State.updTable_sec (n : Nat) (f : ActTable → ActTable) : (s.updTable n f).sec = s.sec := rfl
@[simp] theorem State.updTable_trc (n : Nat) (f : ActTable → ActTable) : (s.updTable n f).trc = s.trc := rfl
@[simp] theorem State.updTable_pins (n : Nat) (f : ActTable → ActTable) : (s.updTable n f).pins = s.pins := rfl

@[simp] theorem State.setRegion_pending (n : Nat) (x : Region) : (s.setRegion n x).pending = s.pending := rfl
@[simp] theorem State.setRegion_free (n : Nat) (x : Region) : (s.setRegion n x).free = s.free := rfl
@[simp] theorem State.setRegion_bedLosc (n : Nat) (x : Region) : (s.setRegion n x).bedLosc = s.bedLosc := rfl
@[simp] theorem State.setRegion_lfLosc (n : Nat) (x : Region) : (s.setRegion n x).lfLosc = s.lfLosc := rfl
@[simp] theorem State.setRegion_ufLosc (n : Nat) (x : Region) : (s.setRegion n x).ufLosc = s.ufLosc := rfl
@[simp] theorem State.setRegion_tiles (n : Nat) (x : Region) : (s.setRegion n x).tiles = s.tiles := rfl
@[simp] theorem State.setRegion_act (n : Nat) (x : Region) : (s.setRegion n x).act = s.act := rfl
@[simp] theorem State.setRegion_mem (n : Nat) (x : Region) : (s.setRegion n x).mem = s.mem := rfl
@[simp] theorem State.setRegion_reqs (n : Nat) (x : Region) : (s.setRegion n x).reqs = s.reqs := rfl
@[simp] theorem State.setRegion_nextReq (n : Nat) (x : Region) : (s.setRegion n x).nextReq = s.nextReq := rfl
@[simp] theorem State.setRegion_resp (n : Nat) (x : Region) : (s.setRegion n x).resp = s.resp := rfl
@[simp] theorem State.setRegion_sync (n : Nat) (x : Region) : (s.setRegion n x).sync = s.sync := rfl
@[simp] theorem State.setRegion_sched (n : Nat) (x : Region) : (s.setRegion n x).sched = s.sched := rfl
@[simp] theorem State.setRegion_od (n : Nat) (x : Region) : (s.setRegion n x).od = s.od := rfl
@[simp] theorem State.setRegion_bed (n : Nat) (x : Region) : (s.setRegion n x).bed = s.bed := rfl
@[simp] theorem State.setRegion_rel (n : Nat) (x : Region) : (s.setRegion n x).rel = s.rel := rfl
@[simp] theorem State.setRegion_startupHold (n : Nat) (x : Region) : (s.setRegion n x).startupHold = s.startupHold := rfl
@[simp] theorem State.setRegion_marks (n : Nat) (x : Region) : (s.setRegion n x).marks = s.marks := rfl
@[simp] theorem State.setRegion_markLf (n : Nat) (x : Region) : (s.setRegion n x).markLf = s.markLf := rfl
@[simp] theorem State.setRegion_markUf (n : Nat) (x : Region) : (s.setRegion n x).markUf = s.markUf := rfl
@[simp] theorem State.setRegion_ports (n : Nat) (x : Region) : (s.setRegion n x).ports = s.ports := rfl
@[simp] theorem State.setRegion_fab (n : Nat) (x : Region) : (s.setRegion n x).fab = s.fab := rfl
@[simp] theorem State.setRegion_hild (n : Nat) (x : Region) : (s.setRegion n x).hild = s.hild := rfl
@[simp] theorem State.setRegion_mgp (n : Nat) (x : Region) : (s.setRegion n x).mgp = s.mgp := rfl
@[simp] theorem State.setRegion_fuses (n : Nat) (x : Region) : (s.setRegion n x).fuses = s.fuses := rfl
@[simp] theorem State.setRegion_pwr (n : Nat) (x : Region) : (s.setRegion n x).pwr = s.pwr := rfl
@[simp] theorem State.setRegion_thm (n : Nat) (x : Region) : (s.setRegion n x).thm = s.thm := rfl
@[simp] theorem State.setRegion_bup (n : Nat) (x : Region) : (s.setRegion n x).bup = s.bup := rfl
@[simp] theorem State.setRegion_sec (n : Nat) (x : Region) : (s.setRegion n x).sec = s.sec := rfl
@[simp] theorem State.setRegion_trc (n : Nat) (x : Region) : (s.setRegion n x).trc = s.trc := rfl
@[simp] theorem State.setRegion_pins (n : Nat) (x : Region) : (s.setRegion n x).pins = s.pins := rfl

@[simp] theorem State.updRegion_pending (n : Nat) (f : Region → Region) : (s.updRegion n f).pending = s.pending := rfl
@[simp] theorem State.updRegion_free (n : Nat) (f : Region → Region) : (s.updRegion n f).free = s.free := rfl
@[simp] theorem State.updRegion_bedLosc (n : Nat) (f : Region → Region) : (s.updRegion n f).bedLosc = s.bedLosc := rfl
@[simp] theorem State.updRegion_lfLosc (n : Nat) (f : Region → Region) : (s.updRegion n f).lfLosc = s.lfLosc := rfl
@[simp] theorem State.updRegion_ufLosc (n : Nat) (f : Region → Region) : (s.updRegion n f).ufLosc = s.ufLosc := rfl
@[simp] theorem State.updRegion_tiles (n : Nat) (f : Region → Region) : (s.updRegion n f).tiles = s.tiles := rfl
@[simp] theorem State.updRegion_act (n : Nat) (f : Region → Region) : (s.updRegion n f).act = s.act := rfl
@[simp] theorem State.updRegion_mem (n : Nat) (f : Region → Region) : (s.updRegion n f).mem = s.mem := rfl
@[simp] theorem State.updRegion_reqs (n : Nat) (f : Region → Region) : (s.updRegion n f).reqs = s.reqs := rfl
@[simp] theorem State.updRegion_nextReq (n : Nat) (f : Region → Region) : (s.updRegion n f).nextReq = s.nextReq := rfl
@[simp] theorem State.updRegion_resp (n : Nat) (f : Region → Region) : (s.updRegion n f).resp = s.resp := rfl
@[simp] theorem State.updRegion_sync (n : Nat) (f : Region → Region) : (s.updRegion n f).sync = s.sync := rfl
@[simp] theorem State.updRegion_sched (n : Nat) (f : Region → Region) : (s.updRegion n f).sched = s.sched := rfl
@[simp] theorem State.updRegion_od (n : Nat) (f : Region → Region) : (s.updRegion n f).od = s.od := rfl
@[simp] theorem State.updRegion_bed (n : Nat) (f : Region → Region) : (s.updRegion n f).bed = s.bed := rfl
@[simp] theorem State.updRegion_rel (n : Nat) (f : Region → Region) : (s.updRegion n f).rel = s.rel := rfl
@[simp] theorem State.updRegion_startupHold (n : Nat) (f : Region → Region) : (s.updRegion n f).startupHold = s.startupHold := rfl
@[simp] theorem State.updRegion_marks (n : Nat) (f : Region → Region) : (s.updRegion n f).marks = s.marks := rfl
@[simp] theorem State.updRegion_markLf (n : Nat) (f : Region → Region) : (s.updRegion n f).markLf = s.markLf := rfl
@[simp] theorem State.updRegion_markUf (n : Nat) (f : Region → Region) : (s.updRegion n f).markUf = s.markUf := rfl
@[simp] theorem State.updRegion_ports (n : Nat) (f : Region → Region) : (s.updRegion n f).ports = s.ports := rfl
@[simp] theorem State.updRegion_fab (n : Nat) (f : Region → Region) : (s.updRegion n f).fab = s.fab := rfl
@[simp] theorem State.updRegion_hild (n : Nat) (f : Region → Region) : (s.updRegion n f).hild = s.hild := rfl
@[simp] theorem State.updRegion_mgp (n : Nat) (f : Region → Region) : (s.updRegion n f).mgp = s.mgp := rfl
@[simp] theorem State.updRegion_fuses (n : Nat) (f : Region → Region) : (s.updRegion n f).fuses = s.fuses := rfl
@[simp] theorem State.updRegion_pwr (n : Nat) (f : Region → Region) : (s.updRegion n f).pwr = s.pwr := rfl
@[simp] theorem State.updRegion_thm (n : Nat) (f : Region → Region) : (s.updRegion n f).thm = s.thm := rfl
@[simp] theorem State.updRegion_bup (n : Nat) (f : Region → Region) : (s.updRegion n f).bup = s.bup := rfl
@[simp] theorem State.updRegion_sec (n : Nat) (f : Region → Region) : (s.updRegion n f).sec = s.sec := rfl
@[simp] theorem State.updRegion_trc (n : Nat) (f : Region → Region) : (s.updRegion n f).trc = s.trc := rfl
@[simp] theorem State.updRegion_pins (n : Nat) (f : Region → Region) : (s.updRegion n f).pins = s.pins := rfl

@[simp] theorem State.setPart_pending (p : Nat) (x : Part) : (s.setPart p x).pending = s.pending := rfl
@[simp] theorem State.setPart_free (p : Nat) (x : Part) : (s.setPart p x).free = s.free := rfl
@[simp] theorem State.setPart_bedLosc (p : Nat) (x : Part) : (s.setPart p x).bedLosc = s.bedLosc := rfl
@[simp] theorem State.setPart_lfLosc (p : Nat) (x : Part) : (s.setPart p x).lfLosc = s.lfLosc := rfl
@[simp] theorem State.setPart_ufLosc (p : Nat) (x : Part) : (s.setPart p x).ufLosc = s.ufLosc := rfl
@[simp] theorem State.setPart_tiles (p : Nat) (x : Part) : (s.setPart p x).tiles = s.tiles := rfl
@[simp] theorem State.setPart_act (p : Nat) (x : Part) : (s.setPart p x).act = s.act := rfl
@[simp] theorem State.setPart_mem (p : Nat) (x : Part) : (s.setPart p x).mem = s.mem := rfl
@[simp] theorem State.setPart_reqs (p : Nat) (x : Part) : (s.setPart p x).reqs = s.reqs := rfl
@[simp] theorem State.setPart_nextReq (p : Nat) (x : Part) : (s.setPart p x).nextReq = s.nextReq := rfl
@[simp] theorem State.setPart_resp (p : Nat) (x : Part) : (s.setPart p x).resp = s.resp := rfl
@[simp] theorem State.setPart_sync (p : Nat) (x : Part) : (s.setPart p x).sync = s.sync := rfl
@[simp] theorem State.setPart_od (p : Nat) (x : Part) : (s.setPart p x).od = s.od := rfl
@[simp] theorem State.setPart_bed (p : Nat) (x : Part) : (s.setPart p x).bed = s.bed := rfl
@[simp] theorem State.setPart_rel (p : Nat) (x : Part) : (s.setPart p x).rel = s.rel := rfl
@[simp] theorem State.setPart_startupHold (p : Nat) (x : Part) : (s.setPart p x).startupHold = s.startupHold := rfl
@[simp] theorem State.setPart_regions (p : Nat) (x : Part) : (s.setPart p x).regions = s.regions := rfl
@[simp] theorem State.setPart_marks (p : Nat) (x : Part) : (s.setPart p x).marks = s.marks := rfl
@[simp] theorem State.setPart_markLf (p : Nat) (x : Part) : (s.setPart p x).markLf = s.markLf := rfl
@[simp] theorem State.setPart_markUf (p : Nat) (x : Part) : (s.setPart p x).markUf = s.markUf := rfl
@[simp] theorem State.setPart_ports (p : Nat) (x : Part) : (s.setPart p x).ports = s.ports := rfl
@[simp] theorem State.setPart_fab (p : Nat) (x : Part) : (s.setPart p x).fab = s.fab := rfl
@[simp] theorem State.setPart_hild (p : Nat) (x : Part) : (s.setPart p x).hild = s.hild := rfl
@[simp] theorem State.setPart_mgp (p : Nat) (x : Part) : (s.setPart p x).mgp = s.mgp := rfl
@[simp] theorem State.setPart_fuses (p : Nat) (x : Part) : (s.setPart p x).fuses = s.fuses := rfl
@[simp] theorem State.setPart_pwr (p : Nat) (x : Part) : (s.setPart p x).pwr = s.pwr := rfl
@[simp] theorem State.setPart_thm (p : Nat) (x : Part) : (s.setPart p x).thm = s.thm := rfl
@[simp] theorem State.setPart_bup (p : Nat) (x : Part) : (s.setPart p x).bup = s.bup := rfl
@[simp] theorem State.setPart_sec (p : Nat) (x : Part) : (s.setPart p x).sec = s.sec := rfl
@[simp] theorem State.setPart_trc (p : Nat) (x : Part) : (s.setPart p x).trc = s.trc := rfl
@[simp] theorem State.setPart_pins (p : Nat) (x : Part) : (s.setPart p x).pins = s.pins := rfl

@[simp] theorem State.updPart_pending (p : Nat) (f : Part → Part) : (s.updPart p f).pending = s.pending := rfl
@[simp] theorem State.updPart_free (p : Nat) (f : Part → Part) : (s.updPart p f).free = s.free := rfl
@[simp] theorem State.updPart_bedLosc (p : Nat) (f : Part → Part) : (s.updPart p f).bedLosc = s.bedLosc := rfl
@[simp] theorem State.updPart_lfLosc (p : Nat) (f : Part → Part) : (s.updPart p f).lfLosc = s.lfLosc := rfl
@[simp] theorem State.updPart_ufLosc (p : Nat) (f : Part → Part) : (s.updPart p f).ufLosc = s.ufLosc := rfl
@[simp] theorem State.updPart_tiles (p : Nat) (f : Part → Part) : (s.updPart p f).tiles = s.tiles := rfl
@[simp] theorem State.updPart_act (p : Nat) (f : Part → Part) : (s.updPart p f).act = s.act := rfl
@[simp] theorem State.updPart_mem (p : Nat) (f : Part → Part) : (s.updPart p f).mem = s.mem := rfl
@[simp] theorem State.updPart_reqs (p : Nat) (f : Part → Part) : (s.updPart p f).reqs = s.reqs := rfl
@[simp] theorem State.updPart_nextReq (p : Nat) (f : Part → Part) : (s.updPart p f).nextReq = s.nextReq := rfl
@[simp] theorem State.updPart_resp (p : Nat) (f : Part → Part) : (s.updPart p f).resp = s.resp := rfl
@[simp] theorem State.updPart_sync (p : Nat) (f : Part → Part) : (s.updPart p f).sync = s.sync := rfl
@[simp] theorem State.updPart_od (p : Nat) (f : Part → Part) : (s.updPart p f).od = s.od := rfl
@[simp] theorem State.updPart_bed (p : Nat) (f : Part → Part) : (s.updPart p f).bed = s.bed := rfl
@[simp] theorem State.updPart_rel (p : Nat) (f : Part → Part) : (s.updPart p f).rel = s.rel := rfl
@[simp] theorem State.updPart_startupHold (p : Nat) (f : Part → Part) : (s.updPart p f).startupHold = s.startupHold := rfl
@[simp] theorem State.updPart_regions (p : Nat) (f : Part → Part) : (s.updPart p f).regions = s.regions := rfl
@[simp] theorem State.updPart_marks (p : Nat) (f : Part → Part) : (s.updPart p f).marks = s.marks := rfl
@[simp] theorem State.updPart_markLf (p : Nat) (f : Part → Part) : (s.updPart p f).markLf = s.markLf := rfl
@[simp] theorem State.updPart_markUf (p : Nat) (f : Part → Part) : (s.updPart p f).markUf = s.markUf := rfl
@[simp] theorem State.updPart_ports (p : Nat) (f : Part → Part) : (s.updPart p f).ports = s.ports := rfl
@[simp] theorem State.updPart_fab (p : Nat) (f : Part → Part) : (s.updPart p f).fab = s.fab := rfl
@[simp] theorem State.updPart_hild (p : Nat) (f : Part → Part) : (s.updPart p f).hild = s.hild := rfl
@[simp] theorem State.updPart_mgp (p : Nat) (f : Part → Part) : (s.updPart p f).mgp = s.mgp := rfl
@[simp] theorem State.updPart_fuses (p : Nat) (f : Part → Part) : (s.updPart p f).fuses = s.fuses := rfl
@[simp] theorem State.updPart_pwr (p : Nat) (f : Part → Part) : (s.updPart p f).pwr = s.pwr := rfl
@[simp] theorem State.updPart_thm (p : Nat) (f : Part → Part) : (s.updPart p f).thm = s.thm := rfl
@[simp] theorem State.updPart_bup (p : Nat) (f : Part → Part) : (s.updPart p f).bup = s.bup := rfl
@[simp] theorem State.updPart_sec (p : Nat) (f : Part → Part) : (s.updPart p f).sec = s.sec := rfl
@[simp] theorem State.updPart_trc (p : Nat) (f : Part → Part) : (s.updPart p f).trc = s.trc := rfl
@[simp] theorem State.updPart_pins (p : Nat) (f : Part → Part) : (s.updPart p f).pins = s.pins := rfl

@[simp] theorem State.updTask_pending (p n : Nat) (f : Task → Task) : (s.updTask p n f).pending = s.pending := rfl
@[simp] theorem State.updTask_free (p n : Nat) (f : Task → Task) : (s.updTask p n f).free = s.free := rfl
@[simp] theorem State.updTask_bedLosc (p n : Nat) (f : Task → Task) : (s.updTask p n f).bedLosc = s.bedLosc := rfl
@[simp] theorem State.updTask_lfLosc (p n : Nat) (f : Task → Task) : (s.updTask p n f).lfLosc = s.lfLosc := rfl
@[simp] theorem State.updTask_ufLosc (p n : Nat) (f : Task → Task) : (s.updTask p n f).ufLosc = s.ufLosc := rfl
@[simp] theorem State.updTask_tiles (p n : Nat) (f : Task → Task) : (s.updTask p n f).tiles = s.tiles := rfl
@[simp] theorem State.updTask_act (p n : Nat) (f : Task → Task) : (s.updTask p n f).act = s.act := rfl
@[simp] theorem State.updTask_mem (p n : Nat) (f : Task → Task) : (s.updTask p n f).mem = s.mem := rfl
@[simp] theorem State.updTask_reqs (p n : Nat) (f : Task → Task) : (s.updTask p n f).reqs = s.reqs := rfl
@[simp] theorem State.updTask_nextReq (p n : Nat) (f : Task → Task) : (s.updTask p n f).nextReq = s.nextReq := rfl
@[simp] theorem State.updTask_resp (p n : Nat) (f : Task → Task) : (s.updTask p n f).resp = s.resp := rfl
@[simp] theorem State.updTask_sync (p n : Nat) (f : Task → Task) : (s.updTask p n f).sync = s.sync := rfl
@[simp] theorem State.updTask_od (p n : Nat) (f : Task → Task) : (s.updTask p n f).od = s.od := rfl
@[simp] theorem State.updTask_bed (p n : Nat) (f : Task → Task) : (s.updTask p n f).bed = s.bed := rfl
@[simp] theorem State.updTask_rel (p n : Nat) (f : Task → Task) : (s.updTask p n f).rel = s.rel := rfl
@[simp] theorem State.updTask_startupHold (p n : Nat) (f : Task → Task) : (s.updTask p n f).startupHold = s.startupHold := rfl
@[simp] theorem State.updTask_regions (p n : Nat) (f : Task → Task) : (s.updTask p n f).regions = s.regions := rfl
@[simp] theorem State.updTask_marks (p n : Nat) (f : Task → Task) : (s.updTask p n f).marks = s.marks := rfl
@[simp] theorem State.updTask_markLf (p n : Nat) (f : Task → Task) : (s.updTask p n f).markLf = s.markLf := rfl
@[simp] theorem State.updTask_markUf (p n : Nat) (f : Task → Task) : (s.updTask p n f).markUf = s.markUf := rfl
@[simp] theorem State.updTask_ports (p n : Nat) (f : Task → Task) : (s.updTask p n f).ports = s.ports := rfl
@[simp] theorem State.updTask_fab (p n : Nat) (f : Task → Task) : (s.updTask p n f).fab = s.fab := rfl
@[simp] theorem State.updTask_hild (p n : Nat) (f : Task → Task) : (s.updTask p n f).hild = s.hild := rfl
@[simp] theorem State.updTask_mgp (p n : Nat) (f : Task → Task) : (s.updTask p n f).mgp = s.mgp := rfl
@[simp] theorem State.updTask_fuses (p n : Nat) (f : Task → Task) : (s.updTask p n f).fuses = s.fuses := rfl
@[simp] theorem State.updTask_pwr (p n : Nat) (f : Task → Task) : (s.updTask p n f).pwr = s.pwr := rfl
@[simp] theorem State.updTask_thm (p n : Nat) (f : Task → Task) : (s.updTask p n f).thm = s.thm := rfl
@[simp] theorem State.updTask_bup (p n : Nat) (f : Task → Task) : (s.updTask p n f).bup = s.bup := rfl
@[simp] theorem State.updTask_sec (p n : Nat) (f : Task → Task) : (s.updTask p n f).sec = s.sec := rfl
@[simp] theorem State.updTask_trc (p n : Nat) (f : Task → Task) : (s.updTask p n f).trc = s.trc := rfl
@[simp] theorem State.updTask_pins (p n : Nat) (f : Task → Task) : (s.updTask p n f).pins = s.pins := rfl

@[simp] theorem State.dropTask_pending (p n : Nat) : (s.dropTask p n).pending = s.pending := rfl
@[simp] theorem State.dropTask_free (p n : Nat) : (s.dropTask p n).free = s.free := rfl
@[simp] theorem State.dropTask_bedLosc (p n : Nat) : (s.dropTask p n).bedLosc = s.bedLosc := rfl
@[simp] theorem State.dropTask_lfLosc (p n : Nat) : (s.dropTask p n).lfLosc = s.lfLosc := rfl
@[simp] theorem State.dropTask_ufLosc (p n : Nat) : (s.dropTask p n).ufLosc = s.ufLosc := rfl
@[simp] theorem State.dropTask_tiles (p n : Nat) : (s.dropTask p n).tiles = s.tiles := rfl
@[simp] theorem State.dropTask_act (p n : Nat) : (s.dropTask p n).act = s.act := rfl
@[simp] theorem State.dropTask_mem (p n : Nat) : (s.dropTask p n).mem = s.mem := rfl
@[simp] theorem State.dropTask_reqs (p n : Nat) : (s.dropTask p n).reqs = s.reqs := rfl
@[simp] theorem State.dropTask_nextReq (p n : Nat) : (s.dropTask p n).nextReq = s.nextReq := rfl
@[simp] theorem State.dropTask_resp (p n : Nat) : (s.dropTask p n).resp = s.resp := rfl
@[simp] theorem State.dropTask_sync (p n : Nat) : (s.dropTask p n).sync = s.sync := rfl
@[simp] theorem State.dropTask_od (p n : Nat) : (s.dropTask p n).od = s.od := rfl
@[simp] theorem State.dropTask_bed (p n : Nat) : (s.dropTask p n).bed = s.bed := rfl
@[simp] theorem State.dropTask_rel (p n : Nat) : (s.dropTask p n).rel = s.rel := rfl
@[simp] theorem State.dropTask_startupHold (p n : Nat) : (s.dropTask p n).startupHold = s.startupHold := rfl
@[simp] theorem State.dropTask_regions (p n : Nat) : (s.dropTask p n).regions = s.regions := rfl
@[simp] theorem State.dropTask_marks (p n : Nat) : (s.dropTask p n).marks = s.marks := rfl
@[simp] theorem State.dropTask_markLf (p n : Nat) : (s.dropTask p n).markLf = s.markLf := rfl
@[simp] theorem State.dropTask_markUf (p n : Nat) : (s.dropTask p n).markUf = s.markUf := rfl
@[simp] theorem State.dropTask_ports (p n : Nat) : (s.dropTask p n).ports = s.ports := rfl
@[simp] theorem State.dropTask_fab (p n : Nat) : (s.dropTask p n).fab = s.fab := rfl
@[simp] theorem State.dropTask_hild (p n : Nat) : (s.dropTask p n).hild = s.hild := rfl
@[simp] theorem State.dropTask_mgp (p n : Nat) : (s.dropTask p n).mgp = s.mgp := rfl
@[simp] theorem State.dropTask_fuses (p n : Nat) : (s.dropTask p n).fuses = s.fuses := rfl
@[simp] theorem State.dropTask_pwr (p n : Nat) : (s.dropTask p n).pwr = s.pwr := rfl
@[simp] theorem State.dropTask_thm (p n : Nat) : (s.dropTask p n).thm = s.thm := rfl
@[simp] theorem State.dropTask_bup (p n : Nat) : (s.dropTask p n).bup = s.bup := rfl
@[simp] theorem State.dropTask_sec (p n : Nat) : (s.dropTask p n).sec = s.sec := rfl
@[simp] theorem State.dropTask_trc (p n : Nat) : (s.dropTask p n).trc = s.trc := rfl
@[simp] theorem State.dropTask_pins (p n : Nat) : (s.dropTask p n).pins = s.pins := rfl

@[simp] theorem State.odSet_pending (i j : Nat) (v : W64) : (s.odSet i j v).pending = s.pending := rfl
@[simp] theorem State.odSet_free (i j : Nat) (v : W64) : (s.odSet i j v).free = s.free := rfl
@[simp] theorem State.odSet_bedLosc (i j : Nat) (v : W64) : (s.odSet i j v).bedLosc = s.bedLosc := rfl
@[simp] theorem State.odSet_lfLosc (i j : Nat) (v : W64) : (s.odSet i j v).lfLosc = s.lfLosc := rfl
@[simp] theorem State.odSet_ufLosc (i j : Nat) (v : W64) : (s.odSet i j v).ufLosc = s.ufLosc := rfl
@[simp] theorem State.odSet_tiles (i j : Nat) (v : W64) : (s.odSet i j v).tiles = s.tiles := rfl
@[simp] theorem State.odSet_act (i j : Nat) (v : W64) : (s.odSet i j v).act = s.act := rfl
@[simp] theorem State.odSet_mem (i j : Nat) (v : W64) : (s.odSet i j v).mem = s.mem := rfl
@[simp] theorem State.odSet_reqs (i j : Nat) (v : W64) : (s.odSet i j v).reqs = s.reqs := rfl
@[simp] theorem State.odSet_nextReq (i j : Nat) (v : W64) : (s.odSet i j v).nextReq = s.nextReq := rfl
@[simp] theorem State.odSet_resp (i j : Nat) (v : W64) : (s.odSet i j v).resp = s.resp := rfl
@[simp] theorem State.odSet_sync (i j : Nat) (v : W64) : (s.odSet i j v).sync = s.sync := rfl
@[simp] theorem State.odSet_sched (i j : Nat) (v : W64) : (s.odSet i j v).sched = s.sched := rfl
@[simp] theorem State.odSet_bed (i j : Nat) (v : W64) : (s.odSet i j v).bed = s.bed := rfl
@[simp] theorem State.odSet_rel (i j : Nat) (v : W64) : (s.odSet i j v).rel = s.rel := rfl
@[simp] theorem State.odSet_startupHold (i j : Nat) (v : W64) : (s.odSet i j v).startupHold = s.startupHold := rfl
@[simp] theorem State.odSet_regions (i j : Nat) (v : W64) : (s.odSet i j v).regions = s.regions := rfl
@[simp] theorem State.odSet_marks (i j : Nat) (v : W64) : (s.odSet i j v).marks = s.marks := rfl
@[simp] theorem State.odSet_markLf (i j : Nat) (v : W64) : (s.odSet i j v).markLf = s.markLf := rfl
@[simp] theorem State.odSet_markUf (i j : Nat) (v : W64) : (s.odSet i j v).markUf = s.markUf := rfl
@[simp] theorem State.odSet_ports (i j : Nat) (v : W64) : (s.odSet i j v).ports = s.ports := rfl
@[simp] theorem State.odSet_fab (i j : Nat) (v : W64) : (s.odSet i j v).fab = s.fab := rfl
@[simp] theorem State.odSet_hild (i j : Nat) (v : W64) : (s.odSet i j v).hild = s.hild := rfl
@[simp] theorem State.odSet_mgp (i j : Nat) (v : W64) : (s.odSet i j v).mgp = s.mgp := rfl
@[simp] theorem State.odSet_fuses (i j : Nat) (v : W64) : (s.odSet i j v).fuses = s.fuses := rfl
@[simp] theorem State.odSet_pwr (i j : Nat) (v : W64) : (s.odSet i j v).pwr = s.pwr := rfl
@[simp] theorem State.odSet_thm (i j : Nat) (v : W64) : (s.odSet i j v).thm = s.thm := rfl
@[simp] theorem State.odSet_bup (i j : Nat) (v : W64) : (s.odSet i j v).bup = s.bup := rfl
@[simp] theorem State.odSet_sec (i j : Nat) (v : W64) : (s.odSet i j v).sec = s.sec := rfl
@[simp] theorem State.odSet_trc (i j : Nat) (v : W64) : (s.odSet i j v).trc = s.trc := rfl
@[simp] theorem State.odSet_pins (i j : Nat) (v : W64) : (s.odSet i j v).pins = s.pins := rfl

@[simp] theorem State.odInc_pending (i j : Nat) : (s.odInc i j).pending = s.pending := by rw [State.odInc, State.odSet_pending]
@[simp] theorem State.odInc_free (i j : Nat) : (s.odInc i j).free = s.free := by rw [State.odInc, State.odSet_free]
@[simp] theorem State.odInc_bedLosc (i j : Nat) : (s.odInc i j).bedLosc = s.bedLosc := by rw [State.odInc, State.odSet_bedLosc]
@[simp] theorem State.odInc_lfLosc (i j : Nat) : (s.odInc i j).lfLosc = s.lfLosc := by rw [State.odInc, State.odSet_lfLosc]
@[simp] theorem State.odInc_ufLosc (i j : Nat) : (s.odInc i j).ufLosc = s.ufLosc := by rw [State.odInc, State.odSet_ufLosc]
@[simp] theorem State.odInc_tiles (i j : Nat) : (s.odInc i j).tiles = s.tiles := by rw [State.odInc, State.odSet_tiles]
@[simp] theorem State.odInc_act (i j : Nat) : (s.odInc i j).act = s.act := by rw [State.odInc, State.odSet_act]
@[simp] theorem State.odInc_mem (i j : Nat) : (s.odInc i j).mem = s.mem := by rw [State.odInc, State.odSet_mem]
@[simp] theorem State.odInc_reqs (i j : Nat) : (s.odInc i j).reqs = s.reqs := by rw [State.odInc, State.odSet_reqs]
@[simp] theorem State.odInc_nextReq (i j : Nat) : (s.odInc i j).nextReq = s.nextReq := by rw [State.odInc, State.odSet_nextReq]
@[simp] theorem State.odInc_resp (i j : Nat) : (s.odInc i j).resp = s.resp := by rw [State.odInc, State.odSet_resp]
@[simp] theorem State.odInc_sync (i j : Nat) : (s.odInc i j).sync = s.sync := by rw [State.odInc, State.odSet_sync]
@[simp] theorem State.odInc_sched (i j : Nat) : (s.odInc i j).sched = s.sched := by rw [State.odInc, State.odSet_sched]
@[simp] theorem State.odInc_bed (i j : Nat) : (s.odInc i j).bed = s.bed := by rw [State.odInc, State.odSet_bed]
@[simp] theorem State.odInc_rel (i j : Nat) : (s.odInc i j).rel = s.rel := by rw [State.odInc, State.odSet_rel]
@[simp] theorem State.odInc_startupHold (i j : Nat) : (s.odInc i j).startupHold = s.startupHold := by rw [State.odInc, State.odSet_startupHold]
@[simp] theorem State.odInc_regions (i j : Nat) : (s.odInc i j).regions = s.regions := by rw [State.odInc, State.odSet_regions]
@[simp] theorem State.odInc_marks (i j : Nat) : (s.odInc i j).marks = s.marks := by rw [State.odInc, State.odSet_marks]
@[simp] theorem State.odInc_markLf (i j : Nat) : (s.odInc i j).markLf = s.markLf := by rw [State.odInc, State.odSet_markLf]
@[simp] theorem State.odInc_markUf (i j : Nat) : (s.odInc i j).markUf = s.markUf := by rw [State.odInc, State.odSet_markUf]
@[simp] theorem State.odInc_ports (i j : Nat) : (s.odInc i j).ports = s.ports := by rw [State.odInc, State.odSet_ports]
@[simp] theorem State.odInc_fab (i j : Nat) : (s.odInc i j).fab = s.fab := by rw [State.odInc, State.odSet_fab]
@[simp] theorem State.odInc_hild (i j : Nat) : (s.odInc i j).hild = s.hild := by rw [State.odInc, State.odSet_hild]
@[simp] theorem State.odInc_mgp (i j : Nat) : (s.odInc i j).mgp = s.mgp := by rw [State.odInc, State.odSet_mgp]
@[simp] theorem State.odInc_fuses (i j : Nat) : (s.odInc i j).fuses = s.fuses := by rw [State.odInc, State.odSet_fuses]
@[simp] theorem State.odInc_pwr (i j : Nat) : (s.odInc i j).pwr = s.pwr := by rw [State.odInc, State.odSet_pwr]
@[simp] theorem State.odInc_thm (i j : Nat) : (s.odInc i j).thm = s.thm := by rw [State.odInc, State.odSet_thm]
@[simp] theorem State.odInc_bup (i j : Nat) : (s.odInc i j).bup = s.bup := by rw [State.odInc, State.odSet_bup]
@[simp] theorem State.odInc_sec (i j : Nat) : (s.odInc i j).sec = s.sec := by rw [State.odInc, State.odSet_sec]
@[simp] theorem State.odInc_trc (i j : Nat) : (s.odInc i j).trc = s.trc := by rw [State.odInc, State.odSet_trc]
@[simp] theorem State.odInc_pins (i j : Nat) : (s.odInc i j).pins = s.pins := by rw [State.odInc, State.odSet_pins]

@[simp] theorem State.addReq_pending (r : Req) : (s.addReq r).pending = s.pending := rfl
@[simp] theorem State.addReq_free (r : Req) : (s.addReq r).free = s.free := rfl
@[simp] theorem State.addReq_bedLosc (r : Req) : (s.addReq r).bedLosc = s.bedLosc := rfl
@[simp] theorem State.addReq_lfLosc (r : Req) : (s.addReq r).lfLosc = s.lfLosc := rfl
@[simp] theorem State.addReq_ufLosc (r : Req) : (s.addReq r).ufLosc = s.ufLosc := rfl
@[simp] theorem State.addReq_tiles (r : Req) : (s.addReq r).tiles = s.tiles := rfl
@[simp] theorem State.addReq_act (r : Req) : (s.addReq r).act = s.act := rfl
@[simp] theorem State.addReq_mem (r : Req) : (s.addReq r).mem = s.mem := rfl
@[simp] theorem State.addReq_resp (r : Req) : (s.addReq r).resp = s.resp := rfl
@[simp] theorem State.addReq_sync (r : Req) : (s.addReq r).sync = s.sync := rfl
@[simp] theorem State.addReq_sched (r : Req) : (s.addReq r).sched = s.sched := rfl
@[simp] theorem State.addReq_od (r : Req) : (s.addReq r).od = s.od := rfl
@[simp] theorem State.addReq_bed (r : Req) : (s.addReq r).bed = s.bed := rfl
@[simp] theorem State.addReq_rel (r : Req) : (s.addReq r).rel = s.rel := rfl
@[simp] theorem State.addReq_startupHold (r : Req) : (s.addReq r).startupHold = s.startupHold := rfl
@[simp] theorem State.addReq_regions (r : Req) : (s.addReq r).regions = s.regions := rfl
@[simp] theorem State.addReq_marks (r : Req) : (s.addReq r).marks = s.marks := rfl
@[simp] theorem State.addReq_markLf (r : Req) : (s.addReq r).markLf = s.markLf := rfl
@[simp] theorem State.addReq_markUf (r : Req) : (s.addReq r).markUf = s.markUf := rfl
@[simp] theorem State.addReq_ports (r : Req) : (s.addReq r).ports = s.ports := rfl
@[simp] theorem State.addReq_fab (r : Req) : (s.addReq r).fab = s.fab := rfl
@[simp] theorem State.addReq_hild (r : Req) : (s.addReq r).hild = s.hild := rfl
@[simp] theorem State.addReq_mgp (r : Req) : (s.addReq r).mgp = s.mgp := rfl
@[simp] theorem State.addReq_fuses (r : Req) : (s.addReq r).fuses = s.fuses := rfl
@[simp] theorem State.addReq_pwr (r : Req) : (s.addReq r).pwr = s.pwr := rfl
@[simp] theorem State.addReq_thm (r : Req) : (s.addReq r).thm = s.thm := rfl
@[simp] theorem State.addReq_bup (r : Req) : (s.addReq r).bup = s.bup := rfl
@[simp] theorem State.addReq_sec (r : Req) : (s.addReq r).sec = s.sec := rfl
@[simp] theorem State.addReq_trc (r : Req) : (s.addReq r).trc = s.trc := rfl
@[simp] theorem State.addReq_pins (r : Req) : (s.addReq r).pins = s.pins := rfl

@[simp] theorem State.updReq_pending (id : Nat) (f : Req → Req) : (s.updReq id f).pending = s.pending := rfl
@[simp] theorem State.updReq_free (id : Nat) (f : Req → Req) : (s.updReq id f).free = s.free := rfl
@[simp] theorem State.updReq_bedLosc (id : Nat) (f : Req → Req) : (s.updReq id f).bedLosc = s.bedLosc := rfl
@[simp] theorem State.updReq_lfLosc (id : Nat) (f : Req → Req) : (s.updReq id f).lfLosc = s.lfLosc := rfl
@[simp] theorem State.updReq_ufLosc (id : Nat) (f : Req → Req) : (s.updReq id f).ufLosc = s.ufLosc := rfl
@[simp] theorem State.updReq_tiles (id : Nat) (f : Req → Req) : (s.updReq id f).tiles = s.tiles := rfl
@[simp] theorem State.updReq_act (id : Nat) (f : Req → Req) : (s.updReq id f).act = s.act := rfl
@[simp] theorem State.updReq_mem (id : Nat) (f : Req → Req) : (s.updReq id f).mem = s.mem := rfl
@[simp] theorem State.updReq_nextReq (id : Nat) (f : Req → Req) : (s.updReq id f).nextReq = s.nextReq := rfl
@[simp] theorem State.updReq_resp (id : Nat) (f : Req → Req) : (s.updReq id f).resp = s.resp := rfl
@[simp] theorem State.updReq_sync (id : Nat) (f : Req → Req) : (s.updReq id f).sync = s.sync := rfl
@[simp] theorem State.updReq_sched (id : Nat) (f : Req → Req) : (s.updReq id f).sched = s.sched := rfl
@[simp] theorem State.updReq_od (id : Nat) (f : Req → Req) : (s.updReq id f).od = s.od := rfl
@[simp] theorem State.updReq_bed (id : Nat) (f : Req → Req) : (s.updReq id f).bed = s.bed := rfl
@[simp] theorem State.updReq_rel (id : Nat) (f : Req → Req) : (s.updReq id f).rel = s.rel := rfl
@[simp] theorem State.updReq_startupHold (id : Nat) (f : Req → Req) : (s.updReq id f).startupHold = s.startupHold := rfl
@[simp] theorem State.updReq_regions (id : Nat) (f : Req → Req) : (s.updReq id f).regions = s.regions := rfl
@[simp] theorem State.updReq_marks (id : Nat) (f : Req → Req) : (s.updReq id f).marks = s.marks := rfl
@[simp] theorem State.updReq_markLf (id : Nat) (f : Req → Req) : (s.updReq id f).markLf = s.markLf := rfl
@[simp] theorem State.updReq_markUf (id : Nat) (f : Req → Req) : (s.updReq id f).markUf = s.markUf := rfl
@[simp] theorem State.updReq_ports (id : Nat) (f : Req → Req) : (s.updReq id f).ports = s.ports := rfl
@[simp] theorem State.updReq_fab (id : Nat) (f : Req → Req) : (s.updReq id f).fab = s.fab := rfl
@[simp] theorem State.updReq_hild (id : Nat) (f : Req → Req) : (s.updReq id f).hild = s.hild := rfl
@[simp] theorem State.updReq_mgp (id : Nat) (f : Req → Req) : (s.updReq id f).mgp = s.mgp := rfl
@[simp] theorem State.updReq_fuses (id : Nat) (f : Req → Req) : (s.updReq id f).fuses = s.fuses := rfl
@[simp] theorem State.updReq_pwr (id : Nat) (f : Req → Req) : (s.updReq id f).pwr = s.pwr := rfl
@[simp] theorem State.updReq_thm (id : Nat) (f : Req → Req) : (s.updReq id f).thm = s.thm := rfl
@[simp] theorem State.updReq_bup (id : Nat) (f : Req → Req) : (s.updReq id f).bup = s.bup := rfl
@[simp] theorem State.updReq_sec (id : Nat) (f : Req → Req) : (s.updReq id f).sec = s.sec := rfl
@[simp] theorem State.updReq_trc (id : Nat) (f : Req → Req) : (s.updReq id f).trc = s.trc := rfl
@[simp] theorem State.updReq_pins (id : Nat) (f : Req → Req) : (s.updReq id f).pins = s.pins := rfl

@[simp] theorem State.dropReq_pending (id : Nat) : (s.dropReq id).pending = s.pending := rfl
@[simp] theorem State.dropReq_free (id : Nat) : (s.dropReq id).free = s.free := rfl
@[simp] theorem State.dropReq_bedLosc (id : Nat) : (s.dropReq id).bedLosc = s.bedLosc := rfl
@[simp] theorem State.dropReq_lfLosc (id : Nat) : (s.dropReq id).lfLosc = s.lfLosc := rfl
@[simp] theorem State.dropReq_ufLosc (id : Nat) : (s.dropReq id).ufLosc = s.ufLosc := rfl
@[simp] theorem State.dropReq_tiles (id : Nat) : (s.dropReq id).tiles = s.tiles := rfl
@[simp] theorem State.dropReq_act (id : Nat) : (s.dropReq id).act = s.act := rfl
@[simp] theorem State.dropReq_mem (id : Nat) : (s.dropReq id).mem = s.mem := rfl
@[simp] theorem State.dropReq_nextReq (id : Nat) : (s.dropReq id).nextReq = s.nextReq := rfl
@[simp] theorem State.dropReq_resp (id : Nat) : (s.dropReq id).resp = s.resp := rfl
@[simp] theorem State.dropReq_sync (id : Nat) : (s.dropReq id).sync = s.sync := rfl
@[simp] theorem State.dropReq_sched (id : Nat) : (s.dropReq id).sched = s.sched := rfl
@[simp] theorem State.dropReq_od (id : Nat) : (s.dropReq id).od = s.od := rfl
@[simp] theorem State.dropReq_bed (id : Nat) : (s.dropReq id).bed = s.bed := rfl
@[simp] theorem State.dropReq_rel (id : Nat) : (s.dropReq id).rel = s.rel := rfl
@[simp] theorem State.dropReq_startupHold (id : Nat) : (s.dropReq id).startupHold = s.startupHold := rfl
@[simp] theorem State.dropReq_regions (id : Nat) : (s.dropReq id).regions = s.regions := rfl
@[simp] theorem State.dropReq_marks (id : Nat) : (s.dropReq id).marks = s.marks := rfl
@[simp] theorem State.dropReq_markLf (id : Nat) : (s.dropReq id).markLf = s.markLf := rfl
@[simp] theorem State.dropReq_markUf (id : Nat) : (s.dropReq id).markUf = s.markUf := rfl
@[simp] theorem State.dropReq_ports (id : Nat) : (s.dropReq id).ports = s.ports := rfl
@[simp] theorem State.dropReq_fab (id : Nat) : (s.dropReq id).fab = s.fab := rfl
@[simp] theorem State.dropReq_hild (id : Nat) : (s.dropReq id).hild = s.hild := rfl
@[simp] theorem State.dropReq_mgp (id : Nat) : (s.dropReq id).mgp = s.mgp := rfl
@[simp] theorem State.dropReq_fuses (id : Nat) : (s.dropReq id).fuses = s.fuses := rfl
@[simp] theorem State.dropReq_pwr (id : Nat) : (s.dropReq id).pwr = s.pwr := rfl
@[simp] theorem State.dropReq_thm (id : Nat) : (s.dropReq id).thm = s.thm := rfl
@[simp] theorem State.dropReq_bup (id : Nat) : (s.dropReq id).bup = s.bup := rfl
@[simp] theorem State.dropReq_sec (id : Nat) : (s.dropReq id).sec = s.sec := rfl
@[simp] theorem State.dropReq_trc (id : Nat) : (s.dropReq id).trc = s.trc := rfl
@[simp] theorem State.dropReq_pins (id : Nat) : (s.dropReq id).pins = s.pins := rfl

@[simp] theorem State.spoil_pending (r : Rec) : (s.spoil r).pending = s.pending := rfl
@[simp] theorem State.spoil_free (r : Rec) : (s.spoil r).free = s.free := rfl
@[simp] theorem State.spoil_bedLosc (r : Rec) : (s.spoil r).bedLosc = s.bedLosc := rfl
@[simp] theorem State.spoil_lfLosc (r : Rec) : (s.spoil r).lfLosc = s.lfLosc := rfl
@[simp] theorem State.spoil_ufLosc (r : Rec) : (s.spoil r).ufLosc = s.ufLosc := rfl
@[simp] theorem State.spoil_tiles (r : Rec) : (s.spoil r).tiles = s.tiles := rfl
@[simp] theorem State.spoil_act (r : Rec) : (s.spoil r).act = s.act := rfl
@[simp] theorem State.spoil_mem (r : Rec) : (s.spoil r).mem = s.mem := rfl
@[simp] theorem State.spoil_reqs (r : Rec) : (s.spoil r).reqs = s.reqs := rfl
@[simp] theorem State.spoil_nextReq (r : Rec) : (s.spoil r).nextReq = s.nextReq := rfl
@[simp] theorem State.spoil_resp (r : Rec) : (s.spoil r).resp = s.resp := rfl
@[simp] theorem State.spoil_sync (r : Rec) : (s.spoil r).sync = s.sync := rfl
@[simp] theorem State.spoil_sched (r : Rec) : (s.spoil r).sched = s.sched := rfl
@[simp] theorem State.spoil_od (r : Rec) : (s.spoil r).od = s.od := rfl
@[simp] theorem State.spoil_bed (r : Rec) : (s.spoil r).bed = s.bed := rfl
@[simp] theorem State.spoil_startupHold (r : Rec) : (s.spoil r).startupHold = s.startupHold := rfl
@[simp] theorem State.spoil_regions (r : Rec) : (s.spoil r).regions = s.regions := rfl
@[simp] theorem State.spoil_marks (r : Rec) : (s.spoil r).marks = s.marks := rfl
@[simp] theorem State.spoil_markLf (r : Rec) : (s.spoil r).markLf = s.markLf := rfl
@[simp] theorem State.spoil_markUf (r : Rec) : (s.spoil r).markUf = s.markUf := rfl
@[simp] theorem State.spoil_ports (r : Rec) : (s.spoil r).ports = s.ports := rfl
@[simp] theorem State.spoil_fab (r : Rec) : (s.spoil r).fab = s.fab := rfl
@[simp] theorem State.spoil_hild (r : Rec) : (s.spoil r).hild = s.hild := rfl
@[simp] theorem State.spoil_mgp (r : Rec) : (s.spoil r).mgp = s.mgp := rfl
@[simp] theorem State.spoil_fuses (r : Rec) : (s.spoil r).fuses = s.fuses := rfl
@[simp] theorem State.spoil_pwr (r : Rec) : (s.spoil r).pwr = s.pwr := rfl
@[simp] theorem State.spoil_thm (r : Rec) : (s.spoil r).thm = s.thm := rfl
@[simp] theorem State.spoil_bup (r : Rec) : (s.spoil r).bup = s.bup := rfl
@[simp] theorem State.spoil_sec (r : Rec) : (s.spoil r).sec = s.sec := rfl
@[simp] theorem State.spoil_trc (r : Rec) : (s.spoil r).trc = s.trc := rfl
@[simp] theorem State.spoil_pins (r : Rec) : (s.spoil r).pins = s.pins := rfl

@[simp] theorem State.setPort_pending (n : Nat) (p : Port) : (s.setPort n p).pending = s.pending := rfl
@[simp] theorem State.setPort_free (n : Nat) (p : Port) : (s.setPort n p).free = s.free := rfl
@[simp] theorem State.setPort_bedLosc (n : Nat) (p : Port) : (s.setPort n p).bedLosc = s.bedLosc := rfl
@[simp] theorem State.setPort_lfLosc (n : Nat) (p : Port) : (s.setPort n p).lfLosc = s.lfLosc := rfl
@[simp] theorem State.setPort_ufLosc (n : Nat) (p : Port) : (s.setPort n p).ufLosc = s.ufLosc := rfl
@[simp] theorem State.setPort_tiles (n : Nat) (p : Port) : (s.setPort n p).tiles = s.tiles := rfl
@[simp] theorem State.setPort_act (n : Nat) (p : Port) : (s.setPort n p).act = s.act := rfl
@[simp] theorem State.setPort_mem (n : Nat) (p : Port) : (s.setPort n p).mem = s.mem := rfl
@[simp] theorem State.setPort_reqs (n : Nat) (p : Port) : (s.setPort n p).reqs = s.reqs := rfl
@[simp] theorem State.setPort_nextReq (n : Nat) (p : Port) : (s.setPort n p).nextReq = s.nextReq := rfl
@[simp] theorem State.setPort_resp (n : Nat) (p : Port) : (s.setPort n p).resp = s.resp := rfl
@[simp] theorem State.setPort_sync (n : Nat) (p : Port) : (s.setPort n p).sync = s.sync := rfl
@[simp] theorem State.setPort_sched (n : Nat) (p : Port) : (s.setPort n p).sched = s.sched := rfl
@[simp] theorem State.setPort_od (n : Nat) (p : Port) : (s.setPort n p).od = s.od := rfl
@[simp] theorem State.setPort_bed (n : Nat) (p : Port) : (s.setPort n p).bed = s.bed := rfl
@[simp] theorem State.setPort_rel (n : Nat) (p : Port) : (s.setPort n p).rel = s.rel := rfl
@[simp] theorem State.setPort_startupHold (n : Nat) (p : Port) : (s.setPort n p).startupHold = s.startupHold := rfl
@[simp] theorem State.setPort_regions (n : Nat) (p : Port) : (s.setPort n p).regions = s.regions := rfl
@[simp] theorem State.setPort_marks (n : Nat) (p : Port) : (s.setPort n p).marks = s.marks := rfl
@[simp] theorem State.setPort_markLf (n : Nat) (p : Port) : (s.setPort n p).markLf = s.markLf := rfl
@[simp] theorem State.setPort_markUf (n : Nat) (p : Port) : (s.setPort n p).markUf = s.markUf := rfl
@[simp] theorem State.setPort_fab (n : Nat) (p : Port) : (s.setPort n p).fab = s.fab := rfl
@[simp] theorem State.setPort_hild (n : Nat) (p : Port) : (s.setPort n p).hild = s.hild := rfl
@[simp] theorem State.setPort_mgp (n : Nat) (p : Port) : (s.setPort n p).mgp = s.mgp := rfl
@[simp] theorem State.setPort_fuses (n : Nat) (p : Port) : (s.setPort n p).fuses = s.fuses := rfl
@[simp] theorem State.setPort_pwr (n : Nat) (p : Port) : (s.setPort n p).pwr = s.pwr := rfl
@[simp] theorem State.setPort_thm (n : Nat) (p : Port) : (s.setPort n p).thm = s.thm := rfl
@[simp] theorem State.setPort_bup (n : Nat) (p : Port) : (s.setPort n p).bup = s.bup := rfl
@[simp] theorem State.setPort_sec (n : Nat) (p : Port) : (s.setPort n p).sec = s.sec := rfl
@[simp] theorem State.setPort_trc (n : Nat) (p : Port) : (s.setPort n p).trc = s.trc := rfl
@[simp] theorem State.setPort_pins (n : Nat) (p : Port) : (s.setPort n p).pins = s.pins := rfl

@[simp] theorem State.updPort_pending (n : Nat) (f : Port → Port) : (s.updPort n f).pending = s.pending := rfl
@[simp] theorem State.updPort_free (n : Nat) (f : Port → Port) : (s.updPort n f).free = s.free := rfl
@[simp] theorem State.updPort_bedLosc (n : Nat) (f : Port → Port) : (s.updPort n f).bedLosc = s.bedLosc := rfl
@[simp] theorem State.updPort_lfLosc (n : Nat) (f : Port → Port) : (s.updPort n f).lfLosc = s.lfLosc := rfl
@[simp] theorem State.updPort_ufLosc (n : Nat) (f : Port → Port) : (s.updPort n f).ufLosc = s.ufLosc := rfl
@[simp] theorem State.updPort_tiles (n : Nat) (f : Port → Port) : (s.updPort n f).tiles = s.tiles := rfl
@[simp] theorem State.updPort_act (n : Nat) (f : Port → Port) : (s.updPort n f).act = s.act := rfl
@[simp] theorem State.updPort_mem (n : Nat) (f : Port → Port) : (s.updPort n f).mem = s.mem := rfl
@[simp] theorem State.updPort_reqs (n : Nat) (f : Port → Port) : (s.updPort n f).reqs = s.reqs := rfl
@[simp] theorem State.updPort_nextReq (n : Nat) (f : Port → Port) : (s.updPort n f).nextReq = s.nextReq := rfl
@[simp] theorem State.updPort_resp (n : Nat) (f : Port → Port) : (s.updPort n f).resp = s.resp := rfl
@[simp] theorem State.updPort_sync (n : Nat) (f : Port → Port) : (s.updPort n f).sync = s.sync := rfl
@[simp] theorem State.updPort_sched (n : Nat) (f : Port → Port) : (s.updPort n f).sched = s.sched := rfl
@[simp] theorem State.updPort_od (n : Nat) (f : Port → Port) : (s.updPort n f).od = s.od := rfl
@[simp] theorem State.updPort_bed (n : Nat) (f : Port → Port) : (s.updPort n f).bed = s.bed := rfl
@[simp] theorem State.updPort_rel (n : Nat) (f : Port → Port) : (s.updPort n f).rel = s.rel := rfl
@[simp] theorem State.updPort_startupHold (n : Nat) (f : Port → Port) : (s.updPort n f).startupHold = s.startupHold := rfl
@[simp] theorem State.updPort_regions (n : Nat) (f : Port → Port) : (s.updPort n f).regions = s.regions := rfl
@[simp] theorem State.updPort_marks (n : Nat) (f : Port → Port) : (s.updPort n f).marks = s.marks := rfl
@[simp] theorem State.updPort_markLf (n : Nat) (f : Port → Port) : (s.updPort n f).markLf = s.markLf := rfl
@[simp] theorem State.updPort_markUf (n : Nat) (f : Port → Port) : (s.updPort n f).markUf = s.markUf := rfl
@[simp] theorem State.updPort_fab (n : Nat) (f : Port → Port) : (s.updPort n f).fab = s.fab := rfl
@[simp] theorem State.updPort_hild (n : Nat) (f : Port → Port) : (s.updPort n f).hild = s.hild := rfl
@[simp] theorem State.updPort_mgp (n : Nat) (f : Port → Port) : (s.updPort n f).mgp = s.mgp := rfl
@[simp] theorem State.updPort_fuses (n : Nat) (f : Port → Port) : (s.updPort n f).fuses = s.fuses := rfl
@[simp] theorem State.updPort_pwr (n : Nat) (f : Port → Port) : (s.updPort n f).pwr = s.pwr := rfl
@[simp] theorem State.updPort_thm (n : Nat) (f : Port → Port) : (s.updPort n f).thm = s.thm := rfl
@[simp] theorem State.updPort_bup (n : Nat) (f : Port → Port) : (s.updPort n f).bup = s.bup := rfl
@[simp] theorem State.updPort_sec (n : Nat) (f : Port → Port) : (s.updPort n f).sec = s.sec := rfl
@[simp] theorem State.updPort_trc (n : Nat) (f : Port → Port) : (s.updPort n f).trc = s.trc := rfl
@[simp] theorem State.updPort_pins (n : Nat) (f : Port → Port) : (s.updPort n f).pins = s.pins := rfl

@[simp] theorem State.setLink_pending (l : Nat) (x : Link) : (s.setLink l x).pending = s.pending := rfl
@[simp] theorem State.setLink_free (l : Nat) (x : Link) : (s.setLink l x).free = s.free := rfl
@[simp] theorem State.setLink_bedLosc (l : Nat) (x : Link) : (s.setLink l x).bedLosc = s.bedLosc := rfl
@[simp] theorem State.setLink_lfLosc (l : Nat) (x : Link) : (s.setLink l x).lfLosc = s.lfLosc := rfl
@[simp] theorem State.setLink_ufLosc (l : Nat) (x : Link) : (s.setLink l x).ufLosc = s.ufLosc := rfl
@[simp] theorem State.setLink_tiles (l : Nat) (x : Link) : (s.setLink l x).tiles = s.tiles := rfl
@[simp] theorem State.setLink_act (l : Nat) (x : Link) : (s.setLink l x).act = s.act := rfl
@[simp] theorem State.setLink_mem (l : Nat) (x : Link) : (s.setLink l x).mem = s.mem := rfl
@[simp] theorem State.setLink_reqs (l : Nat) (x : Link) : (s.setLink l x).reqs = s.reqs := rfl
@[simp] theorem State.setLink_nextReq (l : Nat) (x : Link) : (s.setLink l x).nextReq = s.nextReq := rfl
@[simp] theorem State.setLink_resp (l : Nat) (x : Link) : (s.setLink l x).resp = s.resp := rfl
@[simp] theorem State.setLink_sync (l : Nat) (x : Link) : (s.setLink l x).sync = s.sync := rfl
@[simp] theorem State.setLink_sched (l : Nat) (x : Link) : (s.setLink l x).sched = s.sched := rfl
@[simp] theorem State.setLink_od (l : Nat) (x : Link) : (s.setLink l x).od = s.od := rfl
@[simp] theorem State.setLink_bed (l : Nat) (x : Link) : (s.setLink l x).bed = s.bed := rfl
@[simp] theorem State.setLink_rel (l : Nat) (x : Link) : (s.setLink l x).rel = s.rel := rfl
@[simp] theorem State.setLink_startupHold (l : Nat) (x : Link) : (s.setLink l x).startupHold = s.startupHold := rfl
@[simp] theorem State.setLink_regions (l : Nat) (x : Link) : (s.setLink l x).regions = s.regions := rfl
@[simp] theorem State.setLink_marks (l : Nat) (x : Link) : (s.setLink l x).marks = s.marks := rfl
@[simp] theorem State.setLink_markLf (l : Nat) (x : Link) : (s.setLink l x).markLf = s.markLf := rfl
@[simp] theorem State.setLink_markUf (l : Nat) (x : Link) : (s.setLink l x).markUf = s.markUf := rfl
@[simp] theorem State.setLink_ports (l : Nat) (x : Link) : (s.setLink l x).ports = s.ports := rfl
@[simp] theorem State.setLink_hild (l : Nat) (x : Link) : (s.setLink l x).hild = s.hild := rfl
@[simp] theorem State.setLink_mgp (l : Nat) (x : Link) : (s.setLink l x).mgp = s.mgp := rfl
@[simp] theorem State.setLink_fuses (l : Nat) (x : Link) : (s.setLink l x).fuses = s.fuses := rfl
@[simp] theorem State.setLink_pwr (l : Nat) (x : Link) : (s.setLink l x).pwr = s.pwr := rfl
@[simp] theorem State.setLink_thm (l : Nat) (x : Link) : (s.setLink l x).thm = s.thm := rfl
@[simp] theorem State.setLink_bup (l : Nat) (x : Link) : (s.setLink l x).bup = s.bup := rfl
@[simp] theorem State.setLink_sec (l : Nat) (x : Link) : (s.setLink l x).sec = s.sec := rfl
@[simp] theorem State.setLink_trc (l : Nat) (x : Link) : (s.setLink l x).trc = s.trc := rfl
@[simp] theorem State.setLink_pins (l : Nat) (x : Link) : (s.setLink l x).pins = s.pins := rfl

@[simp] theorem State.updLink_pending (l : Nat) (f : Link → Link) : (s.updLink l f).pending = s.pending := rfl
@[simp] theorem State.updLink_free (l : Nat) (f : Link → Link) : (s.updLink l f).free = s.free := rfl
@[simp] theorem State.updLink_bedLosc (l : Nat) (f : Link → Link) : (s.updLink l f).bedLosc = s.bedLosc := rfl
@[simp] theorem State.updLink_lfLosc (l : Nat) (f : Link → Link) : (s.updLink l f).lfLosc = s.lfLosc := rfl
@[simp] theorem State.updLink_ufLosc (l : Nat) (f : Link → Link) : (s.updLink l f).ufLosc = s.ufLosc := rfl
@[simp] theorem State.updLink_tiles (l : Nat) (f : Link → Link) : (s.updLink l f).tiles = s.tiles := rfl
@[simp] theorem State.updLink_act (l : Nat) (f : Link → Link) : (s.updLink l f).act = s.act := rfl
@[simp] theorem State.updLink_mem (l : Nat) (f : Link → Link) : (s.updLink l f).mem = s.mem := rfl
@[simp] theorem State.updLink_reqs (l : Nat) (f : Link → Link) : (s.updLink l f).reqs = s.reqs := rfl
@[simp] theorem State.updLink_nextReq (l : Nat) (f : Link → Link) : (s.updLink l f).nextReq = s.nextReq := rfl
@[simp] theorem State.updLink_resp (l : Nat) (f : Link → Link) : (s.updLink l f).resp = s.resp := rfl
@[simp] theorem State.updLink_sync (l : Nat) (f : Link → Link) : (s.updLink l f).sync = s.sync := rfl
@[simp] theorem State.updLink_sched (l : Nat) (f : Link → Link) : (s.updLink l f).sched = s.sched := rfl
@[simp] theorem State.updLink_od (l : Nat) (f : Link → Link) : (s.updLink l f).od = s.od := rfl
@[simp] theorem State.updLink_bed (l : Nat) (f : Link → Link) : (s.updLink l f).bed = s.bed := rfl
@[simp] theorem State.updLink_rel (l : Nat) (f : Link → Link) : (s.updLink l f).rel = s.rel := rfl
@[simp] theorem State.updLink_startupHold (l : Nat) (f : Link → Link) : (s.updLink l f).startupHold = s.startupHold := rfl
@[simp] theorem State.updLink_regions (l : Nat) (f : Link → Link) : (s.updLink l f).regions = s.regions := rfl
@[simp] theorem State.updLink_marks (l : Nat) (f : Link → Link) : (s.updLink l f).marks = s.marks := rfl
@[simp] theorem State.updLink_markLf (l : Nat) (f : Link → Link) : (s.updLink l f).markLf = s.markLf := rfl
@[simp] theorem State.updLink_markUf (l : Nat) (f : Link → Link) : (s.updLink l f).markUf = s.markUf := rfl
@[simp] theorem State.updLink_ports (l : Nat) (f : Link → Link) : (s.updLink l f).ports = s.ports := rfl
@[simp] theorem State.updLink_hild (l : Nat) (f : Link → Link) : (s.updLink l f).hild = s.hild := rfl
@[simp] theorem State.updLink_mgp (l : Nat) (f : Link → Link) : (s.updLink l f).mgp = s.mgp := rfl
@[simp] theorem State.updLink_fuses (l : Nat) (f : Link → Link) : (s.updLink l f).fuses = s.fuses := rfl
@[simp] theorem State.updLink_pwr (l : Nat) (f : Link → Link) : (s.updLink l f).pwr = s.pwr := rfl
@[simp] theorem State.updLink_thm (l : Nat) (f : Link → Link) : (s.updLink l f).thm = s.thm := rfl
@[simp] theorem State.updLink_bup (l : Nat) (f : Link → Link) : (s.updLink l f).bup = s.bup := rfl
@[simp] theorem State.updLink_sec (l : Nat) (f : Link → Link) : (s.updLink l f).sec = s.sec := rfl
@[simp] theorem State.updLink_trc (l : Nat) (f : Link → Link) : (s.updLink l f).trc = s.trc := rfl
@[simp] theorem State.updLink_pins (l : Nat) (f : Link → Link) : (s.updLink l f).pins = s.pins := rfl

@[simp] theorem State.setRoute_pending (d : Nat) (r : Route) : (s.setRoute d r).pending = s.pending := rfl
@[simp] theorem State.setRoute_free (d : Nat) (r : Route) : (s.setRoute d r).free = s.free := rfl
@[simp] theorem State.setRoute_bedLosc (d : Nat) (r : Route) : (s.setRoute d r).bedLosc = s.bedLosc := rfl
@[simp] theorem State.setRoute_lfLosc (d : Nat) (r : Route) : (s.setRoute d r).lfLosc = s.lfLosc := rfl
@[simp] theorem State.setRoute_ufLosc (d : Nat) (r : Route) : (s.setRoute d r).ufLosc = s.ufLosc := rfl
@[simp] theorem State.setRoute_tiles (d : Nat) (r : Route) : (s.setRoute d r).tiles = s.tiles := rfl
@[simp] theorem State.setRoute_act (d : Nat) (r : Route) : (s.setRoute d r).act = s.act := rfl
@[simp] theorem State.setRoute_mem (d : Nat) (r : Route) : (s.setRoute d r).mem = s.mem := rfl
@[simp] theorem State.setRoute_reqs (d : Nat) (r : Route) : (s.setRoute d r).reqs = s.reqs := rfl
@[simp] theorem State.setRoute_nextReq (d : Nat) (r : Route) : (s.setRoute d r).nextReq = s.nextReq := rfl
@[simp] theorem State.setRoute_resp (d : Nat) (r : Route) : (s.setRoute d r).resp = s.resp := rfl
@[simp] theorem State.setRoute_sync (d : Nat) (r : Route) : (s.setRoute d r).sync = s.sync := rfl
@[simp] theorem State.setRoute_sched (d : Nat) (r : Route) : (s.setRoute d r).sched = s.sched := rfl
@[simp] theorem State.setRoute_od (d : Nat) (r : Route) : (s.setRoute d r).od = s.od := rfl
@[simp] theorem State.setRoute_bed (d : Nat) (r : Route) : (s.setRoute d r).bed = s.bed := rfl
@[simp] theorem State.setRoute_rel (d : Nat) (r : Route) : (s.setRoute d r).rel = s.rel := rfl
@[simp] theorem State.setRoute_startupHold (d : Nat) (r : Route) : (s.setRoute d r).startupHold = s.startupHold := rfl
@[simp] theorem State.setRoute_regions (d : Nat) (r : Route) : (s.setRoute d r).regions = s.regions := rfl
@[simp] theorem State.setRoute_marks (d : Nat) (r : Route) : (s.setRoute d r).marks = s.marks := rfl
@[simp] theorem State.setRoute_markLf (d : Nat) (r : Route) : (s.setRoute d r).markLf = s.markLf := rfl
@[simp] theorem State.setRoute_markUf (d : Nat) (r : Route) : (s.setRoute d r).markUf = s.markUf := rfl
@[simp] theorem State.setRoute_ports (d : Nat) (r : Route) : (s.setRoute d r).ports = s.ports := rfl
@[simp] theorem State.setRoute_hild (d : Nat) (r : Route) : (s.setRoute d r).hild = s.hild := rfl
@[simp] theorem State.setRoute_mgp (d : Nat) (r : Route) : (s.setRoute d r).mgp = s.mgp := rfl
@[simp] theorem State.setRoute_fuses (d : Nat) (r : Route) : (s.setRoute d r).fuses = s.fuses := rfl
@[simp] theorem State.setRoute_pwr (d : Nat) (r : Route) : (s.setRoute d r).pwr = s.pwr := rfl
@[simp] theorem State.setRoute_thm (d : Nat) (r : Route) : (s.setRoute d r).thm = s.thm := rfl
@[simp] theorem State.setRoute_bup (d : Nat) (r : Route) : (s.setRoute d r).bup = s.bup := rfl
@[simp] theorem State.setRoute_sec (d : Nat) (r : Route) : (s.setRoute d r).sec = s.sec := rfl
@[simp] theorem State.setRoute_trc (d : Nat) (r : Route) : (s.setRoute d r).trc = s.trc := rfl
@[simp] theorem State.setRoute_pins (d : Nat) (r : Route) : (s.setRoute d r).pins = s.pins := rfl

@[simp] theorem State.setYbar_pending (c : Nat) (b : YBar) : (s.setYbar c b).pending = s.pending := rfl
@[simp] theorem State.setYbar_free (c : Nat) (b : YBar) : (s.setYbar c b).free = s.free := rfl
@[simp] theorem State.setYbar_bedLosc (c : Nat) (b : YBar) : (s.setYbar c b).bedLosc = s.bedLosc := rfl
@[simp] theorem State.setYbar_lfLosc (c : Nat) (b : YBar) : (s.setYbar c b).lfLosc = s.lfLosc := rfl
@[simp] theorem State.setYbar_ufLosc (c : Nat) (b : YBar) : (s.setYbar c b).ufLosc = s.ufLosc := rfl
@[simp] theorem State.setYbar_tiles (c : Nat) (b : YBar) : (s.setYbar c b).tiles = s.tiles := rfl
@[simp] theorem State.setYbar_act (c : Nat) (b : YBar) : (s.setYbar c b).act = s.act := rfl
@[simp] theorem State.setYbar_mem (c : Nat) (b : YBar) : (s.setYbar c b).mem = s.mem := rfl
@[simp] theorem State.setYbar_reqs (c : Nat) (b : YBar) : (s.setYbar c b).reqs = s.reqs := rfl
@[simp] theorem State.setYbar_nextReq (c : Nat) (b : YBar) : (s.setYbar c b).nextReq = s.nextReq := rfl
@[simp] theorem State.setYbar_resp (c : Nat) (b : YBar) : (s.setYbar c b).resp = s.resp := rfl
@[simp] theorem State.setYbar_sync (c : Nat) (b : YBar) : (s.setYbar c b).sync = s.sync := rfl
@[simp] theorem State.setYbar_sched (c : Nat) (b : YBar) : (s.setYbar c b).sched = s.sched := rfl
@[simp] theorem State.setYbar_od (c : Nat) (b : YBar) : (s.setYbar c b).od = s.od := rfl
@[simp] theorem State.setYbar_bed (c : Nat) (b : YBar) : (s.setYbar c b).bed = s.bed := rfl
@[simp] theorem State.setYbar_rel (c : Nat) (b : YBar) : (s.setYbar c b).rel = s.rel := rfl
@[simp] theorem State.setYbar_startupHold (c : Nat) (b : YBar) : (s.setYbar c b).startupHold = s.startupHold := rfl
@[simp] theorem State.setYbar_regions (c : Nat) (b : YBar) : (s.setYbar c b).regions = s.regions := rfl
@[simp] theorem State.setYbar_marks (c : Nat) (b : YBar) : (s.setYbar c b).marks = s.marks := rfl
@[simp] theorem State.setYbar_markLf (c : Nat) (b : YBar) : (s.setYbar c b).markLf = s.markLf := rfl
@[simp] theorem State.setYbar_markUf (c : Nat) (b : YBar) : (s.setYbar c b).markUf = s.markUf := rfl
@[simp] theorem State.setYbar_ports (c : Nat) (b : YBar) : (s.setYbar c b).ports = s.ports := rfl
@[simp] theorem State.setYbar_hild (c : Nat) (b : YBar) : (s.setYbar c b).hild = s.hild := rfl
@[simp] theorem State.setYbar_mgp (c : Nat) (b : YBar) : (s.setYbar c b).mgp = s.mgp := rfl
@[simp] theorem State.setYbar_fuses (c : Nat) (b : YBar) : (s.setYbar c b).fuses = s.fuses := rfl
@[simp] theorem State.setYbar_pwr (c : Nat) (b : YBar) : (s.setYbar c b).pwr = s.pwr := rfl
@[simp] theorem State.setYbar_thm (c : Nat) (b : YBar) : (s.setYbar c b).thm = s.thm := rfl
@[simp] theorem State.setYbar_bup (c : Nat) (b : YBar) : (s.setYbar c b).bup = s.bup := rfl
@[simp] theorem State.setYbar_sec (c : Nat) (b : YBar) : (s.setYbar c b).sec = s.sec := rfl
@[simp] theorem State.setYbar_trc (c : Nat) (b : YBar) : (s.setYbar c b).trc = s.trc := rfl
@[simp] theorem State.setYbar_pins (c : Nat) (b : YBar) : (s.setYbar c b).pins = s.pins := rfl

@[simp] theorem State.updBup_pending (f : Bup → Bup) : (s.updBup f).pending = s.pending := rfl
@[simp] theorem State.updBup_free (f : Bup → Bup) : (s.updBup f).free = s.free := rfl
@[simp] theorem State.updBup_bedLosc (f : Bup → Bup) : (s.updBup f).bedLosc = s.bedLosc := rfl
@[simp] theorem State.updBup_lfLosc (f : Bup → Bup) : (s.updBup f).lfLosc = s.lfLosc := rfl
@[simp] theorem State.updBup_ufLosc (f : Bup → Bup) : (s.updBup f).ufLosc = s.ufLosc := rfl
@[simp] theorem State.updBup_tiles (f : Bup → Bup) : (s.updBup f).tiles = s.tiles := rfl
@[simp] theorem State.updBup_act (f : Bup → Bup) : (s.updBup f).act = s.act := rfl
@[simp] theorem State.updBup_mem (f : Bup → Bup) : (s.updBup f).mem = s.mem := rfl
@[simp] theorem State.updBup_reqs (f : Bup → Bup) : (s.updBup f).reqs = s.reqs := rfl
@[simp] theorem State.updBup_nextReq (f : Bup → Bup) : (s.updBup f).nextReq = s.nextReq := rfl
@[simp] theorem State.updBup_resp (f : Bup → Bup) : (s.updBup f).resp = s.resp := rfl
@[simp] theorem State.updBup_sync (f : Bup → Bup) : (s.updBup f).sync = s.sync := rfl
@[simp] theorem State.updBup_sched (f : Bup → Bup) : (s.updBup f).sched = s.sched := rfl
@[simp] theorem State.updBup_od (f : Bup → Bup) : (s.updBup f).od = s.od := rfl
@[simp] theorem State.updBup_bed (f : Bup → Bup) : (s.updBup f).bed = s.bed := rfl
@[simp] theorem State.updBup_rel (f : Bup → Bup) : (s.updBup f).rel = s.rel := rfl
@[simp] theorem State.updBup_startupHold (f : Bup → Bup) : (s.updBup f).startupHold = s.startupHold := rfl
@[simp] theorem State.updBup_regions (f : Bup → Bup) : (s.updBup f).regions = s.regions := rfl
@[simp] theorem State.updBup_marks (f : Bup → Bup) : (s.updBup f).marks = s.marks := rfl
@[simp] theorem State.updBup_markLf (f : Bup → Bup) : (s.updBup f).markLf = s.markLf := rfl
@[simp] theorem State.updBup_markUf (f : Bup → Bup) : (s.updBup f).markUf = s.markUf := rfl
@[simp] theorem State.updBup_ports (f : Bup → Bup) : (s.updBup f).ports = s.ports := rfl
@[simp] theorem State.updBup_fab (f : Bup → Bup) : (s.updBup f).fab = s.fab := rfl
@[simp] theorem State.updBup_hild (f : Bup → Bup) : (s.updBup f).hild = s.hild := rfl
@[simp] theorem State.updBup_mgp (f : Bup → Bup) : (s.updBup f).mgp = s.mgp := rfl
@[simp] theorem State.updBup_fuses (f : Bup → Bup) : (s.updBup f).fuses = s.fuses := rfl
@[simp] theorem State.updBup_pwr (f : Bup → Bup) : (s.updBup f).pwr = s.pwr := rfl
@[simp] theorem State.updBup_thm (f : Bup → Bup) : (s.updBup f).thm = s.thm := rfl
@[simp] theorem State.updBup_sec (f : Bup → Bup) : (s.updBup f).sec = s.sec := rfl
@[simp] theorem State.updBup_trc (f : Bup → Bup) : (s.updBup f).trc = s.trc := rfl
@[simp] theorem State.updBup_pins (f : Bup → Bup) : (s.updBup f).pins = s.pins := rfl

@[simp] theorem State.updMgp_pending (f : Mgp → Mgp) : (s.updMgp f).pending = s.pending := rfl
@[simp] theorem State.updMgp_free (f : Mgp → Mgp) : (s.updMgp f).free = s.free := rfl
@[simp] theorem State.updMgp_bedLosc (f : Mgp → Mgp) : (s.updMgp f).bedLosc = s.bedLosc := rfl
@[simp] theorem State.updMgp_lfLosc (f : Mgp → Mgp) : (s.updMgp f).lfLosc = s.lfLosc := rfl
@[simp] theorem State.updMgp_ufLosc (f : Mgp → Mgp) : (s.updMgp f).ufLosc = s.ufLosc := rfl
@[simp] theorem State.updMgp_tiles (f : Mgp → Mgp) : (s.updMgp f).tiles = s.tiles := rfl
@[simp] theorem State.updMgp_act (f : Mgp → Mgp) : (s.updMgp f).act = s.act := rfl
@[simp] theorem State.updMgp_mem (f : Mgp → Mgp) : (s.updMgp f).mem = s.mem := rfl
@[simp] theorem State.updMgp_reqs (f : Mgp → Mgp) : (s.updMgp f).reqs = s.reqs := rfl
@[simp] theorem State.updMgp_nextReq (f : Mgp → Mgp) : (s.updMgp f).nextReq = s.nextReq := rfl
@[simp] theorem State.updMgp_resp (f : Mgp → Mgp) : (s.updMgp f).resp = s.resp := rfl
@[simp] theorem State.updMgp_sync (f : Mgp → Mgp) : (s.updMgp f).sync = s.sync := rfl
@[simp] theorem State.updMgp_sched (f : Mgp → Mgp) : (s.updMgp f).sched = s.sched := rfl
@[simp] theorem State.updMgp_od (f : Mgp → Mgp) : (s.updMgp f).od = s.od := rfl
@[simp] theorem State.updMgp_bed (f : Mgp → Mgp) : (s.updMgp f).bed = s.bed := rfl
@[simp] theorem State.updMgp_rel (f : Mgp → Mgp) : (s.updMgp f).rel = s.rel := rfl
@[simp] theorem State.updMgp_startupHold (f : Mgp → Mgp) : (s.updMgp f).startupHold = s.startupHold := rfl
@[simp] theorem State.updMgp_regions (f : Mgp → Mgp) : (s.updMgp f).regions = s.regions := rfl
@[simp] theorem State.updMgp_marks (f : Mgp → Mgp) : (s.updMgp f).marks = s.marks := rfl
@[simp] theorem State.updMgp_markLf (f : Mgp → Mgp) : (s.updMgp f).markLf = s.markLf := rfl
@[simp] theorem State.updMgp_markUf (f : Mgp → Mgp) : (s.updMgp f).markUf = s.markUf := rfl
@[simp] theorem State.updMgp_ports (f : Mgp → Mgp) : (s.updMgp f).ports = s.ports := rfl
@[simp] theorem State.updMgp_fab (f : Mgp → Mgp) : (s.updMgp f).fab = s.fab := rfl
@[simp] theorem State.updMgp_hild (f : Mgp → Mgp) : (s.updMgp f).hild = s.hild := rfl
@[simp] theorem State.updMgp_fuses (f : Mgp → Mgp) : (s.updMgp f).fuses = s.fuses := rfl
@[simp] theorem State.updMgp_pwr (f : Mgp → Mgp) : (s.updMgp f).pwr = s.pwr := rfl
@[simp] theorem State.updMgp_thm (f : Mgp → Mgp) : (s.updMgp f).thm = s.thm := rfl
@[simp] theorem State.updMgp_bup (f : Mgp → Mgp) : (s.updMgp f).bup = s.bup := rfl
@[simp] theorem State.updMgp_sec (f : Mgp → Mgp) : (s.updMgp f).sec = s.sec := rfl
@[simp] theorem State.updMgp_trc (f : Mgp → Mgp) : (s.updMgp f).trc = s.trc := rfl
@[simp] theorem State.updMgp_pins (f : Mgp → Mgp) : (s.updMgp f).pins = s.pins := rfl

@[simp] theorem State.updPwr_pending (f : Pwr → Pwr) : (s.updPwr f).pending = s.pending := rfl
@[simp] theorem State.updPwr_free (f : Pwr → Pwr) : (s.updPwr f).free = s.free := rfl
@[simp] theorem State.updPwr_bedLosc (f : Pwr → Pwr) : (s.updPwr f).bedLosc = s.bedLosc := rfl
@[simp] theorem State.updPwr_lfLosc (f : Pwr → Pwr) : (s.updPwr f).lfLosc = s.lfLosc := rfl
@[simp] theorem State.updPwr_ufLosc (f : Pwr → Pwr) : (s.updPwr f).ufLosc = s.ufLosc := rfl
@[simp] theorem State.updPwr_tiles (f : Pwr → Pwr) : (s.updPwr f).tiles = s.tiles := rfl
@[simp] theorem State.updPwr_act (f : Pwr → Pwr) : (s.updPwr f).act = s.act := rfl
@[simp] theorem State.updPwr_mem (f : Pwr → Pwr) : (s.updPwr f).mem = s.mem := rfl
@[simp] theorem State.updPwr_reqs (f : Pwr → Pwr) : (s.updPwr f).reqs = s.reqs := rfl
@[simp] theorem State.updPwr_nextReq (f : Pwr → Pwr) : (s.updPwr f).nextReq = s.nextReq := rfl
@[simp] theorem State.updPwr_resp (f : Pwr → Pwr) : (s.updPwr f).resp = s.resp := rfl
@[simp] theorem State.updPwr_sync (f : Pwr → Pwr) : (s.updPwr f).sync = s.sync := rfl
@[simp] theorem State.updPwr_sched (f : Pwr → Pwr) : (s.updPwr f).sched = s.sched := rfl
@[simp] theorem State.updPwr_od (f : Pwr → Pwr) : (s.updPwr f).od = s.od := rfl
@[simp] theorem State.updPwr_bed (f : Pwr → Pwr) : (s.updPwr f).bed = s.bed := rfl
@[simp] theorem State.updPwr_rel (f : Pwr → Pwr) : (s.updPwr f).rel = s.rel := rfl
@[simp] theorem State.updPwr_startupHold (f : Pwr → Pwr) : (s.updPwr f).startupHold = s.startupHold := rfl
@[simp] theorem State.updPwr_regions (f : Pwr → Pwr) : (s.updPwr f).regions = s.regions := rfl
@[simp] theorem State.updPwr_marks (f : Pwr → Pwr) : (s.updPwr f).marks = s.marks := rfl
@[simp] theorem State.updPwr_markLf (f : Pwr → Pwr) : (s.updPwr f).markLf = s.markLf := rfl
@[simp] theorem State.updPwr_markUf (f : Pwr → Pwr) : (s.updPwr f).markUf = s.markUf := rfl
@[simp] theorem State.updPwr_ports (f : Pwr → Pwr) : (s.updPwr f).ports = s.ports := rfl
@[simp] theorem State.updPwr_fab (f : Pwr → Pwr) : (s.updPwr f).fab = s.fab := rfl
@[simp] theorem State.updPwr_hild (f : Pwr → Pwr) : (s.updPwr f).hild = s.hild := rfl
@[simp] theorem State.updPwr_mgp (f : Pwr → Pwr) : (s.updPwr f).mgp = s.mgp := rfl
@[simp] theorem State.updPwr_fuses (f : Pwr → Pwr) : (s.updPwr f).fuses = s.fuses := rfl
@[simp] theorem State.updPwr_thm (f : Pwr → Pwr) : (s.updPwr f).thm = s.thm := rfl
@[simp] theorem State.updPwr_bup (f : Pwr → Pwr) : (s.updPwr f).bup = s.bup := rfl
@[simp] theorem State.updPwr_sec (f : Pwr → Pwr) : (s.updPwr f).sec = s.sec := rfl
@[simp] theorem State.updPwr_trc (f : Pwr → Pwr) : (s.updPwr f).trc = s.trc := rfl
@[simp] theorem State.updPwr_pins (f : Pwr → Pwr) : (s.updPwr f).pins = s.pins := rfl

@[simp] theorem State.setRail_pending (k : Nat) (x : Rail) : (s.setRail k x).pending = s.pending := rfl
@[simp] theorem State.setRail_free (k : Nat) (x : Rail) : (s.setRail k x).free = s.free := rfl
@[simp] theorem State.setRail_bedLosc (k : Nat) (x : Rail) : (s.setRail k x).bedLosc = s.bedLosc := rfl
@[simp] theorem State.setRail_lfLosc (k : Nat) (x : Rail) : (s.setRail k x).lfLosc = s.lfLosc := rfl
@[simp] theorem State.setRail_ufLosc (k : Nat) (x : Rail) : (s.setRail k x).ufLosc = s.ufLosc := rfl
@[simp] theorem State.setRail_tiles (k : Nat) (x : Rail) : (s.setRail k x).tiles = s.tiles := rfl
@[simp] theorem State.setRail_act (k : Nat) (x : Rail) : (s.setRail k x).act = s.act := rfl
@[simp] theorem State.setRail_mem (k : Nat) (x : Rail) : (s.setRail k x).mem = s.mem := rfl
@[simp] theorem State.setRail_reqs (k : Nat) (x : Rail) : (s.setRail k x).reqs = s.reqs := rfl
@[simp] theorem State.setRail_nextReq (k : Nat) (x : Rail) : (s.setRail k x).nextReq = s.nextReq := rfl
@[simp] theorem State.setRail_resp (k : Nat) (x : Rail) : (s.setRail k x).resp = s.resp := rfl
@[simp] theorem State.setRail_sync (k : Nat) (x : Rail) : (s.setRail k x).sync = s.sync := rfl
@[simp] theorem State.setRail_sched (k : Nat) (x : Rail) : (s.setRail k x).sched = s.sched := rfl
@[simp] theorem State.setRail_od (k : Nat) (x : Rail) : (s.setRail k x).od = s.od := rfl
@[simp] theorem State.setRail_bed (k : Nat) (x : Rail) : (s.setRail k x).bed = s.bed := rfl
@[simp] theorem State.setRail_rel (k : Nat) (x : Rail) : (s.setRail k x).rel = s.rel := rfl
@[simp] theorem State.setRail_startupHold (k : Nat) (x : Rail) : (s.setRail k x).startupHold = s.startupHold := rfl
@[simp] theorem State.setRail_regions (k : Nat) (x : Rail) : (s.setRail k x).regions = s.regions := rfl
@[simp] theorem State.setRail_marks (k : Nat) (x : Rail) : (s.setRail k x).marks = s.marks := rfl
@[simp] theorem State.setRail_markLf (k : Nat) (x : Rail) : (s.setRail k x).markLf = s.markLf := rfl
@[simp] theorem State.setRail_markUf (k : Nat) (x : Rail) : (s.setRail k x).markUf = s.markUf := rfl
@[simp] theorem State.setRail_ports (k : Nat) (x : Rail) : (s.setRail k x).ports = s.ports := rfl
@[simp] theorem State.setRail_fab (k : Nat) (x : Rail) : (s.setRail k x).fab = s.fab := rfl
@[simp] theorem State.setRail_hild (k : Nat) (x : Rail) : (s.setRail k x).hild = s.hild := rfl
@[simp] theorem State.setRail_mgp (k : Nat) (x : Rail) : (s.setRail k x).mgp = s.mgp := rfl
@[simp] theorem State.setRail_fuses (k : Nat) (x : Rail) : (s.setRail k x).fuses = s.fuses := rfl
@[simp] theorem State.setRail_thm (k : Nat) (x : Rail) : (s.setRail k x).thm = s.thm := rfl
@[simp] theorem State.setRail_bup (k : Nat) (x : Rail) : (s.setRail k x).bup = s.bup := rfl
@[simp] theorem State.setRail_sec (k : Nat) (x : Rail) : (s.setRail k x).sec = s.sec := rfl
@[simp] theorem State.setRail_trc (k : Nat) (x : Rail) : (s.setRail k x).trc = s.trc := rfl
@[simp] theorem State.setRail_pins (k : Nat) (x : Rail) : (s.setRail k x).pins = s.pins := rfl

@[simp] theorem State.setPin_pending (n : Nat) (p : Pin) : (s.setPin n p).pending = s.pending := rfl
@[simp] theorem State.setPin_free (n : Nat) (p : Pin) : (s.setPin n p).free = s.free := rfl
@[simp] theorem State.setPin_bedLosc (n : Nat) (p : Pin) : (s.setPin n p).bedLosc = s.bedLosc := rfl
@[simp] theorem State.setPin_lfLosc (n : Nat) (p : Pin) : (s.setPin n p).lfLosc = s.lfLosc := rfl
@[simp] theorem State.setPin_ufLosc (n : Nat) (p : Pin) : (s.setPin n p).ufLosc = s.ufLosc := rfl
@[simp] theorem State.setPin_tiles (n : Nat) (p : Pin) : (s.setPin n p).tiles = s.tiles := rfl
@[simp] theorem State.setPin_act (n : Nat) (p : Pin) : (s.setPin n p).act = s.act := rfl
@[simp] theorem State.setPin_mem (n : Nat) (p : Pin) : (s.setPin n p).mem = s.mem := rfl
@[simp] theorem State.setPin_reqs (n : Nat) (p : Pin) : (s.setPin n p).reqs = s.reqs := rfl
@[simp] theorem State.setPin_nextReq (n : Nat) (p : Pin) : (s.setPin n p).nextReq = s.nextReq := rfl
@[simp] theorem State.setPin_resp (n : Nat) (p : Pin) : (s.setPin n p).resp = s.resp := rfl
@[simp] theorem State.setPin_sync (n : Nat) (p : Pin) : (s.setPin n p).sync = s.sync := rfl
@[simp] theorem State.setPin_sched (n : Nat) (p : Pin) : (s.setPin n p).sched = s.sched := rfl
@[simp] theorem State.setPin_od (n : Nat) (p : Pin) : (s.setPin n p).od = s.od := rfl
@[simp] theorem State.setPin_rel (n : Nat) (p : Pin) : (s.setPin n p).rel = s.rel := rfl
@[simp] theorem State.setPin_startupHold (n : Nat) (p : Pin) : (s.setPin n p).startupHold = s.startupHold := rfl
@[simp] theorem State.setPin_regions (n : Nat) (p : Pin) : (s.setPin n p).regions = s.regions := rfl
@[simp] theorem State.setPin_marks (n : Nat) (p : Pin) : (s.setPin n p).marks = s.marks := rfl
@[simp] theorem State.setPin_markLf (n : Nat) (p : Pin) : (s.setPin n p).markLf = s.markLf := rfl
@[simp] theorem State.setPin_markUf (n : Nat) (p : Pin) : (s.setPin n p).markUf = s.markUf := rfl
@[simp] theorem State.setPin_ports (n : Nat) (p : Pin) : (s.setPin n p).ports = s.ports := rfl
@[simp] theorem State.setPin_fab (n : Nat) (p : Pin) : (s.setPin n p).fab = s.fab := rfl
@[simp] theorem State.setPin_hild (n : Nat) (p : Pin) : (s.setPin n p).hild = s.hild := rfl
@[simp] theorem State.setPin_mgp (n : Nat) (p : Pin) : (s.setPin n p).mgp = s.mgp := rfl
@[simp] theorem State.setPin_fuses (n : Nat) (p : Pin) : (s.setPin n p).fuses = s.fuses := rfl
@[simp] theorem State.setPin_pwr (n : Nat) (p : Pin) : (s.setPin n p).pwr = s.pwr := rfl
@[simp] theorem State.setPin_thm (n : Nat) (p : Pin) : (s.setPin n p).thm = s.thm := rfl
@[simp] theorem State.setPin_bup (n : Nat) (p : Pin) : (s.setPin n p).bup = s.bup := rfl
@[simp] theorem State.setPin_sec (n : Nat) (p : Pin) : (s.setPin n p).sec = s.sec := rfl
@[simp] theorem State.setPin_trc (n : Nat) (p : Pin) : (s.setPin n p).trc = s.trc := rfl
@[simp] theorem State.setPin_pins (n : Nat) (p : Pin) : (s.setPin n p).pins = s.pins := rfl

@[simp] theorem State.setBlob_pending (i j : Nat) (bs : List Byte) : (s.setBlob i j bs).pending = s.pending := rfl
@[simp] theorem State.setBlob_free (i j : Nat) (bs : List Byte) : (s.setBlob i j bs).free = s.free := rfl
@[simp] theorem State.setBlob_bedLosc (i j : Nat) (bs : List Byte) : (s.setBlob i j bs).bedLosc = s.bedLosc := rfl
@[simp] theorem State.setBlob_lfLosc (i j : Nat) (bs : List Byte) : (s.setBlob i j bs).lfLosc = s.lfLosc := rfl
@[simp] theorem State.setBlob_ufLosc (i j : Nat) (bs : List Byte) : (s.setBlob i j bs).ufLosc = s.ufLosc := rfl
@[simp] theorem State.setBlob_tiles (i j : Nat) (bs : List Byte) : (s.setBlob i j bs).tiles = s.tiles := rfl
@[simp] theorem State.setBlob_act (i j : Nat) (bs : List Byte) : (s.setBlob i j bs).act = s.act := rfl
@[simp] theorem State.setBlob_mem (i j : Nat) (bs : List Byte) : (s.setBlob i j bs).mem = s.mem := rfl
@[simp] theorem State.setBlob_reqs (i j : Nat) (bs : List Byte) : (s.setBlob i j bs).reqs = s.reqs := rfl
@[simp] theorem State.setBlob_nextReq (i j : Nat) (bs : List Byte) : (s.setBlob i j bs).nextReq = s.nextReq := rfl
@[simp] theorem State.setBlob_resp (i j : Nat) (bs : List Byte) : (s.setBlob i j bs).resp = s.resp := rfl
@[simp] theorem State.setBlob_sync (i j : Nat) (bs : List Byte) : (s.setBlob i j bs).sync = s.sync := rfl
@[simp] theorem State.setBlob_sched (i j : Nat) (bs : List Byte) : (s.setBlob i j bs).sched = s.sched := rfl
@[simp] theorem State.setBlob_bed (i j : Nat) (bs : List Byte) : (s.setBlob i j bs).bed = s.bed := rfl
@[simp] theorem State.setBlob_rel (i j : Nat) (bs : List Byte) : (s.setBlob i j bs).rel = s.rel := rfl
@[simp] theorem State.setBlob_startupHold (i j : Nat) (bs : List Byte) : (s.setBlob i j bs).startupHold = s.startupHold := rfl
@[simp] theorem State.setBlob_regions (i j : Nat) (bs : List Byte) : (s.setBlob i j bs).regions = s.regions := rfl
@[simp] theorem State.setBlob_marks (i j : Nat) (bs : List Byte) : (s.setBlob i j bs).marks = s.marks := rfl
@[simp] theorem State.setBlob_markLf (i j : Nat) (bs : List Byte) : (s.setBlob i j bs).markLf = s.markLf := rfl
@[simp] theorem State.setBlob_markUf (i j : Nat) (bs : List Byte) : (s.setBlob i j bs).markUf = s.markUf := rfl
@[simp] theorem State.setBlob_ports (i j : Nat) (bs : List Byte) : (s.setBlob i j bs).ports = s.ports := rfl
@[simp] theorem State.setBlob_fab (i j : Nat) (bs : List Byte) : (s.setBlob i j bs).fab = s.fab := rfl
@[simp] theorem State.setBlob_hild (i j : Nat) (bs : List Byte) : (s.setBlob i j bs).hild = s.hild := rfl
@[simp] theorem State.setBlob_mgp (i j : Nat) (bs : List Byte) : (s.setBlob i j bs).mgp = s.mgp := rfl
@[simp] theorem State.setBlob_fuses (i j : Nat) (bs : List Byte) : (s.setBlob i j bs).fuses = s.fuses := rfl
@[simp] theorem State.setBlob_pwr (i j : Nat) (bs : List Byte) : (s.setBlob i j bs).pwr = s.pwr := rfl
@[simp] theorem State.setBlob_thm (i j : Nat) (bs : List Byte) : (s.setBlob i j bs).thm = s.thm := rfl
@[simp] theorem State.setBlob_bup (i j : Nat) (bs : List Byte) : (s.setBlob i j bs).bup = s.bup := rfl
@[simp] theorem State.setBlob_sec (i j : Nat) (bs : List Byte) : (s.setBlob i j bs).sec = s.sec := rfl
@[simp] theorem State.setBlob_trc (i j : Nat) (bs : List Byte) : (s.setBlob i j bs).trc = s.trc := rfl
@[simp] theorem State.setBlob_pins (i j : Nat) (bs : List Byte) : (s.setBlob i j bs).pins = s.pins := rfl

@[simp] theorem State.tile_setTile (n : Nat) (x : Tile) : (s.setTile n x).tile n = x := SMap.get_put_same _ _ _ _
theorem State.tile_setTile_ne {n k : Nat} (x : Tile) (h : k ≠ n) : (s.setTile n x).tile k = s.tile k := SMap.get_put_ne _ _ _ h
@[simp] theorem State.slice_setSlice (n : Nat) (x : Slice) : (s.setSlice n x).slice n = x := SMap.get_put_same _ _ _ _
theorem State.slice_setSlice_ne {n k : Nat} (x : Slice) (h : k ≠ n) : (s.setSlice n x).slice k = s.slice k := SMap.get_put_ne _ _ _ h
@[simp] theorem State.bank_setBank (n : Nat) (x : Bank) : (s.setBank n x).bank n = x := SMap.get_put_same _ _ _ _
theorem State.bank_setBank_ne {n k : Nat} (x : Bank) (h : k ≠ n) : (s.setBank n x).bank k = s.bank k := SMap.get_put_ne _ _ _ h
@[simp] theorem State.stack_setStack (n : Nat) (x : Stack) : (s.setStack n x).stack n = x := SMap.get_put_same _ _ _ _
theorem State.stack_setStack_ne {n k : Nat} (x : Stack) (h : k ≠ n) : (s.setStack n x).stack k = s.stack k := SMap.get_put_ne _ _ _ h
@[simp] theorem State.table_setTable (n : Nat) (x : ActTable) : (s.setTable n x).table n = x := SMap.get_put_same _ _ _ _
theorem State.table_setTable_ne {n k : Nat} (x : ActTable) (h : k ≠ n) : (s.setTable n x).table k = s.table k := SMap.get_put_ne _ _ _ h
@[simp] theorem State.region_setRegion (n : Nat) (x : Region) : (s.setRegion n x).region n = x := SMap.get_put_same _ _ _ _
theorem State.region_setRegion_ne {n k : Nat} (x : Region) (h : k ≠ n) : (s.setRegion n x).region k = s.region k := SMap.get_put_ne _ _ _ h
@[simp] theorem State.part_setPart (n : Nat) (x : Part) : (s.setPart n x).part n = x := SMap.get_put_same _ _ _ _
theorem State.part_setPart_ne {n k : Nat} (x : Part) (h : k ≠ n) : (s.setPart n x).part k = s.part k := SMap.get_put_ne _ _ _ h
@[simp] theorem State.port_setPort (n : Nat) (x : Port) : (s.setPort n x).port n = x := SMap.get_put_same _ _ _ _
theorem State.port_setPort_ne {n k : Nat} (x : Port) (h : k ≠ n) : (s.setPort n x).port k = s.port k := SMap.get_put_ne _ _ _ h
@[simp] theorem State.link_setLink (n : Nat) (x : Link) : (s.setLink n x).link n = x := SMap.get_put_same _ _ _ _
theorem State.link_setLink_ne {n k : Nat} (x : Link) (h : k ≠ n) : (s.setLink n x).link k = s.link k := SMap.get_put_ne _ _ _ h
@[simp] theorem State.route_setRoute (n : Nat) (x : Route) : (s.setRoute n x).route n = x := SMap.get_put_same _ _ _ _
theorem State.route_setRoute_ne {n k : Nat} (x : Route) (h : k ≠ n) : (s.setRoute n x).route k = s.route k := SMap.get_put_ne _ _ _ h
@[simp] theorem State.ybar_setYbar (n : Nat) (x : YBar) : (s.setYbar n x).ybar n = x := SMap.get_put_same _ _ _ _
theorem State.ybar_setYbar_ne {n k : Nat} (x : YBar) (h : k ≠ n) : (s.setYbar n x).ybar k = s.ybar k := SMap.get_put_ne _ _ _ h
@[simp] theorem State.rail_setRail (n : Nat) (x : Rail) : (s.setRail n x).rail n = x := SMap.get_put_same _ _ _ _
theorem State.rail_setRail_ne {n k : Nat} (x : Rail) (h : k ≠ n) : (s.setRail n x).rail k = s.rail k := SMap.get_put_ne _ _ _ h
@[simp] theorem State.pin_setPin (n : Nat) (x : Pin) : (s.setPin n x).pin n = x := SMap.get_put_same _ _ _ _
theorem State.pin_setPin_ne {n k : Nat} (x : Pin) (h : k ≠ n) : (s.setPin n x).pin k = s.pin k := SMap.get_put_ne _ _ _ h

@[simp] theorem State.tile_updTile (n : Nat) (f : Tile → Tile) : (s.updTile n f).tile n = f (s.tile n) := State.tile_setTile ..
theorem State.tile_updTile_ne {n k : Nat} (f : Tile → Tile) (h : k ≠ n) : (s.updTile n f).tile k = s.tile k := State.tile_setTile_ne _ _ h
@[simp] theorem State.slice_updSlice (n : Nat) (f : Slice → Slice) : (s.updSlice n f).slice n = f (s.slice n) := State.slice_setSlice ..
theorem State.slice_updSlice_ne {n k : Nat} (f : Slice → Slice) (h : k ≠ n) : (s.updSlice n f).slice k = s.slice k := State.slice_setSlice_ne _ _ h
@[simp] theorem State.bank_updBank (n : Nat) (f : Bank → Bank) : (s.updBank n f).bank n = f (s.bank n) := State.bank_setBank ..
theorem State.bank_updBank_ne {n k : Nat} (f : Bank → Bank) (h : k ≠ n) : (s.updBank n f).bank k = s.bank k := State.bank_setBank_ne _ _ h
@[simp] theorem State.stack_updStack (n : Nat) (f : Stack → Stack) : (s.updStack n f).stack n = f (s.stack n) := State.stack_setStack ..
theorem State.stack_updStack_ne {n k : Nat} (f : Stack → Stack) (h : k ≠ n) : (s.updStack n f).stack k = s.stack k := State.stack_setStack_ne _ _ h
@[simp] theorem State.table_updTable (n : Nat) (f : ActTable → ActTable) : (s.updTable n f).table n = f (s.table n) := State.table_setTable ..
theorem State.table_updTable_ne {n k : Nat} (f : ActTable → ActTable) (h : k ≠ n) : (s.updTable n f).table k = s.table k := State.table_setTable_ne _ _ h
@[simp] theorem State.region_updRegion (n : Nat) (f : Region → Region) : (s.updRegion n f).region n = f (s.region n) := State.region_setRegion ..
theorem State.region_updRegion_ne {n k : Nat} (f : Region → Region) (h : k ≠ n) : (s.updRegion n f).region k = s.region k := State.region_setRegion_ne _ _ h
@[simp] theorem State.part_updPart (n : Nat) (f : Part → Part) : (s.updPart n f).part n = f (s.part n) := State.part_setPart ..
theorem State.part_updPart_ne {n k : Nat} (f : Part → Part) (h : k ≠ n) : (s.updPart n f).part k = s.part k := State.part_setPart_ne _ _ h
@[simp] theorem State.port_updPort (n : Nat) (f : Port → Port) : (s.updPort n f).port n = f (s.port n) := State.port_setPort ..
theorem State.port_updPort_ne {n k : Nat} (f : Port → Port) (h : k ≠ n) : (s.updPort n f).port k = s.port k := State.port_setPort_ne _ _ h
@[simp] theorem State.link_updLink (n : Nat) (f : Link → Link) : (s.updLink n f).link n = f (s.link n) := State.link_setLink ..
theorem State.link_updLink_ne {n k : Nat} (f : Link → Link) (h : k ≠ n) : (s.updLink n f).link k = s.link k := State.link_setLink_ne _ _ h
@[simp] theorem State.core_updCore (t : Nat) (f : Core → Core) : (s.updCore t f).core t = f (s.core t) := by
  simp [State.core, State.updCore]
theorem State.tile_updCore_ne {t u : Nat} (f : Core → Core) (h : u ≠ t) : (s.updCore t f).tile u = s.tile u := State.tile_updTile_ne _ _ h
@[simp] theorem State.arr_updArr (t : Nat) (f : Arr → Arr) : (s.updArr t f).arr t = f (s.arr t) := by
  simp [State.arr, State.updArr]
theorem State.tile_updArr_ne {t u : Nat} (f : Arr → Arr) (h : u ≠ t) : (s.updArr t f).tile u = s.tile u := State.tile_updTile_ne _ _ h
@[simp] theorem State.tge_updTge (t : Nat) (f : Tge → Tge) : (s.updTge t f).tge t = f (s.tge t) := by
  simp [State.tge, State.updTge]
theorem State.tile_updTge_ne {t u : Nat} (f : Tge → Tge) (h : u ≠ t) : (s.updTge t f).tile u = s.tile u := State.tile_updTile_ne _ _ h
@[simp] theorem State.dbg_updDbg (t : Nat) (f : Dbg → Dbg) : (s.updDbg t f).dbg t = f (s.dbg t) := by
  simp [State.dbg, State.updDbg]
theorem State.tile_updDbg_ne {t u : Nat} (f : Dbg → Dbg) (h : u ≠ t) : (s.updDbg t f).tile u = s.tile u := State.tile_updTile_ne _ _ h

/-! A record joins the queue, is counted as dropped, or raises a severity line (R479, R480). -/

@[simp] theorem State.report_pending (r : Rec) : (s.report r).pending = s.pending := by
  simp only [State.report]; repeat (first | rfl | split)
@[simp] theorem State.report_free (r : Rec) : (s.report r).free = s.free := by
  simp only [State.report]; repeat (first | rfl | split)
@[simp] theorem State.report_bedLosc (r : Rec) : (s.report r).bedLosc = s.bedLosc := by
  simp only [State.report]; repeat (first | rfl | split)
@[simp] theorem State.report_lfLosc (r : Rec) : (s.report r).lfLosc = s.lfLosc := by
  simp only [State.report]; repeat (first | rfl | split)
@[simp] theorem State.report_ufLosc (r : Rec) : (s.report r).ufLosc = s.ufLosc := by
  simp only [State.report]; repeat (first | rfl | split)
@[simp] theorem State.report_tiles (r : Rec) : (s.report r).tiles = s.tiles := by
  simp only [State.report]; repeat (first | rfl | split)
@[simp] theorem State.report_act (r : Rec) : (s.report r).act = s.act := by
  simp only [State.report]; repeat (first | rfl | split)
@[simp] theorem State.report_mem (r : Rec) : (s.report r).mem = s.mem := by
  simp only [State.report]; repeat (first | rfl | split)
@[simp] theorem State.report_reqs (r : Rec) : (s.report r).reqs = s.reqs := by
  simp only [State.report]; repeat (first | rfl | split)
@[simp] theorem State.report_nextReq (r : Rec) : (s.report r).nextReq = s.nextReq := by
  simp only [State.report]; repeat (first | rfl | split)
@[simp] theorem State.report_resp (r : Rec) : (s.report r).resp = s.resp := by
  simp only [State.report]; repeat (first | rfl | split)
@[simp] theorem State.report_sync (r : Rec) : (s.report r).sync = s.sync := by
  simp only [State.report]; repeat (first | rfl | split)
@[simp] theorem State.report_sched (r : Rec) : (s.report r).sched = s.sched := by
  simp only [State.report]; repeat (first | rfl | split)
@[simp] theorem State.report_bed (r : Rec) : (s.report r).bed = s.bed := by
  simp only [State.report]; repeat (first | rfl | split)
@[simp] theorem State.report_startupHold (r : Rec) : (s.report r).startupHold = s.startupHold := by
  simp only [State.report]; repeat (first | rfl | split)
@[simp] theorem State.report_regions (r : Rec) : (s.report r).regions = s.regions := by
  simp only [State.report]; repeat (first | rfl | split)
@[simp] theorem State.report_marks (r : Rec) : (s.report r).marks = s.marks := by
  simp only [State.report]; repeat (first | rfl | split)
@[simp] theorem State.report_markLf (r : Rec) : (s.report r).markLf = s.markLf := by
  simp only [State.report]; repeat (first | rfl | split)
@[simp] theorem State.report_markUf (r : Rec) : (s.report r).markUf = s.markUf := by
  simp only [State.report]; repeat (first | rfl | split)
@[simp] theorem State.report_ports (r : Rec) : (s.report r).ports = s.ports := by
  simp only [State.report]; repeat (first | rfl | split)
@[simp] theorem State.report_fab (r : Rec) : (s.report r).fab = s.fab := by
  simp only [State.report]; repeat (first | rfl | split)
@[simp] theorem State.report_hild (r : Rec) : (s.report r).hild = s.hild := by
  simp only [State.report]; repeat (first | rfl | split)
@[simp] theorem State.report_mgp (r : Rec) : (s.report r).mgp = s.mgp := by
  simp only [State.report]; repeat (first | rfl | split)
@[simp] theorem State.report_fuses (r : Rec) : (s.report r).fuses = s.fuses := by
  simp only [State.report]; repeat (first | rfl | split)
@[simp] theorem State.report_pwr (r : Rec) : (s.report r).pwr = s.pwr := by
  simp only [State.report]; repeat (first | rfl | split)
@[simp] theorem State.report_thm (r : Rec) : (s.report r).thm = s.thm := by
  simp only [State.report]; repeat (first | rfl | split)
@[simp] theorem State.report_bup (r : Rec) : (s.report r).bup = s.bup := by
  simp only [State.report]; repeat (first | rfl | split)
@[simp] theorem State.report_sec (r : Rec) : (s.report r).sec = s.sec := by
  simp only [State.report]; repeat (first | rfl | split)
@[simp] theorem State.report_trc (r : Rec) : (s.report r).trc = s.trc := by
  simp only [State.report]; repeat (first | rfl | split)
@[simp] theorem State.report_pins (r : Rec) : (s.report r).pins = s.pins := by
  simp only [State.report]; repeat (first | rfl | split)

/-! Corrections and poisonings in place touch the accounts and records, no memory (R294, R295). -/

@[simp] theorem State.ceOverflow_mem (l n : Nat) : (s.ceOverflow l n).mem = s.mem := by simp [State.ceOverflow]
@[simp] theorem State.ueRec_mem (a b c : Nat) (w : W32) (o : Nat) (y : Byte) (k : Nat) : (s.ueRec a b c w o y k).mem = s.mem := by
  simp [State.ueRec]
@[simp] theorem State.listRow_mem (st pc row : Nat) : (s.listRow st pc row).mem = s.mem := by
  simp only [State.listRow]; repeat (first | rfl | split | simp)
@[simp] theorem State.hbmCe_mem (o : Nat) : (s.hbmCe o).mem = s.mem := by
  simp only [State.hbmCe]; repeat (first | rfl | split | simp)
@[simp] theorem State.bedCe_mem (p o : Nat) : (s.bedCe p o).mem = s.mem := by
  simp only [State.bedCe]; repeat (first | rfl | split | simp)
@[simp] theorem State.lfCe_mem (t : Nat) : (s.lfCe t).mem = s.mem := by
  simp only [State.lfCe]; repeat (first | rfl | split | simp)
@[simp] theorem State.eccEvent_mem (pl : Place) (w : W32) (e : EccEvent) : (s.eccEvent pl w e).mem = s.mem := by
  cases pl <;> simp only [State.eccEvent] <;> split <;> simp
theorem State.eccEvents_mem (pl : Place) (w : W32) (es : List EccEvent) :
    ∀ s : State, (es.foldl (fun s e => s.eccEvent pl w e) s).mem = s.mem := by
  induction es with
  | nil => intro s; rfl
  | cons e es ih => intro s; rw [List.foldl_cons, ih, State.eccEvent_mem]
@[simp] theorem State.wake_mem (pl : Place) : (s.wake pl).mem = s.mem := by
  cases pl <;> simp only [State.wake] <;> repeat (first | rfl | split)
@[simp] theorem State.wake_memAt (pl q : Place) : (s.wake pl).memAt q = s.memAt q := by
  cases q <;> simp [State.memAt]

/-! What a stack does around a read or a write of HBM (R287). -/

@[simp] theorem State.wake_stack (pl : Place) (n : Nat) : ((s.wake pl).stack n).faulty = (s.stack n).faulty := by
  cases pl with
  | hbm o =>
    simp only [State.wake]
    split
    · by_cases h : n = sliceOf (o / 256)
      · subst h; simp [Stack.faulty]
      · rw [State.stack_updStack_ne _ _ h]
    · rfl
  | _ => rfl

/-- Whether nothing stands between a place and its memory: no error of the stack that holds it. -/
def State.quiet (s : State) : Place → Bool
  | .hbm a => !(s.stack (sliceOf (a / 256))).faulty
  | _ => true

theorem State.beforeRead_quiet (pl : Place) (len : Nat) (w : W32) (h : s.quiet pl = true) :
    (s.wake pl).beforeRead pl len w = s.wake pl := by
  cases pl with
  | hbm a => simp only [State.quiet, Bool.not_eq_true'] at h; simp [State.beforeRead, h]
  | _ => rfl

theorem State.beforeWrite_quiet (pl : Place) (us : List (Option PByte)) (w : W32) (h : s.quiet pl = true) :
    (s.wake pl).beforeWrite pl us w = (s.wake pl, true) := by
  cases pl with
  | hbm a => simp only [State.quiet, Bool.not_eq_true'] at h; simp [State.beforeWrite, h]
  | _ => rfl

theorem State.poisonHbm_wf (w : Nat) (h : s.mem.wf = true) : (s.poisonHbm w).mem.wf = true := by
  rw [Mems.wf_iff] at h
  exact (Mems.wf_iff _).2 ⟨EccMem.poisonWord_wf _ _ h.1, h.2⟩

theorem State.foldl_wf {β : Type} (f : State → β → State) (hf : ∀ s b, s.mem.wf = true → (f s b).mem.wf = true) (bs : List β) :
    ∀ s : State, s.mem.wf = true → (bs.foldl f s).mem.wf = true := by
  induction bs with
  | nil => intro s h; exact h
  | cons b bs ih => intro s h; exact ih _ (hf s b h)

theorem State.hbmCommand_wf (a n : Nat) (w : W32) (h : s.mem.wf = true) : (s.hbmCommand a n w).1.mem.wf = true := by
  simp only [State.hbmCommand]
  split
  · split <;> simpa using h
  · exact State.foldl_wf _ (fun s i h => State.poisonHbm_wf s _ h) _ _ (by simpa using h)

theorem State.dieRead_wf (a : Nat) (w : W32) (h : s.mem.wf = true) : (s.dieRead a w).mem.wf = true := by
  simp only [State.dieRead]
  split
  · exact State.poisonHbm_wf _ _ (by simpa using h)
  · split <;> simpa using h

theorem State.beforeRead_wf (pl : Place) (len : Nat) (w : W32) (h : s.mem.wf = true) : (s.beforeRead pl len w).mem.wf = true := by
  cases pl with
  | hbm a =>
    simp only [State.beforeRead]
    split
    · exact h
    · have hc := State.hbmCommand_wf s (a / 8) (wordSpan a len) w h
      split
      · exact State.foldl_wf _ (fun s i h => State.dieRead_wf s _ w h) _ _ hc
      · exact hc
  | _ => exact h

theorem State.beforeWrite_wf (pl : Place) (us : List (Option PByte)) (w : W32) (h : s.mem.wf = true) :
    (s.beforeWrite pl us w).1.mem.wf = true := by
  cases pl with
  | hbm a =>
    simp only [State.beforeWrite]
    split
    · exact h
    · have hc := State.hbmCommand_wf s (a / 8) (wordSpan a us.length) w h
      split
      · exact hc
      · simpa using State.foldl_wf _ (fun s i h => State.dieRead_wf s _ w h) _ _ hc
  | _ => exact h

/-- An object of the dictionary reads as it was set. -/
@[simp] theorem State.odGet_odSet (i j : Nat) (v : W64) : (s.odSet i j v).odGet i j = v := by
  simp [State.odGet, State.odSet]

/-- A read or a write at a place keeps every memory canonical; of a quiet place it changes that memory only. -/
theorem State.memRead_mem (pl : Place) (len : Nat) (w : W32) (h : s.quiet pl = true) :
    (s.memRead pl len w).2.mem = (s.setMem pl ((s.memAt pl).read pl.addr len).2.1).mem := by
  simp only [State.memRead, State.beforeRead_quiet s pl len w h, State.eccEvents_mem, State.wake_memAt]
  cases pl <;> simp [State.setMem]
theorem State.memRead_bytes (pl : Place) (len : Nat) (w : W32) (h : s.quiet pl = true) :
    (s.memRead pl len w).1 = ((s.memAt pl).read pl.addr len).1 := by
  simp only [State.memRead, State.beforeRead_quiet s pl len w h, State.wake_memAt]
theorem State.memRead_wf (pl : Place) (len : Nat) (w : W32) (h : s.mem.wf = true) : (s.memRead pl len w).2.mem.wf = true := by
  have hb := State.beforeRead_wf (s.wake pl) pl len w (by simpa using h)
  simp only [State.memRead, State.eccEvents_mem]
  exact State.setMem_wf _ pl _ hb (EccMem.read_wf _ _ _ (State.memAt_wf _ pl hb))
theorem State.memWrite_mem (pl : Place) (us : List (Option PByte)) (w : W32) (h : s.quiet pl = true) :
    (s.memWrite pl us w).mem = (s.setMem pl ((s.memAt pl).writeMasked pl.addr us).1).mem := by
  simp only [State.memWrite, State.beforeWrite_quiet s pl us w h, State.wake_memAt]
  rw [if_neg (by simp), State.eccEvents_mem]
  cases pl <;> simp [State.setMem]
theorem State.memWrite_wf (pl : Place) (us : List (Option PByte)) (w : W32) (h : s.mem.wf = true) :
    (s.memWrite pl us w).mem.wf = true := by
  have hb := State.beforeWrite_wf (s.wake pl) pl us w (by simpa using h)
  simp only [State.memWrite]
  split
  · exact hb
  · rw [State.eccEvents_mem]
    exact State.setMem_wf _ pl _ hb (EccMem.writeMasked_wf _ _ _ (State.memAt_wf _ pl hb))

end Sys2Proof.Machine
end

