-- ==== Sys2Proof/Tests/Base.lean ====
section
/-! SUPPORT. Small states and helpers for the tests: each test shows a concrete state that meets the hypotheses of one clause of a
statement, and what one command does to one or two fields of it. -/

namespace Sys2Proof.Tests
open Sys2Proof Sys2Proof.Machine

set_option Elab.async false

/-- The state after a command, the state itself where the command stops. -/
def after (c : Instr) (s : State) : State := match exec c s with | .next s' => s' | _ => s

/-- Whether a command answers a next state. -/
def goes (c : Instr) (s : State) : Bool := match exec c s with | .next _ => true | _ => false

/-- Access tables that grant every master and context every right. -/
def openTables : SMap ActTable :=
  (List.range 20).map (fun t => (t, { ActTable.init t with entries := [(0, {
    base := 0, limit := 0xFFFF_FFFF_FFFF_FFFF, ctrl := 0x8000_0000_0000_0000 ||| 0x021F_FFFF_03FF_0000 })] }))

/-- The device after bring-up in short: tables open, firmware running, device READY. -/
def sUp : State :=
  { State.reset with act := openTables, startupHold := false, sched := { Sched.init with running := true },
                     bup := { Bup.init with fw := true, state := 1, stage := 6 }, pwr := { Pwr.init with converter := true } }

/-- An instruction word: class and the rest. -/
def word (cls rest : Nat) : W32 := BitVec.ofNat 32 (cls * 2 ^ 26 + rest)

/-- A tile whose core runs at the word w with registers g. -/
def coreTile (w : W32) (g : SMap W64) : Tile :=
  { Tile.init with role := 0, logical := 0, task := some (0, 0), ctx := 1,
                   core := { Core.init with st := 1, pc := 0x40, g := g, icache := [(1, clean (leBytes 4 w.toNat))] } }

/-- sUp with one tile. -/
def sTile (t : Nat) (x : Tile) : State := { sUp with tiles := [(t, x)] }

/-- The core of tile 3 at a word. -/
def sCore (w : W32) (g : SMap W64) : State := sTile 3 (coreTile w g)

/-- A write of the management core 0, and what arrives. -/
def wrW (off len : Nat) (data : W64) : Wr := { rq := none, mid := 0xE8, addr := BitVec.ofNat 64 off, len := len, data := data }
def wrX (off len : Nat) (data : W64) : WrIn := { who := .mgt 0, ctx := 0, off := off, len := len, data := data }

/-- Whether the write reaches its offset. -/
def lands (s : State) (off len : Nat) (data : W64) : Bool :=
  (s.takeWr (wrW off len data) (fun o => o == (wrX off len data).off)).2 == some (wrX off len data)

/-- The codes of the records that wait. -/
def codes (s : State) : List (Nat × Nat × Nat) := s.rel.queue.map (fun r => (r.cls, r.code, r.sev))

end Sys2Proof.Tests
end

