-- ==== Sys2Proof/Tests/Core.lean ====
section
/-! SUPPORT. Tests of the control core (R117–R137): words written from the encoding of R123. -/

namespace Sys2Proof.Tests
open Sys2Proof Sys2Proof.Machine

set_option Elab.async false

/-- ALU word: func, rd, ra, rb. -/
def wAlu (f rd ra rb : Nat) : W32 := word 0 (rd * 2 ^ 21 + ra * 2 ^ 16 + rb * 2 ^ 11 + f)
def wAlui (f rd ra imm : Nat) : W32 := word 1 (rd * 2 ^ 21 + ra * 2 ^ 16 + f * 2 ^ 12 + imm)
def wMem (f rd ra off : Nat) : W32 := word 3 (rd * 2 ^ 21 + ra * 2 ^ 16 + f * 2 ^ 13 + off)
def wBr (c ra rb off : Nat) : W32 := word 4 (c * 2 ^ 23 + ra * 2 ^ 18 + rb * 2 ^ 13 + off)
def wIssue (f ra mover any : Nat) : W32 := word 8 (ra * 2 ^ 16 + f * 2 ^ 12 + mover * 2 ^ 10 + any * 2 ^ 9)
def wSb (f tag rd : Nat) : W32 := word 9 (f * 2 ^ 22 + tag * 2 ^ 16 + rd * 2 ^ 11)
def wSys (f reg num : Nat) : W32 := word 10 (f * 2 ^ 22 + reg * 2 ^ 17 + num)

/-- MULHU of the greatest values; R123. -/
theorem test_alu_mulhu :
    let s := sCore (wAlu 11 5 1 2) [(1, 0xFFFF_FFFF_FFFF_FFFF), (2, 0xFFFF_FFFF_FFFF_FFFF)]
    s.coreAt 3 (wAlu 11 5 1 2) = true ∧ insClass (wAlu 11 5 1 2) = 0 ∧
    ((after (.alu 3) s).core 3).reg 5 = 0xFFFF_FFFF_FFFF_FFFE ∧ ((after (.alu 3) s).core 3).pc = 0x44 := by decide +kernel

/-- SRA shifts in the sign, by rb bits 5:0; R123. -/
theorem test_alu_sra :
    let s := sCore (wAlu 7 5 1 2) [(1, 0x8000_0000_0000_0000), (2, 0x43)]
    ((after (.alu 3) s).core 3).reg 5 = 0xF000_0000_0000_0000 := by decide +kernel

/-- ADDI sign-extends its 12 bits; R123. -/
theorem test_alui_negative :
    let s := sCore (wAlui 0 1 1 0xFFF) [(1, 5)]
    s.coreAt 3 (wAlui 0 1 1 0xFFF) = true ∧ insClass (wAlui 0 1 1 0xFFF) = 1 ∧ ((after (.alui 3) s).core 3).reg 1 = 4 := by
  decide +kernel

/-- g0 discards what is written; R117. -/
theorem test_alui_g0 :
    ((after (.alui 3) (sCore (wAlui 0 0 1 7) [(1, 5)])).core 3).reg 0 = 0 := by decide +kernel

/-- IMMW at position 3 leaves the other bits; R123. -/
theorem test_immw_pos3 :
    let w := word 2 (4 * 2 ^ 21 + 3 * 2 ^ 16 + 0xABCD)
    let s := sCore w [(4, 0x1111_2222_3333_4444)]
    s.coreAt 3 w = true ∧ insClass w = 2 ∧ ((after (.immw 3) s).core 3).reg 4 = 0xABCD_2222_3333_4444 := by decide +kernel

/-- BR LT, taken backwards; R123. -/
theorem test_br_back :
    let w := wBr 2 1 2 0x1FFF
    let s := sCore w [(1, 0xFFFF_FFFF_FFFF_FFFF), (2, 0)]
    s.coreAt 3 w = true ∧ insClass w = 4 ∧ ((after (.br 3) s).core 3).pc = 0x3C := by decide +kernel

/-- BR LTU is unsigned: not taken; R123. -/
theorem test_br_ltu :
    ((after (.br 3) (sCore (wBr 4 1 2 0x1FFF) [(1, 0xFFFF_FFFF_FFFF_FFFF), (2, 0)])).core 3).pc = 0x44 := by decide +kernel

/-- JAL by the greatest negative distance wraps; R123. -/
theorem test_jal_wraps :
    let w := word 5 (1 * 2 ^ 21 + 0x10_0000)
    let s := sCore w []
    s.coreAt 3 w = true ∧ insClass w = 5 ∧ ((after (.jal 3) s).core 3).pc = 0xFFFF_FFFF_FFC0_0040 ∧
    ((after (.jal 3) s).core 3).reg 1 = 0x44 := by decide +kernel

/-- JALR with rd = ra jumps to the old ra; R123. -/
theorem test_jalr_same :
    let w := word 6 (1 * 2 ^ 21 + 1 * 2 ^ 16)
    let s := sCore w [(1, 0x800)]
    s.coreAt 3 w = true ∧ insClass w = 6 ∧ ((s.core 3).reg (insRa w)).toNat % 4 = 0 ∧
    ((after (.jalr 3) s).core 3).pc = 0x800 ∧ ((after (.jalr 3) s).core 3).reg 1 = 0x44 := by decide +kernel

/-- NOP, and END without a claim; R122, R123. -/
theorem test_nop_end :
    (sCore (wSys 0 0 0) []).coreAt 3 (wSys 0 0 0) = true ∧ insClass (wSys 0 0 0) = 10 ∧ insFunc (wSys 0 0 0) = 0 ∧
    ((after (.nop 3) (sCore (wSys 0 0 0) [])).core 3).pc = 0x44 ∧
    (sCore (wSys 3 0 0) []).coreAt 3 (wSys 3 0 0) = true ∧ insFunc (wSys 3 0 0) = 3 ∧
    ((after (.coreEnd 3) (sCore (wSys 3 0 0) [])).core 3).st = 0 ∧ ((after (.coreEnd 3) (sCore (wSys 3 0 0) [])).core 3).ended = true := by
  decide +kernel

/-- A word of GEN 1 faults before anything else, an undefined class next, a reserved bit last; R124. -/
theorem test_check_order :
    ((after (.alu 3) (sCore (0x4000_0000 ||| word 15 0x7C0) [])).core 3).fault = 0x8000_7C00_07C0_0501 ∧
    ((after (.alu 3) (sCore (word 15 0x7C0) [])).core 3).fault = 0x8000_3C00_07C0_0502 ∧
    ((after (.alu 3) (sCore (word 0 0x40) [])).core 3).fault = 0x8000_0000_0040_0503 ∧
    ((after (.alu 3) (sCore (word 0 0x40) [])).core 3).st = 5 := by decide +kernel

/-- An aligned load of 8 bytes of HBM, and one of a negative offset; R120. -/
theorem test_core_load :
    let s := sCore (wMem 3 5 1 0x1FF8) [(1, 0x1000)]
    s.coreAt 3 (wMem 3 5 1 0x1FF8) = true ∧ insClass (wMem 3 5 1 0x1FF8) = 3 ∧ insFunc (wMem 3 5 1 0x1FF8) = 3 ∧
    (s.checkAccess 3 1 .R 0xFF8 8).toOption.isSome = true ∧
    ((after (.coreLoad 3) s).core 3).st = 3 ∧ ((after (.coreLoad 3) s).core 3).wait = some (.load 5 8 1) ∧
    ((after (.coreLoad 3) s).reqs.map (fun r => (r.addr, r.len))) = [(0xFF8, 8)] := by decide +kernel

/-- A store of 2 bytes is posted; R120. -/
theorem test_core_store :
    let s := sCore (wMem 5 5 1 2) [(1, 0x1000), (5, 0xABCDEF)]
    s.coreAt 3 (wMem 5 5 1 2) = true ∧ insFunc (wMem 5 5 1 2) = 5 ∧ (s.checkAccess 3 1 .W 0x1002 2).toOption.isSome = true ∧
    ((after (.coreStore 3) s).core 3).pc = 0x44 ∧
    ((after (.coreStore 3) s).reqs.map (fun r => (r.addr, vals r.data))) = [(0x1002, [0xEF, 0xCD])] := by decide +kernel

/-- A returned load zero-extends into its register; R120. -/
theorem test_core_load_return :
    let s := { sTile 3 { coreTile 0 [] with core := { (coreTile 0 []).core with st := 3, wait := some (.load 5 4 1) } } with
      reqs := [{ newReq (.core 3) 1 .load 0x1000 4 (clean [0xFF, 0xFF, 0xFF, 0xFF]) 0 with id := 1, st := .done }] }
    (s.core 3).wait = some (.load 5 4 1) ∧ (s.findReq 1).isSome = true ∧
    ((after (.coreLoadReturn 3) s).core 3).reg 5 = 0xFFFF_FFFF ∧ ((after (.coreLoadReturn 3) s).core 3).st = 1 ∧
    (after (.coreLoadReturn 3) s).reqs = [] := by decide +kernel

/-- A line at the PC whose data has come is taken; one that has not been asked for is asked for; R119. -/
theorem test_insn_fetch :
    let x := coreTile 0 []
    let s0 := sTile 3 { x with core := { x.core with pc := 0x1040, icache := [] } }
    let s := { s0 with reqs := [{ newReq (.core 3) 1 .load 0x1040 64 (clean (leBytes 64 0x1234)) 0 with id := 1, direct := true, st := .done }] }
    (s.tile 3).coreRuns = true ∧ cachedWord (s.core 3).icache (s.core 3).pc = none ∧ (s.core 3).icPerr.contains 0x41 = false ∧
    (s.dbg 3).bpAt (s.core 3).pc = none ∧ (match (s.directRead (.core 3) 1 .X 0x1040 64 0).2 with | .bytes b => b.length | _ => 0) = 64 ∧
    ((after (.insnFetchReturn 3) s).core 3).word = 0x1234 ∧
    (after (.insnFetchReturn 3) s0).reqs.map (fun r => (r.addr, r.len)) = [(0x1040, 64)] := by decide +kernel

/-- Words of an INT8 pass of one row and one column; R66. -/
def passWords : List W64 :=
  [0x1440, 0x0301_0200_0101_0001, 0x1000, 0x0000_0040_0000_0000, 0x0000_0040_0001_0000, 0, 0, 0]

/-- Words of a COPY of one row of 64 bytes, reading under tag 4, writing under tag 5; R128. -/
def dmaWords : List W64 := [0x0314_1000_0001_0000, 0x1000, 0x2000, 64]

/-- ISSUE PASS, DMA and KLAUNCH put the core in state 2 where no descriptor can be accepted yet; R127. -/
theorem test_issue_stalls :
    let busy : List Req := [{ newReq (.core 3) 1 .store 0x1000 8 [] 0 with id := 1 }]
    let st := fun (f : Nat) (c : Instr) => let s := { sCore (wIssue f 1 0 0) [(1, 0x5F_FFC0)] with reqs := busy }
      (s.coreAt 3 (wIssue f 1 0 0), insFunc (wIssue f 1 0 0) == f, ((after c s).core 3).st, ((after c s).core 3).issue.map (fun i => i.addr))
    st 0 (.pass 3) = (true, true, 2, some 0x5F_FFC0) ∧ st 2 (.dma 3) = (true, true, 2, some 0x5F_FFC0) ∧
    st 3 (.klaunch 3) = (true, true, 2, some 0x5F_FFC0) := by decide +kernel

/-- PASSR with ra 24 is accepted at once: the pass joins the queue, its three tags are registered; R127, R132. -/
theorem test_passr :
    let g : SMap W64 := (List.range 8).map (fun i => (24 + i, passWords.getD i 0))
    let s := sCore (wIssue 1 24 0 0) (g.filter (fun e => e.1 < 32))
    s.coreAt 3 (wIssue 1 24 0 0) = true ∧ insRa (wIssue 1 24 0 0) = 24 ∧
    ((after (.passr 3) s).arr 3).passes.length = 1 ∧ ((after (.passr 3) s).tile 3).sb.map (fun r => r.tag) = [1, 2, 3] := by decide +kernel

/-- A stalled ISSUE with its descriptor read. -/
def sIssue (f : Nat) (ws : List W64) : State :=
  let x := coreTile 0 []
  sTile 3 { x with core := { x.core with st := 2, issue := some { func := f, mover := none, addr := 0x100, words := some ws } } }

/-- A DMA descriptor that passes its checks joins the first mover with a place; R129. -/
theorem test_accept_dma :
    let s := sIssue 2 dmaWords
    (Dd.ofWords dmaWords).check = none ∧ (s.tile 3).moverFor none = some 0 ∧ s.storesDone (fun w => w == .core 3) = true ∧
    (s.dbg 3).state = 0 ∧ ((after (.issueAccept 3) s).core 3).st = 1 ∧
    ((after (.issueAccept 3) s).tile 3).sb.map (fun r => (r.tag, r.rdIn, r.wrIn)) = [(4, true, false), (5, false, true)] := by
  decide +kernel

/-- A pass and a kernel descriptor are accepted; R68, R130. -/
theorem test_accept_pass_kernel :
    let kw : List W64 := [0x0000_0001_0000_0001, 0x4000, 0, 0]
    (Pd.ofWords passWords).check none = none ∧ ((after (.issueAccept 3) (sIssue 0 passWords)).arr 3).passes.length = 1 ∧
    (Kl.ofWords kw).check = none ∧ ((after (.issueAccept 3) (sIssue 3 kw)).tge 3).kq.length = 1 := by decide +kernel

/-- A registration of operation 0 on a tag. -/
def sbReg (tag : Nat) (rd wr claim : Bool) : SbReg :=
  { op := 0, unit := .core 3, isPass := false, tag := tag, rdIn := rd, rdOut := false, wrIn := wr, wrOut := false,
    pend := [if claim then .claim else .srcRead] }

/-- The core of tile 3 at an SB word with a scoreboard; its next operation is number 7. -/
def sSb (w : W32) (sb : List SbReg) : State :=
  let x := coreTile w []
  sTile 3 { x with sb := sb, core := { x.core with nextOp := 7 } }

/-- TWAIT waits for a write and not for a read; TDRAIN waits for both; R136. -/
theorem test_twait_tdrain :
    (sSb (wSb 0 63 0) []).coreAt 3 (wSb 0 63 0) = true ∧ insClass (wSb 0 63 0) = 9 ∧
    ((after (.twait 3) (sSb (wSb 0 63 0) [sbReg 63 true false false])).core 3).st = 1 ∧
    ((after (.twait 3) (sSb (wSb 0 63 0) [sbReg 63 false true false])).core 3).st = 3 ∧
    (sSb (wSb 1 63 0) []).coreAt 3 (wSb 1 63 0) = true ∧ insFunc (wSb 1 63 0) = 1 ∧
    ((after (.tdrain 3) (sSb (wSb 1 63 0) [sbReg 63 true false false])).core 3).st = 3 := by decide +kernel

/-- TCLAIM adds a claim, TREL removes it, TSTATE reads it; R136. -/
theorem test_tclaim_trel_tstate :
    (sSb (wSb 2 0 0) []).coreAt 3 (wSb 2 0 0) = true ∧ insFunc (wSb 2 0 0) = 2 ∧
    hasClaim ((after (.tclaim 3) (sSb (wSb 2 0 0) [])).tile 3).sb 0 = true ∧
    (sSb (wSb 3 9 0) [sbReg 9 false true true]).coreAt 3 (wSb 3 9 0) = true ∧ insFunc (wSb 3 9 0) = 3 ∧
    hasClaim [sbReg 9 false true true] 9 = true ∧ ((after (.trel 3) (sSb (wSb 3 9 0) [sbReg 9 false true true])).tile 3).sb = [] ∧
    (sSb (wSb 4 9 8) [sbReg 9 false true true]).coreAt 3 (wSb 4 9 8) = true ∧ insFunc (wSb 4 9 8) = 4 ∧
    ((after (.tstate 3) (sSb (wSb 4 9 8) [sbReg 9 false true true])).core 3).reg 8 = 5 := by decide +kernel

/-- FENCE goes on with no store out, waits with one; R121. -/
theorem test_fence :
    let s := sCore (wSys 5 0 0) []
    s.coreAt 3 (wSys 5 0 0) = true ∧ insFunc (wSys 5 0 0) = 5 ∧ ((after (.fence 3) s).core 3).pc = 0x44 ∧
    ((after (.fence 3) { s with reqs := [{ newReq (.core 3) 1 .store 0x1000 8 [] 0 with id := 1 }] }).core 3).wait = some .fence := by
  decide +kernel

/-- The scoreboard watchdog records SB_TIMEOUT; R137. -/
theorem test_sb_timeout :
    let s := sSb 0 [sbReg 63 false true false]
    (s.tile 3).sb.find? (fun r => r.tag == 63) = some (sbReg 63 false true false) ∧ (s.dbg 3).state ≠ 2 ∧ (s.tile 3).aborting = false ∧
    (after (.sbTimeout 3 63) s).rel.queue.map (fun r => (r.cls, r.code, r.sev)) = [(5, 0x10, 1)] := by decide +kernel

/-- MFC reads TILE_STATUS's tile, MTC bounds SYN_TIMEOUT; R126, R208. -/
theorem test_mfc_mtc :
    (sCore (wSys 1 5 0x22) []).coreAt 3 (wSys 1 5 0x22) = true ∧ insFunc (wSys 1 5 0x22) = 1 ∧
    ((after (.mfc 3) (sCore (wSys 1 5 0x22) [])).core 3).reg 5 = 100000 ∧
    (sCore (wSys 2 5 0x22) [(5, 60000000)]).coreAt 3 (wSys 2 5 0x22) = true ∧ insFunc (wSys 2 5 0x22) = 2 ∧
    ((after (.mtc 3) (sCore (wSys 2 5 0x22) [(5, 60000000)])).core 3).timeout = 60000000 ∧
    ((after (.mtc 3) (sCore (wSys 2 5 0x1F) [(5, 9)])).core 3).pc = 0x44 ∧
    (((sCore (wSys 2 5 0x20) [(5, 0x8000_0000_0000_0000)]).core 3).reg 5).getLsbD 63 = true ∧
    ((after (.mtc 3) (sCore (wSys 2 5 0x20) [(5, 0x8000_0000_0000_0000)])).core 3).pc = 0x44 := by decide +kernel

/-- BRK starts a drain with the PC on it; R500. -/
theorem test_brk :
    let s := sCore (wSys 4 0 0) []
    s.coreAt 3 (wSys 4 0 0) = true ∧ insFunc (wSys 4 0 0) = 4 ∧ (s.dbg 3).state = 0 ∧ ((after (.brk 3) s).dbg 3).state = 1 ∧
    ((after (.brk 3) s).dbg 3).cause = 2 ∧ ((after (.brk 3) s).core 3).pc = 0x40 := by decide +kernel

end Sys2Proof.Tests
end

