-- ==== Sys2Proof/Tests/Array.lean ====
section
/-! SUPPORT. Tests of the matrix array and the movers (R66–R140). -/

namespace Sys2Proof.Tests
open Sys2Proof Sys2Proof.Machine

set_option Elab.async false

/-- A pass of passWords. -/
def pass0 : Pass := Pass.new (Pd.ofWords passWords) 0 0

/-- Tile 3 with an array, its Upper Face region powered. -/
def sArr (a : Arr) (sb : List SbReg) : State :=
  { sTile 3 { coreTile 0 [] with arr := a, sb := sb } with regions := [(8, { Region.init with state := 3, hold := false })] }

/-- An array in ON that holds passes. -/
def arrOn (ps : List Pass) : Arr := { Arr.init with ramp := 2, blocks := 8, passes := ps }

/-- Weights of the INT8 pass: element (0, 0) is 3, the others are left out and count as zero. -/
def wset0 : WSet :=
  { mode := 0, wFmt := 4, aFmt := 4, bscale := false, intScale := false, kBlocks := 1,
    w := clean [3], s := [] }

/-- A registration of the pass. -/
def passReg (tag : Nat) (rd wr : Bool) (e : SbEvent) : SbReg :=
  { op := 0, unit := .array 3, isPass := true, tag := tag, rdIn := rd, rdOut := false, wrIn := false, wrOut := wr, pend := [e] }

/-- The first queued pass loads its weights (cut to none here) by a stall reload; R73. -/
theorem test_weight_load :
    let p := { pass0 with pd := { pass0.pd with kBlocks := 0 } }
    let s := sArr (arrOn [p]) []
    (s.arr 3).nextLoad = some ([], p) ∧ s.passMayBegin 3 = true ∧ p.pd.keep = false ∧ p.cut = false ∧
    mayRead [] p.op p.pd.tagW false = true ∧
    ((after (.weightLoadStart 3) s).arr 3).stallCount = 1 ∧
    ((after (.weightLoadStart 3) s).arr 3).passes.map (fun p => p.st) = [PassSt.loading] := by decide +kernel

/-- The end of the load releases TAG_W; R73. -/
theorem test_shadow_done :
    let p := { pass0 with st := .loading, wset := some wset0 }
    let s := sArr (arrOn [p]) [passReg 2 true false .shadow]
    (s.arr 3).passes.find? (fun p => p.st == .loading) = some p ∧ (s.arr 3).stuck = false ∧
    ((after (.shadowLoadComplete 3) s).tile 3).sb = [] ∧
    ((after (.shadowLoadComplete 3) s).arr 3).passes.map (fun p => p.st) = [PassSt.loaded] := by decide +kernel

/-- Row 0 of a loaded pass enters: with one row the pass drains at once; R70. -/
theorem test_pass_start :
    let p := { pass0 with st := .loaded, wset := some wset0 }
    let s := sArr (arrOn [p]) []
    (s.arr 3).head = some p ∧ p.rowsIn = 0 ∧ p.noStart = false ∧ (s.arr 3).works = true ∧ (s.dbg 3).mayBegin = true ∧
    (s.tile 3).aborting = false ∧ mayWrite [] p.op p.pd.tagOut true = true ∧ (s.arr 3).rowFree p 0 = true ∧
    ((after (.passStart 3 0) s).arr 3).passes.map (fun p => (p.st, p.rowsIn)) = [(PassSt.draining, 1)] := by decide +kernel

/-- The second of two rows enters after 5 held steps; R75. -/
theorem test_row_admit :
    let p := { pass0 with pd := { pass0.pd with m := 2 }, st := .streaming, rowsIn := 1, wset := some wset0 }
    let s := sArr (arrOn [p]) []
    (s.arr 3).head = some p ∧ p.cut = false ∧ (s.arr 3).works = true ∧ (s.arr 3).rowFree p p.rowsIn = true ∧
    ((after (.rowAdmit 3 5) s).arr 3).passes.map (fun p => (p.st, p.rowsIn)) = [(PassSt.draining, 2)] ∧
    ((after (.rowAdmit 3 5) s).arr 3).stallSteps = 5 := by decide +kernel

/-- The result of −2 · 3 is written as INT32; R61, R71. -/
theorem test_out_result :
    let row := (clean ([0xFE] ++ List.replicate 31 0), ([] : List PByte))
    let p := { pass0 with st := .draining, rowsIn := 1, wset := some wset0, rows := [(0, row)] }
    let s := sArr (arrOn [p]) []
    (s.arr 3).passes.find? (fun p => p.op == 0) = some p ∧ SMap.find p.rows 0 = some row ∧ p.colsDone 0 < p.pd.nCols ∧
    (s.arr 3).columnFree p 0 0 = true ∧ (s.arr 3).works = true ∧ p.pd.accumulate = false ∧
    ((SMap.get EccMem.swept (after (.outResultWritten 3 0 0) s).mem.stores 3).peek 0x10000 4) = [0xFA, 0xFF, 0xFF, 0xFF] := by
  decide +kernel

/-- A second pass that accumulates waits with its row until the first has written the element, and adds to what stands there; R75. -/
theorem test_out_accumulate :
    let row := (clean ([0xFE] ++ List.replicate 31 0), ([] : List PByte))
    let p := { pass0 with st := .draining, rowsIn := 1, wset := some wset0, rows := [(0, row)] }
    let q := { p with op := 1, pd := { p.pd with accumulate := true } }
    let s := sArr (arrOn [p, q]) []
    (s.arr 3).rowFree { q with rowsIn := 0 } 0 = false ∧ (s.arr 3).interlockFree q (q.pd.outAt 0 0) = false ∧
    (let s1 := after (.passDone 3) (after (.outResultWritten 3 0 0) s)
     (s1.arr 3).interlockFree q (q.pd.outAt 0 0) = true ∧ (s1.arr 3).columnFree q 0 0 = true ∧
     ((SMap.get EccMem.swept (after (.outResultWritten 3 1 0) s1).mem.stores 3).peek 0x10000 4) = [0xF4, 0xFF, 0xFF, 0xFF]) := by
  decide +kernel

/-- The pass whose results are all written leaves the array and releases TAG_OUT; R71. -/
theorem test_pass_done :
    let p := { pass0 with st := .draining, rowsIn := 1, colsOut := [(0, 1)] }
    let s := sArr (arrOn [p]) [passReg 3 false true .results]
    p.allOut = true ∧ ((after (.passDone 3) s).arr 3).passes = [] ∧ ((after (.passDone 3) s).tile 3).sb = [] := by decide +kernel

/-- A token is granted for ramp-on and for ramp-off; R102. -/
theorem test_ramp_token :
    let s := fun want => sArr { Arr.init with want := want } []
    (s 1).tokensTaken 0 < (s 1).odNat 0x2A00 8 ∧ ((s 1).arr 2).want = 0 ∧
    ((after (.rampTokenGrant 3 9) (s 1)).arr 3).ramp = 1 ∧ ((after (.rampTokenGrant 3 9) (s 1)).arr 3).tokenWait = 9 ∧
    ((after (.rampTokenGrant 3 9) (s 2)).arr 3).ramp = 3 := by decide +kernel

/-- The last step of a ramp-on gives the token back; of a ramp-off ends in OFF; R100. -/
theorem test_ramp_end :
    let s := fun ramp blocks => sArr { Arr.init with ramp := ramp, blocks := blocks, token := true } []
    ((after (.rampStep 3) (s 1 7)).arr 3).blocks = 8 ∧ ((after (.rampStep 3) (s 1 8)).arr 3).ramp = 2 ∧
    ((after (.rampStep 3) (s 1 8)).arr 3).token = false ∧ ((after (.rampStep 3) (s 3 1)).arr 3).blocks = 0 ∧
    ((after (.rampStep 3) (s 3 0)).arr 3).ramp = 0 := by decide +kernel

/-- A pass that came during the ramp-off asks for power again, or waits in RIDDLE where one is requested; R105, R111. -/
theorem test_ramp_end_queued :
    let s := sArr { Arr.init with ramp := 3, token := true, passes := [pass0] } []
    (s.arr 3).stuck = false ∧ s.riddle 3 = false ∧ ((after (.rampStep 3) s).arr 3).want = 1 ∧ ((after (.rampStep 3) s).arr 3).ramp = 0 ∧
    ({ s with startupHold := true }).riddle 3 = true ∧ ((after (.rampStep 3) { s with startupHold := true }).arr 3).ramp = 4 := by
  decide +kernel

/-- The idle hold ends; a Riddle request on an idle array, and its end; R104, R107, R111. -/
theorem test_idle_riddle :
    ((after (.idleHoldExpiry 3) (sArr (arrOn []) [])).arr 3).want = 2 ∧
    ({ sArr (arrOn []) [] with startupHold := true }).riddle 3 = true ∧
    ((after (.riddleRequestChange 3 0) { sArr (arrOn []) [] with startupHold := true }).arr 3).want = 2 ∧
    ((after (.riddleRequestChange 3 0) (sArr { arrOn [] with ramp := 4 } [])).arr 3).ramp = 0 ∧
    (∀ p ∈ ((sArr { arrOn [pass0] with ramp := 4 } []).arr 3).passes, p.st = .queued) ∧
    ((after (.riddleRequestChange 3 0) (sArr { arrOn [pass0] with ramp := 4 } [])).arr 3).want = 1 := by decide +kernel

/-- Parity errors in shadow and active weights, and a stuck array; R79. -/
theorem test_array_errors :
    let p := { pass0 with st := .loaded, wset := some wset0 }
    let q := { pass0 with st := .draining, rowsIn := 1, rows := [(0, ([], []))] }
    ((after (.arrParity 3 true 255 0) (sArr (arrOn [p]) [])).arr 3).passes.map (fun p => p.noStart) = [true] ∧
    ((after (.arrParity 3 false 255 0) (sArr { arrOn [q] with stat := some wset0 } [])).arr 3).passes.map (fun p => p.parity) = [[(255, 0)]] ∧
    [q].any Pass.live = true ∧ [p].any Pass.live = false ∧
    ((after (.arrParity 3 false 255 0) (sArr { arrOn [p] with stat := some wset0 } [])).arr 3).stat = none ∧
    codes (after (.arrParity 3 false 255 0) (sArr { arrOn [p] with stat := some wset0 } [])) = [(7, 9, 1)] ∧
    ((after (.arrStuck 3) (sArr (arrOn [q]) [])).arr 3).stuck = true ∧ ((after (.arrStuck 3) (sArr (arrOn [q]) [])).arr 3).blocks = 0 := by
  decide +kernel

/-- Tile 3 with a list of descriptors in mover 1. -/
def sMover (es : List DmaEnt) (sb : List SbReg) : State := sTile 3 { coreTile 0 [] with movers := [(1, es)], sb := sb }

/-- A descriptor of an operation number; rows of 64 bytes. -/
def dmaEnt (op : Nat) (started issued : Bool) (row : Nat) : DmaEnt :=
  { dd := { Dd.ofWords dmaWords with op := op, src := 0x10C0, dst := 0x20F0, redFmt := 0 }, op := 2, started := started, issued := issued,
    row := row, off := 0, rops := 0 }

/-- A descriptor starts once its tags allow; R139. -/
theorem test_dma_start :
    let s := fun op => sMover [dmaEnt op false false 0] []
    (((s 0).tile 3).nextDma 1).isSome = true ∧ (dmaEnt 0 false false 0).dd.tagsReady [] 2 = true ∧
    ((after (.dmaCopy 3 1) (s 0)).tile 3).issuing 1 = some (dmaEnt 0 true false 0) ∧
    ((after (.dmaFill 3 1) (s 1)).tile 3).issuing 1 = some (dmaEnt 1 true false 0) ∧
    ((after (.dmaReduce 3 1) (s 2)).tile 3).issuing 1 = some (dmaEnt 2 true false 0) := by decide +kernel

/-- A read ends at the 256-byte line of the destination; FILL writes its pattern; R140. -/
theorem test_dma_request :
    let s := fun op => sMover [dmaEnt op true false 0] []
    ((s 0).checkAccess 3 1 .R 0x10C0 16).toOption.map (fun a => a.region) = some (some .hbm) ∧ (dmaEnt 0 true false 0).chunk = 16 ∧
    (after (.dmaRequestIssue 3 1 false) (s 0)).reqs.map (fun r => (r.addr, r.len)) = [(0x10C0, 16)] ∧
    (after (.dmaRequestIssue 3 1 true) (s 1)).reqs.map (fun r => (r.addr, vals r.data)) =
      [(0x20F0, [0xC0, 0x10, 0, 0, 0, 0, 0, 0, 0xC0, 0x10, 0, 0, 0, 0, 0, 0])] := by decide +kernel

/-- Data that has come is written where it belongs, its poison with it; R140, R298. -/
theorem test_dma_write_poison :
    let r : Req := { newReq (.mover 3 1) 1 .load 0x10C0 8 (List.replicate 8 (0x55, true)) 0 with id := 1, op := 2, aux := 0x20F0, st := .done }
    let s := { sMover [dmaEnt 0 true false 1] [] with reqs := [r], nextReq := 2 }
    (s.moverReqs 3 1 2).length = 1 ∧ s.regRead r = false ∧
    (after (.dmaRequestIssue 3 1 true) s).reqs.map (fun y => (y.id, y.addr, poisoned y.data)) = [(2, 0x20F0, true)] := by decide +kernel

/-- SIGNAL adds to a local counter; R133. -/
theorem test_dma_signal :
    let e : DmaEnt := { dmaEnt 4 false false 0 with dd := { (dmaEnt 4 false false 0).dd with src := 7, dst := 0x102_000F_FFF0 } }
    let s := sMover [e] []
    (s.tile 3).mover 1 = [e] ∧ (match s.checkAccess 3 1 .A 0x102_000F_FFF0 8 with
      | .ok k => (s.enter (.mover 3 1) k.cls 0x102_000F_FFF0 1).2 | .error _ => false) = true ∧ s.attr .ctr 65535 = 0 ∧
    s.sync.waits = [] ∧
    (after (.dmaSignal 3 1) s).ctr 65535 = 7 ∧ ((after (.dmaSignal 3 1) s).tile 3).mover 1 = [] := by decide +kernel

/-- A complete descriptor releases its tags; R132. -/
theorem test_dma_done :
    let e := dmaEnt 0 true true 1
    let s := sMover [e] [{ passReg 5 false false .dstDone with op := 2, wrIn := true }]
    s.dmaComplete 3 1 e = true ∧ ((after (.dmaDone 3 1) s).tile 3).mover 1 = [] ∧ ((after (.dmaDone 3 1) s).tile 3).sb = [] := by
  decide +kernel

end Sys2Proof.Tests
end

