-- ==== Sys2Proof/Tests/Bedrock.lean ====
section
/-! SUPPORT. Tests of register writes, of the Bedrock slices and of row operations (R7–R9, R235–R302). -/

namespace Sys2Proof.Tests
open Sys2Proof Sys2Proof.Machine

set_option Elab.async false

def rwr (off : Nat) (v : W64) (s : State) : State := after (.registerWrite (wrW off 8 v)) s

/-- A lock bit, W1C flags, a read-write field, a locked and an unlocked quota; R7, R49. -/
theorem test_register_write :
    let s := sUp.setTable 19 { sUp.table 19 with badEntry := true, whileValid := true }
    let q := fun l => sUp.setPort 89 { sUp.port 89 with quota := 5, lock := l }
    let a := sUp.updArr 143 (fun a => { a with poison := true, nanOut := true })
    lands s (0x103_0700_2000 + 19 * 0x1_0000) 8 1 = true ∧
    ((rwr (0x103_0700_2000 + 19 * 0x1_0000) 1 s).table 19).lock = true ∧
    ((rwr (0x103_0700_2008 + 19 * 0x1_0000) 2 s).table 19).badEntry = false ∧
    ((rwr (0x103_0700_2008 + 19 * 0x1_0000) 2 s).table 19).whileValid = true ∧
    ((rwr (0x103_0500_0028 + 7 * 0x1_0000) 0xAB s).stack 7).pattern = 0xAB ∧
    lands (q false) (0x103_0600_0010 + 89 * 0x1_0000) 8 9 = true ∧
    ((rwr (0x103_0600_0010 + 89 * 0x1_0000) 9 (q false)).port 89).quota = 9 ∧
    ((rwr (0x103_0600_0010 + 89 * 0x1_0000) 9 (q true)).port 89).quota = 5 ∧
    ((rwr (0x103_0000_0400 + 143 * 0x1_0000) 0x0800_0000 a).arr 143).poison = false ∧
    ((rwr (0x103_0000_0400 + 143 * 0x1_0000) 0x0800_0000 a).arr 143).nanOut = true ∧
    (rwr 0x102_0500_0008 77 s).sync.handVal = 77 := by decide +kernel

/-- A read of a field with code RC; R9. -/
theorem test_rc_register_read :
    let s := sUp.updSlice 7 (fun k => { k with missPeak := 9 })
    let a : W64 := 0x103_0407_0000
    s.isLocal a.toNat = true ∧ (s.checkAccess 0xE8 0 .R a.toNat 8).toOption.isSome = true ∧
    ((after (.rcRegisterRead 0xE8 a) s).slice 7).missPeak = 0 ∧ (after (.rcRegisterRead 0xE8 a) s).resp.length = 1 := by decide +kernel

/-! Lines. -/

/-- Tile 3's core has a request of 8 bytes at HBM address 0x1000, line 16, with sector 0 of its LLC line valid where `l`. -/
def coreReq (k : RKind) (addr : Nat) : Req :=
  { newReq (.core 3) 1 k addr 8 (if k = .load then [] else clean (leBytes 8 0x1122)) 0 with
    id := 4, st := .sent, mask := if k = .load then [] else List.replicate 8 true }
def sLine (k : RKind) (l : Bool) : State :=
  let n := sliceOf 16
  let line : LlcLine := { set := 5, way := 2, L := 16, remote := false, valid := 1, dirty := 0, pinned := false, dead := false, age := 0 }
  let s := { sUp with reqs := [coreReq k 0x1000], nextReq := 5 }
  let s := if l then s.updSlice n (fun c => { c with lines := [line] }) else s
  { s with mem := { s.mem with bed := s.mem.bed.putWord (llcPhys s.bed.nb n 5 2 / 8) 0xABCD false } }

/-- A load of a held sector, a load that misses, a store around and into the LLC; R235, R238. -/
theorem test_llc_access :
    let n := sliceOf 16
    let c := Instr.llcAccess 4
    let held := sLine .load true
    let miss := sLine .load false
    let around := sLine .store false
    let into := sLine .store true
    held.reqAt 4 .hbm (fun k => !k.isRed && k != .ctrInc) = some (coreReq .load 0x1000) ∧ held.hild.snoops = [] ∧ held.hild.dir = [] ∧
    held.seeksCopy (coreReq .load 0x1000) = false ∧ (held.atPort 4).2 = true ∧ held.hasLlc = true ∧ (held.slice n).findMiss 16 false = none ∧
    (after c held).reqs.map (fun r => (r.st, vals r.data)) = [(RSt.done, [0xCD, 0xAB, 0, 0, 0, 0, 0, 0])] ∧
    (miss.slice n).findLine 16 false = none ∧ 16 ∉ (miss.slice n).filter ∧
    (after c miss).reqs.map (fun r => r.st) = [RSt.waitFill] ∧ ((after c miss).slice n).misses.map (fun m => m.sectors) = [1] ∧
    around.reqAt 4 .hbm (fun k => !k.isRed && k != .ctrInc) = some (coreReq .store 0x1000) ∧
    (after c around).reqs = [] ∧ (after c around).mem.hbm.wordAt (0x1000 / 8) = 0x1122 ∧
    (after c into).reqs = [] ∧ (after c into).mem.bed.wordAt (llcPhys into.bed.nb n 5 2 / 8) = 0x1122 ∧
    ((after c into).slice n).lines.map (fun l => l.dirty) = [1] := by decide +kernel

/-- A fill delivers its data; R246. -/
theorem test_llc_fill :
    let n := sliceOf 16
    let r := { coreReq .load 0x1000 with st := .waitFill }
    let m : Miss := { L := 16, remote := false, sectors := 1, stream := false, tiles := [3], reqs := [4], prefetch := false, alloc := false, rd := true, adm := 0 }
    let s := { (sUp.updSlice n (fun k => { k with misses := [m] })) with reqs := [r], nextReq := 5 }
    let s := { s with mem := { s.mem with hbm := s.mem.hbm.putWord (0x1000 / 8) 0x55 false } }
    n = 0 ∧ (s.slice 0).findMiss 16 false = some m ∧ m.sectors &&& sectorMask (r.addr % 256) r.len = sectorMask (r.addr % 256) r.len ∧ (s.frontPass 0 m).2 = true ∧
    (after (.llcFillReturn 0 16) s).reqs.map (fun r => (r.st, vals r.data)) = [(RSt.done, [0x55, 0, 0, 0, 0, 0, 0, 0])] ∧
    ((after (.llcFillReturn 0 16) s).slice 0).misses = [] := by decide +kernel

/-- A core's request at a scratch address or in the window of a tile store. -/
def sAt (k : RKind) (addr : Nat) : State :=
  let s := { sUp with reqs := [coreReq k addr], nextReq := 5 }
  let s := { s with mem := { s.mem with bed := s.mem.bed.putWord (scratchPhys s.bed.nb 0x1000 / 8) 0xABCD false } }
  { s with mem := { s.mem with stores := SMap.write EccMem.swept s.mem.stores 143 (EccMem.swept.putWord (0x5F_FFF8 / 8) 0x77 false) } }

/-- Scratch and the tile store window; R232, R36. -/
theorem test_scratch_and_store :
    let a := 0x100_0000_1000
    let b := 0x101_0000_0000 + 143 * 0x80_0000 + 0x5F_FFF8
    (sAt .load a).reqAt 4 .scratch (fun k => !k.isRed && k != .ctrInc) = some (coreReq .load a) ∧
    (sAt .load a).bankOpen ((sAt .load a).bankOf (addrOffset a)) = true ∧
    (after (.scratchAccess 4) (sAt .load a)).reqs.map (fun r => vals r.data) = [[0xCD, 0xAB, 0, 0, 0, 0, 0, 0]] ∧
    (after (.scratchAccess 4) (sAt .store a)).mem.bed.wordAt (scratchPhys 32 0x1000 / 8) = 0x1122 ∧
    (after (.scratchAccess 4) (sAt .store a)).reqs = [] ∧
    (sAt .load b).reqAt 4 .store (fun k => !k.isRed && k != .ctrInc) = some (coreReq .load b) ∧
    (after (.tileStoreWindowAccess 4) (sAt .load b)).reqs.map (fun r => vals r.data) = [[0x77, 0, 0, 0, 0, 0, 0, 0]] ∧
    (SMap.get EccMem.swept (after (.tileStoreWindowAccess 4) (sAt .store b)).mem.stores 143).wordAt (0x5F_FFF8 / 8) = 0x1122 := by
  decide +kernel

/-- A reduction at scratch; R254. -/
theorem test_add_to_line :
    let s := sAt (.red 2) 0x100_0000_1000
    (match redSizes 2 with | some _ => true | none => false) = true ∧
    (s.reqAt 4 .hbm RKind.isRed).isNone = true ∧ (s.reqAt 4 .scratch RKind.isRed).isSome = true ∧
    (after (.addToLine 4) s).reqs = [] ∧ ((after (.addToLine 4) s).mem.bed.wordAt (scratchPhys 32 0x1000 / 8)).toNat % 2 ^ 32 = 0xABCD + 0x1122 := by
  decide +kernel

/-! Control of the slices. -/

def sPin (p : Pin) : State := sUp.setPin 15 p
def pin0 : Pin := { base := 0, limit := 0xF000, valid := false, walk := false }

/-- Pin hints: bounds, VALID, BAD, the walk, and their end; R242. -/
theorem test_pin_hints :
    let off := 0x103_0408_0000 + 15 * 0x20
    let s := sPin pin0
    let v := sPin { pin0 with valid := true }
    let bad := sPin { pin0 with base := 0x1_0000 }
    let walk := sPin { pin0 with walk := true, walkLimit := 0xFFF }
    lands s off 8 0x1FFF = true ∧ ((after (.bdrPinBaseLimitWrite (wrW off 8 0x1FFF)) s).pin 15).base = 0x1000 ∧
    ((after (.bdrPinBaseLimitWrite (wrW (off + 8) 8 0x1FFF)) s).pin 15).limit = 0x1FFF ∧
    (after (.bdrPinBaseLimitWrite (wrW off 8 0x1FFF)) v).bed.pinWhile = true ∧
    ((after (.bdrPinCtrlWrite (wrW (off + 16) 8 0x8000_0000_0000_0000)) s).pin 15).valid = true ∧
    (after (.bdrPinCtrlWrite (wrW (off + 16) 8 0x8000_0000_0000_0000)) bad).bed.pinBad = true ∧
    ((after (.bdrPinCtrlWrite (wrW (off + 16) 8 0x8000_0000_0000_0000)) walk).pin 15).valid = false ∧
    ((after (.bdrPinCtrlWrite (wrW (off + 16) 8 0)) v).pin 15).walk = true ∧
    ((after (.unpinWalkDone 15) walk).pin 15).walk = false := by decide +kernel

/-- A thrash window over and under the enter limit; an immutable fence; R243, R264. -/
theorem test_thrash_and_fence :
    let s := fun m => sUp.updSlice 7 (fun k => { k with winLook := 5, ended := [(65536, m)] })
    let f := { sUp with bed := { sUp.bed with fence := true } }
    ((s 1).slice 7).ended = [(65536, 1)] ∧ ((after (.thrashWindowEnd 7) (s 65536)).slice 7).thrash = true ∧
    ((after (.thrashWindowEnd 7) (s 1)).slice 7).thrash = false ∧ ((after (.thrashWindowEnd 7) (s 1)).slice 7).ended = [] ∧ ((after (.thrashWindowEnd 7) (s 1)).slice 7).winLook = 5 ∧
    lands sUp 0x103_0408_0208 8 1 = true ∧ (after (.bdrImmFenceWrite (wrW 0x103_0408_0208 8 1)) sUp).bed.fence = true ∧
    (after .immFenceDone f).bed.fence = false := by decide +kernel

/-- A prefetch of a stream, and the end of a detected one; R259, R262. -/
theorem test_hoist :
    let h : HStream := { key := 6, tile := 3, mid := 3, ctx := 1, base := 0x1000, stride := 1, lines := 4, pos := 1, asked := [1], lastUse := 0,
                         remote := false, detected := false, age := 0 }
    let s := sUp.updSlice 7 (fun k => { k with streams := [h], members := [(6, 3, [])] })
    let d := sUp.updSlice 7 (fun k => { k with streams := [{ h with detected := true }], members := [(6, 3, [])] })
    s.nextPrefetch h = some 2 ∧ s.noAlloc (sliceOf (0x1200 / 256)) = false ∧
    (s.checkAccess 3 1 .R 0x1200 256).toOption.isSome = true ∧
    (after (.hoistPrefetch 7 6) s).reqs.map (fun r => (r.kind, r.addr, r.len)) = [(RKind.prefetch, 0x1200, 256)] ∧
    ((after (.hoistPrefetch 7 6) s).slice 7).streams.map (fun h => h.asked) = [[1, 2]] ∧
    ((after (.detectedStreamIdle 7 6) d).slice 7).streams = [] := by decide +kernel

/-! Row operations: an AND of rows 1 and 2 into row 0 of the first scratch subarray. -/

def ropW (op : Nat) : List W64 := [BitVec.ofNat 64 (op + 1 * 2 ^ 32 + 2 * 2 ^ 41), 0x100_0000_0000, 0, 0]
def ropE (ws : List W64) : RopEnt :=
  { words := ws, who := .mgt 0, ctx := 0, mover := none, retry := false, corrected := 0, waited := false, initAt := 0, order := 0 }
def rowB : Nat := physBank (scratchPhys 32 0)
def sBank (k : Bank) : State := sUp.setBank rowB k

/-- A submitted address, and one beyond 64; R272. -/
theorem test_rop_submit :
    let off := 0x103_0407_0118
    let full := sUp.updSlice 7 (fun k => { k with submit := List.replicate 64 (0, .mgt 0, 0) })
    lands sUp off 8 0x100_0000_101F = true ∧
    ((after (.ropSubmit (wrW off 8 0x100_0000_101F)) sUp).slice 7).submit = [(0x100_0000_1000, .mgt 0, 0)] ∧
    codes (after (.ropSubmit (wrW off 8 32)) full) = [(2, 0x12, 0)] ∧
    ((after (.ropSubmit (wrW off 8 32)) full).slice 7).ropOverflow = true := by decide +kernel

/-- A descriptor in scratch joins its bank's queue; R270, R273. -/
theorem test_rop_descriptor_read :
    let s0 := sUp.updSlice 7 (fun k => { k with submit := [(0x100_0000_1000, .mgt 0, 0)] })
    let bs := clean ((ropW 3).flatMap (fun w => leBytes 8 w.toNat))
    let s := { s0 with mem := { s0.mem with bed := (s0.mem.bed.write (scratchPhys 32 0x1000) bs).1 } }
    let s1 := after (.ropDescriptorRead 7) s
    s.ropCheck (ropW 3) = none ∧ (s.ropRows (ropW 3)).all (fun r => (s.checkAccess 0xE8 0 .O r 2048).toOption.isSome) = true ∧
    (s1.slice 7).submit = [] ∧ (s1.bank rowB).queue.map (fun e => e.words) = [ropW 3] := by decide +kernel

/-- A start, and one that the window holds back; R276–R278. -/
theorem test_rop_start :
    let b : Fin 512 := ⟨rowB, by decide⟩
    let s := sBank { Bank.init with queue := [ropE (ropW 3)] }
    let held := s.updSlice (rowB / 64) (fun k => { k with starts := [(rowB / 8, [(0, 4), (0, 4), (0, 4), (0, 4)])] })
    s.headReady rowB = some (ropE (ropW 3)) ∧ s.windowFree rowB 4 = true ∧ ((after (.ropAnd b) s).bank rowB).busy = true ∧
    held.windowFree rowB 4 = false ∧ ((after (.ropAnd b) held).bank rowB).busy = false ∧
    ((after (.ropAnd b) held).slice (rowB / 64)).windowWaits = 1 := by decide +kernel

/-- The ready signal rises, and a watchdog expires; R276, R284. -/
theorem test_rop_end :
    let b : Fin 512 := ⟨rowB, by decide⟩
    let busy := sBank { Bank.init with queue := [ropE (ropW 3)], busy := true }
    let ended := sBank { Bank.init with ended := true }
    (busy.bank rowB).queue = [ropE (ropW 3)] ∧ ropOp (ropW 3) = 3 ∧ ropStatusEn (ropW 3) = false ∧
    ((after (.bankReady b) ended).bank rowB).ended = false ∧
    ((after (.ropStuck b) busy).bank rowB).stuck = true ∧ codes (after (.ropStuck b) busy) = [(2, 0x11, 2)] := by decide +kernel

/-- An INIT of one row has no source and ends with its first row; the first source word of an AND is correctable; R276, R279. -/
theorem test_rop_complete :
    let b : Fin 512 := ⟨rowB, by decide⟩
    let ini := { ropE [1, 0x100_0000_0000, 0x55, 0] with initAt := 0 }
    let s := sBank { Bank.init with queue := [ini], busy := true }
    let r0 := sBank { Bank.init with queue := [ropE (ropW 3)], busy := true }
    let src := subRow (r0.ropPhys (ropW 3)) (ropSrc (ropW 3) 0)
    let r := { r0 with mem := { r0.mem with bed := r0.mem.bed.putRaw (src / 8) (flipBit 0xABCD 63) (checkByte 0xABCD) } }
    (s.bank rowB).queue = [ini] ∧ (s.bank rowB).busy = true ∧ ropOp ini.words = 1 ∧ ropStatusEn ini.words = false ∧ ini.mover = none ∧
    ropSources 1 = 0 ∧ ropCount ini.words = ini.initAt + 1 ∧ (s.bank b.val).busy = true ∧ (r.mem.bed.look (src / 8)).2 = 1 ∧
    (r.bank b.val).queue = [ropE (ropW 3)] ∧ (ropE (ropW 3)).retry = false := by decide +kernel

/-- The result words of the operations; R268. -/
theorem test_rop_words :
    ropWord 3 0 0xFF 0x3C 0 = 0x3C ∧ ropWord 6 0 0xF0 0xCC 0xAA = 0xE8 ∧ ropWord 2 0 0 0 0 = 0xFFFF_FFFF_FFFF_FFFF ∧
    ropWord 1 0x55 0 0 0 = 0x55 := by decide +kernel

/-- A word whose data bit 63 is inverted is correctable to what was stored; one with two bits inverted is not; R289, R291. -/
theorem test_ecc :
    let m := EccMem.swept.putRaw 7 (flipBit 0xABCD 63) (checkByte 0xABCD)
    let u := EccMem.swept.putRaw 7 (flipBit (flipBit 0xABCD 63) 0) (checkByte 0xABCD)
    m.look 7 = (0xABCD, 1) ∧ (m.readWord 7).1 = 0xABCD ∧ ((m.readWord 7).2.2.1).look 7 = (0xABCD, 0) ∧ (u.look 7).2 = 2 ∧
    (u.readWord 7).2.1 = true ∧ (EccMem.swept.look 7).2 = 2 := by decide +kernel

/-- A mover's ROWOP hands its descriptor to the bank; R272. -/
theorem test_dma_rowop :
    let e : DmaEnt := { dmaEnt 3 true false 0 with dd := { (dmaEnt 3 true false 0).dd with src := 0x100_0000_1000 } }
    let s0 := sMover [e] []
    let bs := clean ((ropW 3).flatMap (fun w => leBytes 8 w.toNat))
    let s := { s0 with mem := { s0.mem with bed := (s0.mem.bed.write (scratchPhys 32 0x1000) bs).1 } }
    (s.tile 3).issuing 1 = some e ∧ (s.tile 3).nextDma 1 = none ∧ (s.checkAccess 3 1 .R 0x100_0000_1000 32).toOption.isSome = true ∧
    ((after (.dmaRowop 3 1) s).bank rowB).queue.map (fun e => e.words) = [ropW 3] := by decide +kernel

/-- A fill writes its next line, and ends after the last; R300. -/
theorem test_stack_fill :
    let s := fun i => sUp.updStack 7 (fun k => { k with fillBusy := true, fill := some i, pattern := 0x55 })
    let L := stackLine 7 0
    (s 0).hbmBacked L = true ∧ (s 0).lineTaken L = false ∧ (s 0).snoopOut L = false ∧ (s 0).snoopNeed L true = none ∧
    ((after (.stackFillDone 7 1) (s 0)).stack 7).fill = some 1 ∧ (after (.stackFillDone 7 1) (s 0)).mem.hbm.look (L * 32 + 31) = (0x55, 0) ∧
    ((after (.stackFillDone 7 1) (s stackLines)).stack 7).fillBusy = false := by decide +kernel

/-- A fill is started, sweeps end, scrubbers move on, levels fall; R296–R302. -/
theorem test_hbm_maintenance :
    let fill := 0x103_0507_0030
    let hb := sUp.updStack 7 (fun k => { k with sweeping := true, bucket := 3 })
    let bd := { sUp with bed := { sUp.bed with sweeping := true } }
    let st := (sUp.updTile 143 (fun x => { x with storing := true })).setMem (.store 143 0) (EccMem.swept.putWord 7 0xABCD false)
    lands sUp fill 8 1 = true ∧ (sUp.stack 7).good = true ∧ ((after (.hbmFillCmd (wrW fill 8 1)) sUp).stack 7).fillBusy = true ∧
    ((after (.poisonSweepDone (.hbm 7)) hb).stack 7).sweepDone = true ∧
    ((after (.poisonSweepDone (.bedrock 7)) bd).slice 7).sweepDone = true ∧ (after (.poisonSweepDone (.bedrock 7)) bd).bed.sweeping = true ∧
    st.mem.wf = true ∧ ((after (.poisonSweepDone (.store 143)) st).tile 143).storing = false ∧
    (((after (.poisonSweepDone (.store 143)) st).memAt (.store 143 0)).isPoison 7 = true) ∧
    (((after (.poisonSweepDone (.store 143)) st).memAt (.store 143 0)).wordAt 7 = 0xABCD) ∧
    sUp.odGet 0x2500 3 ≠ 0 ∧ sUp.nextHbmWord 7 0 = some 0 ∧ (sUp.scrubPass (frontPort 7) 0xF8).2 = true ∧ (sUp.scrubPass 7 0xF9).2 = true ∧ ((after (.scrubRead false 7) sUp).stack 7).scrubPos = 1 ∧
    sUp.odGet 0x2420 1 ≠ 0 ∧ (sUp.nextBedWord 7 0).isSome = true ∧
    ((after (.bucketLeak 0 7) hb).stack 7).bucket = 2 ∧ ((after (.bucketLeak 1 7) hb).slice 7).bucket = 0 := by decide +kernel

end Sys2Proof.Tests
end

