-- ==== Sys2Proof/Tests/Tasks.lean ====
section
/-! SUPPORT. Tests of tasks, partitions and access tables (R49–R51, R177–R202). -/

namespace Sys2Proof.Tests
open Sys2Proof Sys2Proof.Machine

set_option Elab.async false

/-- A descriptor for one tile of context 3: ENTRY 0x40, arguments 7 and 8, a timeout of 1, one completion increment of 5 on counter 9. -/
def tdW : List W64 :=
  [0x0003_0100_0000_0000, 0x40, 7, 8, 1, 0, 0, 0, 0, 0, 0, 0x8000_0009_0000_0005, 0, 0, 0, 0]

def task0 : Task :=
  { part := 2, seq := 0, slot := 0x1000, words := tdW, st := .window, ctx := 3, tiles := [], complete := [], quiet := [], abort := none }

/-- Two tiles of sector 0, both regions on, partition 2 with sector 0, contexts all, its list of four slots at 0x1000. -/
def sPart : State :=
  let x := { Tile.init with role := 0, causes := 0, logical := 0, rate := 0xFFFF_0000_0000 }
  let s := { sUp with tiles := [(0, x), (1, { x with logical := 1 })] }
  let s := ((s.odSet 0x2B02 1 0x1000).odSet 0x2B02 2 4).odSet 0x2B02 5 0xFFFF
  let s := ((s.odSet 0x2B02 3 100).odSet 0x2B02 4 101).odSet 0x2B20 1 2
  (s.updRegion 0 (fun r => { r with state := 3 })).updRegion 8 (fun r => { r with state := 3 })

/-- TASK_FETCH reads the slot of the next sequence number; R177. -/
theorem test_task_fetch :
    let s := (sPart.setCtr (sPart.submitCtr 2) 6).setPart 2 { sPart.part 2 with fetch := 5 }
    s.sched.running = true ∧ (s.part 2).fetch < s.ctr (s.submitCtr 2) ∧ s.findReq s.nextReq = none ∧
    ((s.checkAccess 0x098 0 .R (s.globalOf 0x1080).toNat 128).toOption.map (fun ok => ok.region)) = some (some .hbm) ∧
    (after (.taskFetch 2) s).reqs.map (fun r => (r.addr, r.len)) = [(0x1080, 128)] ∧
    (after (.taskFetch 2) s).sched.tasks.map (fun k => k.seq) = [5] := by decide +kernel

/-- A task being fetched whose descriptor ws has arrived. -/
def sFetched (ws : List W64) : State :=
  { sPart with
    sched := { sPart.sched with tasks := [{ task0 with words := [], st := .fetching, ctx := 0 }] },
    reqs := [{ newReq .devSched 0 .load 0x1000 128 (clean (ws.flatMap (fun w => leBytes 8 w.toNat))) 0 with
      id := 1, st := .done, op := taskOp 2 0 }], nextReq := 2 }

/-- A good descriptor enters the window with its context; one whose tile count is 0 is refused with TD_FIELD; R181, R186. -/
theorem test_task_descriptor :
    let s := sFetched tdW
    let r := sFetched (0x0003_0000_0000_0000 :: tdW.tail)
    (s.dropReq 1).tdCheck 2 tdW = none ∧ (after (.taskDescriptorRead 2) s).sched.tasks = [task0] ∧
    (after (.taskDescriptorRead 2) r).sched.tasks = [] ∧ codes (after (.taskDescriptorRead 2) r) = [(5, 0x23, 1)] ∧
    (after (.taskDescriptorRead 2) r).reqs.map (fun r => (r.addr, vals r.data)) = [(0x1078, [7, 0, 3, 0, 0, 0, 0, 0])] := by decide +kernel

def sWindow : State := { sPart with sched := { sPart.sched with tasks := [task0] } }

/-- A wait that expires, and the submit wait; R179, R185. -/
theorem test_td_wait_timeout :
    sWindow.taskOf 2 0 = some task0 ∧ codes (after (.tdWaitTimeout 2 0) sWindow) = [(5, 0x30, 1)] ∧
    (after (.tdWaitTimeout 2 0) sWindow).sched.tasks = [] ∧ ((after (.submitRearm 2) sWindow).part 2).armed = true := by decide +kernel

/-- Placement starts the core with its registers; R183, R184. -/
theorem test_task_place :
    (sWindow.part 2).state = 0 ∧ sWindow.pwr.standby = false ∧ sWindow.pwr.changing = false ∧
    sWindow.sched.tasks.find? (fun k => k.part == 2 && decide (k.st = .window) && sWindow.eligible k) = some task0 ∧
    sWindow.partBusy 2 = false ∧ sWindow.choose128 2 task0.words = some [0] ∧
    ((after (.taskPlace 2) sWindow).core 0).pc = 0x40 ∧ ((after (.taskPlace 2) sWindow).core 0).st = 1 ∧
    ((after (.taskPlace 2) sWindow).core 0).reg 2 = 8 ∧ ((after (.taskPlace 2) sWindow).tile 0).ctx = 3 := by decide +kernel

/-- A placed task of two tiles, tile 0 of which has ended. -/
def sPlaced (done : List Nat) : State :=
  let k := { task0 with st := .placed, tiles := [0, 1], complete := done }
  let x := sPart.tile 0
  { (sPart.setTile 0 { x with task := some (2, 0), ctx := 3, core := { x.core with ended := true } }) with
    sched := { sPart.sched with tasks := [k] } }

/-- The first tile's share, and the last tile's: TD_STATUS is written; R122, R186. -/
theorem test_tile_complete :
    let s := sPlaced []
    let r := sPlaced [1]
    (s.tile 0).task = some (2, 0) ∧ (s.core 0).ended = true ∧ (s.tile 0).queuesEmpty = true ∧ (s.tile 0).sb = [] ∧
    s.tileReqs 0 = false ∧ (after (.tileComplete 0) s).sched.tasks.map (fun k => k.complete) = [[0]] ∧
    (after (.tileComplete 0) r).reqs.map (fun r => (r.addr, vals r.data)) = [(0x1078, [5, 2, 0, 0, 0, 0, 0, 0])] ∧
    ((after (.tileComplete 0) r).tile 0).task = none := by decide +kernel

/-- The completion increments; R186, R187. -/
theorem test_td_inc_apply :
    let k := { task0 with st := .done, tiles := [0] }
    let s := { sPart with sched := { sPart.sched with tasks := [k] } }
    s.taskOf 2 0 = some k ∧ s.reqs = [] ∧ (0x8000_0009_0000_0005 : W64).getLsbD 63 = true ∧
    s.isLocal (fld (0x8000_0009_0000_0005 : W64) 48 12 * 2 ^ 44) = true ∧ s.attr .ctr 9 = 0 ∧
    (after (.tdIncApply 2 0) s).ctr 9 = 5 ∧ (after (.tdIncApply 2 0) s).sched.tasks = [] := by decide +kernel

/-- A tile receives its task's abort; a quiet one, alone, ends the task ABORTED; R138, R189. -/
theorem test_tile_abort_quiet :
    let k := { task0 with st := .placed, tiles := [0], abort := some 0x12 }
    let s := { sPlaced [] with sched := { sPart.sched with tasks := [k] } }
    let r := s.updTile 0 (fun x => { x with aborting := true, task := some (2, 0) })
    (s.tile 0).aborting = false ∧ (s.dbg 0).state = 0 ∧ s.taskOf 2 0 = some k ∧
    ((after (.tileAbort 0) s).tile 0).aborting = true ∧
    (r.arr 0).passes = [] ∧ r.reqs = [] ∧ r.tileRops 0 = false ∧
    (after (.tileQuiet 0) r).sched.tasks = [] ∧ ((after (.tileQuiet 0) r).tile 0).task = none ∧
    (after (.tileQuiet 0) r).reqs.map (fun r => vals r.data) = [[6, 1, 0x12, 0, 0, 0, 0, 0]] := by decide +kernel

/-- A mirror write of the management core 0. -/
def via : OdVia := .mirror none 0xE8

/-- A mirror write that the state takes. -/
def mirrorTakes (s : State) (idx sub : Nat) (v : W64) : Bool :=
  lands s (mirrorOff idx sub) 8 v && s.odCheckWrite idx sub v == OD_OK && s.firmware

/-- PAUSE of an idle and of a busy partition, RESUME, PREEMPT; R192, R193. -/
theorem test_partition_commands :
    let busy := sPlaced []
    let stopped := sPart.setPart 2 { sPart.part 2 with state := 2 }
    mirrorTakes sPart 0x2B02 7 1 = true ∧ ((after (.pause via 2) sPart).part 2).state = 2 ∧
    mirrorTakes busy 0x2B02 7 1 = true ∧ ((after (.pause via 2) busy).part 2).state = 1 ∧
    mirrorTakes stopped 0x2B02 7 2 = true ∧ ((after (.resume via 2) stopped).part 2).state = 0 ∧
    mirrorTakes busy 0x2B02 7 3 = true ∧ ((after (.preempt via 2) busy).part 2).state = 1 ∧
    (after (.preempt via 2) busy).sched.tasks.map (fun k => k.abort) = [some 0x12] := by decide +kernel

/-- The map and a list object; R191, R196, R202. -/
theorem test_partition_objects :
    let s := sPart.setPart 2 { sPart.part 2 with state := 2, fetch := 5, rel := 4 }
    let t := { s with sched := { s.sched with parts := (List.range 8).map (fun p => (p, { Part.init with state := 2 })) } }
    mirrorTakes t 0x2B20 1 0x7654_3210 = true ∧ (after (.sectorPartitionMapWrite via 0x7654_3210) t).odGet 0x2B20 1 = 0x7654_3210 ∧
    mirrorTakes s 0x2B02 2 16 = true ∧ ((after (.taskListWrite via 2 1 16) s).part 2).fetch = 0 ∧
    (after (.taskListWrite via 2 1 16) s).odGet 0x2B02 2 = 16 ∧
    atPair ((after (.taskListWrite via 2 1 16) s).attr .ctr 100) = true := by decide +kernel

/-! Access tables: entry 255 of table 19. -/

def actOff : Nat := 0x103_0700_0000 + 19 * 0x1_0000 + 255 * 0x20
def actRow (f : ActEntry → ActEntry) (lock : Bool) : State :=
  let e : ActEntry := { base := 0, limit := 0xFFFF_F000, ctrl := 0 }
  let tb := sUp.table 19
  sUp.setTable 19 { tb with entries := SMap.put tb.entries 255 (f e), lock := lock }

/-- BASE and LIMIT of an invalid and of a valid entry; R49. -/
theorem test_act_entry_bounds :
    let s := actRow id false
    let v := actRow (fun e => { e with ctrl := 0x8000_0000_0000_0000 }) false
    let c := Instr.actEntryBaseLimitWrite
    lands s actOff 8 0x5FFF = true ∧ (s.table 19).locked 255 = false ∧ ((s.table 19).entry 255).valid = false ∧
    (((after (c (wrW actOff 8 0x5FFF)) s).table 19).entry 255).base = 0x5000 ∧
    (((after (c (wrW (actOff + 8) 8 0x5FFF)) s).table 19).entry 255).limit = 0x5000 ∧
    lands v actOff 8 0x5FFF = true ∧ ((v.table 19).entry 255).valid = true ∧
    ((after (c (wrW actOff 8 0x5FFF)) v).table 19).whileValid = true ∧
    (((after (c (wrW actOff 8 0x5FFF)) v).table 19).entry 255).base = 0 := by decide +kernel

/-- CTRL: made valid, refused as BAD_ENTRY, changed while valid, cleared; a locked entry; R49, R50. -/
theorem test_act_entry_ctrl :
    let s := actRow id false
    let bad := actRow (fun e => { e with base := 0x1_0000_0000 }) false
    let v := actRow (fun e => { e with ctrl := 0x8001_0000_0000_0000 }) false
    let l := actRow id true
    let c := fun v => Instr.actEntryCtrlWrite (wrW (actOff + 16) 8 v)
    lands s (actOff + 16) 8 0x8001_0000_0000_0000 = true ∧
    (((after (c 0x8001_0000_0000_0000) s).table 19).entry 255).valid = true ∧
    ((after (c 0x8001_0000_0000_0000) bad).table 19).badEntry = true ∧
    ((after (c 0x8003_0000_0000_0000) v).table 19).whileValid = true ∧
    (((after (c 0) v).table 19).entry 255).valid = false ∧
    lands l (actOff - 192 * 0x20) 8 0x5FFF = true ∧ (l.table 19).locked 63 = true ∧ (l.table 19).locked 64 = false ∧
    (((after (.actEntryBaseLimitWrite (wrW (actOff - 192 * 0x20) 8 0x5FFF)) l).table 19).entry 63).base = 0 := by
  decide +kernel

/-- ACT_SYNC: the fence takes the accesses past their lookup; a read is held, then answered; R51. -/
theorem test_act_sync :
    let s := { sUp with reqs := [{ newReq (.core 3) 1 .load 0x1000 8 [] 0 with id := 4, st := .sent }] }
    let k := targetOf 0x1000 .hbm
    let off := 0x103_0700_2010 + k * 0x1_0000
    let f := after (.actSyncWrite (wrW off 8 0)) s
    let h := after (.actSyncRead 8 0xE8) f
    k = 8 ∧ lands s off 8 0 = true ∧ (f.table 8).fence = [4] ∧ f.fencePending 8 = true ∧
    (f.checkLocal 0xE8 0 .R off 8).toOption.isSome = true ∧ h.resp = [] ∧ (h.table 8).syncHeld = [.mgt 0] ∧
    sUp.fencePending 0 = false ∧ (after (.actSyncRead 0 0xE8) sUp).resp.length = 1 ∧
    (after (.actSyncReturn 8) { h with reqs := [] }).resp.length = 1 := by decide +kernel

end Sys2Proof.Tests
end

