-- ==== Sys2Proof/Tests/Power.lean ====
section
/-! SUPPORT. Tests of rates and bundles, of power and of the thermal monitor (R389–R433). -/

namespace Sys2Proof.Tests
open Sys2Proof Sys2Proof.Machine

set_option Elab.async false

/-- A mark at its count and one before it; a rate sample of a fresh tile; R389, R392–R394. -/
theorem test_rates :
    let s := fun n => { sUp with bedLosc := n, lfLosc := 7, ufLosc := 9, tiles := [(143, { Tile.init with role := 0 })] }
    let rate : W64 := 0xFFFF_FFFF_0000_0000
    (after .mark (s 65535)).marks = 0 ∧ (after .mark (s 65536)).marks = 1 ∧ (s 65536).activeTiles ≠ [] ∧ (after .mark (s 65536)).markLf = 7 ∧
    (s 0).odNat 0x2310 2 ≤ fld rate 48 8 ∧ (s 0).odNat 0x2310 1 ≤ fld rate 32 16 ∧
    ((after (.rateSample 143 rate) (s 0)).tile 143).trend = 0xFFFF ∧ ((after (.rateSample 143 rate) (s 0)).tile 143).baseline = 0xFFFF := by
  decide +kernel

def sVb (x : Tile) : State := { sUp with tiles := [(143, x)] }
def vb0 : Tile := { Tile.init with role := 0, vbPaused := true, vbBad0 := 3, vbBad1 := 0, vbSpares := 3 }

/-- A burst that fails, a walk within the spares, one beyond them, a lost control lane; R398, R399. -/
theorem test_bundles :
    let s := sVb vb0
    (s.tile 143).vbWidth ≠ 3 ∧ ((after (.burstCheckFail 143 3) (sVb { vb0 with vbPaused := false })).tile 143).vbPaused = true ∧
    ((after (.burstCheckFail 143 2) (sVb { vb0 with vbPaused := false })).tile 143).vbPaused = false ∧
    ((after (.laneWalkComplete 143 1 0) s).tile 143).vbBad0 = 4 ∧ ((after (.laneWalkComplete 143 1 0) s).tile 143).vbSpares = 4 ∧
    ((after (.laneWalkComplete 143 1 0) s).tile 143).vbPaused = false ∧ (after (.laneWalkComplete 143 1 0) s).rel.queue.length = 1 ∧
    128 < vb0.vbSpares + 126 ∧ ((after (.laneWalkComplete 143 126 0) s).tile 143).vbWidth = 2 ∧
    ((after (.laneWalkComplete 143 126 0) s).tile 143).vbSpares = 0 ∧
    ((after (.controlLaneTimeout 143) s).tile 143).vbWidth = 3 := by decide +kernel

/-! Power. -/

def sPwr (f : Pwr → Pwr) : State := { sUp with pwr := f sUp.pwr }

/-- Samples at the edges; the throttle, its end, and a switch-off; R405. -/
theorem test_inputs :
    let a := after (.inputSupervision true 39999 0) sUp
    let b := after (.inputSupervision true 40000 0) sUp
    let uv := sPwr (fun p => { p with uvSamples := 10 })
    let off := sPwr (fun p => { p with uvDeep := 10 })
    let ov := sPwr (fun p => { p with ovSamples := 10 })
    let rec_ := sPwr (fun p => { p with inputThrottle := true, upSamples := 100 })
    sUp.pwr.aux = true ∧ a.pwr.uvSamples = 1 ∧ b.pwr.uvSamples = 0 ∧ a.odGet 0x2000 0x0A = 39999 ∧
    (after .pwrInputUv uv).pwr.inputThrottle = true ∧ ((after .pwrInputUv uv).region 15).urgent = true ∧
    codes (after .pwrInputUv uv) = [(0x0D, 1, 0)] ∧
    (after .pwrInputUv off).pwr.converter = false ∧ (after .pwrInputOv ov).pwr.converter = false ∧
    (after .undervoltageRecovery rec_).pwr.inputThrottle = false := by decide +kernel

def sRail (n : Nat) : State := sUp.setRail 3 { Rail.init with lost := n }

/-- Polls and lost phases; R408, R409. -/
theorem test_rails :
    ((after (.avsPoll 12 (some (5, 6, 7))) sUp).rail 12).current = 5 ∧ ((after (.avsPoll 12 none) sUp).rail 12).fault = true ∧
    codes (after (.avsPoll 12 none) sUp) = [(0x0D, 3, 0)] ∧
    codes (after (.pwrPhaseLost 3) (sRail 0)) = [(0x0D, 4, 0)] ∧ codes (after (.pwrPhaseLost 3) (sRail 1)) = [(0x0D, 4, 2)] ∧
    ((after (.pwrPhaseLost 3) (sRail 1)).region 14).hold = true ∧ ((after (.pwrPhaseLost 3) (sRail 1)).region 15).degraded = true ∧
    (sRail 1).feeds 3 ≠ [] := by
  decide +kernel

/-- A measurement one watt above the limit, one below it, and a step down; R411. -/
theorem test_power_limit :
    let s := sUp.odSet 0x2000 2 2000
    let t := { s with pwr := { s.pwr with limitThrottle := true } }
    let v := sPwr (fun p => { p with excess := true, base := [(15, 750)] })
    s.odNat 0x2000 2 = 2000 ∧ (after (.powerMeasure 2001 2001 []) s).pwr.limitThrottle = true ∧
    (after (.powerMeasure 2001 2001 []) s).pwr.excess = true ∧ (after (.powerMeasure 1999 0 []) t).pwr.limitThrottle = false ∧
    v.profF = false ∧ v.pwr.changing = false ∧ v.rel.takeover = false ∧ (after .voltageStep v).pwr.limitV 15 = 740 := by decide +kernel

/-- Region 15 whose switch-on waits after n deferrals. -/
def sSwitch (n : Nat) : State :=
  (sPwr (fun p => { p with switches := [{ region := 15, defer := n }] })).updRegion 15 (fun x => { x with state := 1 })

/-- A start, a deferral, a start at the end of the deferral; R416. -/
theorem test_switch_on :
    let hot := (sSwitch 0).updRegion 14 (fun x => { x with state := 3 })
    (sSwitch 0).turnOf 15 = some { region := 15, defer := 0 } ∧ (sSwitch 0).neighbourOk 14 0 = true ∧ (sSwitch 0).neighbourOk 7 0 = true ∧
    ((after (.neighbourCheck 15 0 0) (sSwitch 0)).region 15).state = 2 ∧ ((after (.neighbourCheck 15 0 0) (sSwitch 0)).region 15).hold = true ∧
    hot.neighbourOk 14 1900 = false ∧ ((after (.neighbourCheck 15 1900 0) hot).pwr.switches.map (fun w => w.defer)) = [1] ∧
    (sSwitch 100000).odNat 0x2000 6 ≤ 10 * 100000 ∧ (sSwitch 100000).headroom 15 = true ∧
    ((after (.pwrDeferTimeout 15) (sSwitch 100000)).region 15).state = 2 := by decide +kernel

/-- A deferral without headroom; R416. -/
theorem test_defer_timeout :
    let s := (sSwitch 100000).setRail 0 { Rail.init with current := 17000 }
    s.headroom 15 = false ∧ ((after (.pwrDeferTimeout 15) s).region 15).state = 0 ∧ codes (after (.pwrDeferTimeout 15) s) = [(0x0D, 8, 0)] := by
  decide +kernel

/-- The end of a soft-start, of a hold, of a retry; an idle sector; R415–R417. -/
theorem test_regions :
    let st := fun r n => sUp.updRegion r (fun x => { x with state := n })
    let held := sUp.updRegion 7 (fun x => { x with state := 3, holdWait := true })
    let retry := { sUp with sched := { sUp.sched with retry := [7] } }
    let idle := ((sUp.odSet 0x2000 4 1).updRegion 7 (fun x => { x with state := 3 })).updRegion 15 (fun x => { x with state := 3 })
    ((after (.regionOn 7) (st 7 2)).region 7).state = 3 ∧ ((after (.regionOn 7) (st 7 2)).tile 143).storing = true ∧
    ((after (.regionHoldRelease 7) held).region 7).holdWait = false ∧ (after (.placementRetry 7) retry).sched.retry = [] ∧
    idle.bup.stage ≠ 4 ∧ (sectorTiles 7).all idle.tileIdle = true ∧ ((after (.regionGateOff 7) idle).region 7).state = 0 ∧
    ((after (.regionGateOff 7) idle).region 15).state = 0 := by decide +kernel

/-- Every partition stopped. -/
def stopAll (s : State) : State :=
  { s with sched := { s.sched with parts := (List.range 8).map (fun p => (p, { Part.init with state := 2 })) } }

/-- A profile write and its end, STANDBY and ACTIVE, self-refresh; R412, R418. -/
theorem test_power_states :
    let off := stopAll (sPwr (fun p => { p with converter := false }))
    let chg := sPwr (fun p => { p with changing := true })
    let stb := sPwr (fun p => { p with standby := true })
    mirrorTakes off 0x2000 1 1 = true ∧ (after (.powerProfileWrite via 1) off).odGet 0x2000 1 = 1 ∧
    (after (.powerProfileWrite via 1) off).pwr.changing = false ∧
    (after .profileChangeComplete chg).pwr.changing = false ∧
    mirrorTakes (stopAll sUp) 0x2000 3 1 = true ∧ (after (.powerStateRequest via 1) (stopAll sUp)).pwr.standby = true ∧
    (after (.powerStateRequest via 0) stb).pwr.standby = false ∧ (stb.stack 7).good = true ∧ stb.reqs = [] ∧
    ((after (.selfRefreshEntry 7) stb).stack 7).selfRefresh = true := by decide +kernel

/-! Thermal. -/

def sGroup (g : Nat) (x : ThGroup) : State :=
  { (sUp.updRegion 7 (fun r => { r with state := 3 })).updRegion 15 (fun r => { r with state := 3 }) with thm := { sUp.thm with groups := [(g, x)] } }

/-- An HBM sensor at 74.9 and at 75.0 °C, and a group whose sector is off; R424–R426. -/
theorem test_thermal_sample :
    let s := sGroup 31 { ThGroup.init with valid := true }
    s.groupPowered 31 = true ∧ sensorCount 31 = 1 ∧
    ((after (.thermalSample 31 [749] 0 (0, 0)) s).thGroup 31).level = 0 ∧ ((after (.thermalSample 31 [749] 0 (0, 0)) s).thGroup 31).eff = 749 ∧
    ((after (.thermalSample 31 [750] 0 (0, 0)) s).thGroup 31).level = 1 ∧ codes (after (.thermalSample 31 [750] 0 (0, 0)) s) = [(0x0E, 4, 0)] ∧
    s.groupPowered 8 = false ∧ goes (.thermalSample 31 [] 0 (0, 0)) s = false := by decide +kernel

/-- Faults, suspicion, the fall of a level; R421, R425, R426. -/
theorem test_thermal_levels :
    let f := sGroup 31 { ThGroup.init with dev := [(0, 50)] }
    let h := sGroup 15 { ThGroup.init with hot := 100000 }
    let c := sGroup 31 { ThGroup.init with level := 2, cool := 50 }
    codes (after (.thermSensorFault 31 0) f) = [(0x0E, 1, 0)] ∧ ((after (.thermSensorFault 31 0) f).thGroup 31).excluded = [0] ∧
    50 * h.odNat 0x2100 0x0D ≤ 100000 ∧ ((after (.thermSensorSuspect 15) h).thGroup 15).suspect = true ∧
    (after (.thermSensorSuspect 15) h).thm.throttled = [7] ∧ codes (after (.thermSensorSuspect 15) h) = [(0x0E, 3, 2)] ∧
    ((after (.levelFall 31) c).thGroup 31).level = 1 := by decide +kernel

/-- A shutdown, and the latch; R432, R433. -/
theorem test_thermal_shutdown :
    let s := sGroup 31 { ThGroup.init with overShut := 2 }
    let l := { sPwr (fun p => { p with aux := false, main := false }) with thm := { sUp.thm with latch := true } }
    (after (.thermShutdown 31) s).pwr.converter = false ∧ (after (.thermShutdown 31) s).thm.latch = true ∧
    (after (.thermShutdown 31) s).thm.lastShut.take 3 = [0x0E, 0x07, 4] ∧ (after .shutdownLatchClear l).thm.latch = false := by decide +kernel

end Sys2Proof.Tests
end

