-- ==== Sys2Proof/Tests/BringUp.lean ====
section
/-! SUPPORT. Tests of bring-up, recovery and resets (R436–R474). -/

namespace Sys2Proof.Tests
open Sys2Proof Sys2Proof.Machine

set_option Elab.async false

def sBup (f : Bup → Bup) : State := { sUp with bup := f sUp.bup }
/-- Bring-up in a stage, state 0. -/
def sStage (n : Nat) : State := sBup (fun b => { b with state := 0, stage := n })

/-- A cold reset of a running device, and its release with RECOV_N high and low; R439, R459. -/
theorem test_cold_reset :
    let d := after (.coldReset false) { sUp with nextReq := 5, reqs := [newReq (.mgt 0) 0 .load 0 8 [] 0] }
    let a := after .auxInputLoss sUp
    sUp.pwr.aux = true ∧ sUp.od.busy = none ∧ d.bup.held = true ∧ d.pwr.converter = false ∧ d.reqs = [] ∧ a.pwr.aux = false ∧
    (after (.coldResetRelease 0xF) d).bup.held = false ∧ (after (.coldResetRelease 0xF) d).pins.straps = 15 ∧
    (after (.coldResetRelease 0xF) d).bup.state = 0 ∧ (after (.coldResetRelease 7) d).bup.rom = true ∧
    (after (.coldResetRelease 7) d).bup.state = 5 := by decide +kernel

/-- Stage 0 with an image that the ROM refuses; R439, R456. -/
theorem test_stage0_refused :
    let s := sBup (fun b => { b with state := 0, stage := 0, fw := false, imageOk := false })
    s.imageGood = false ∧ (after (.bringupStageComplete [] []) s).bup.rom = true ∧
    codes (after (.bringupStageComplete [] []) s) = [(0x12, 1, 4)] := by decide +kernel

/-- Every security version number is at or above a floor of 0; the checks of an image pass or fail. -/
theorem test_stage0_image :
    (sStage 0).fuses.svnFloor ≤ Config.imageSvn (sStage 0).bup.image ∧
    (Config.imageVerifies (sStage 0).fuses.keyHash (sStage 0).bup.image = true ∨
     Config.imageVerifies (sStage 0).fuses.keyHash (sStage 0).bup.image = false) :=
  ⟨Nat.zero_le _, by cases Config.imageVerifies (sStage 0).fuses.keyHash (sStage 0).bup.image <;> simp⟩

/-- Stages 1 to 3; R440–R445. -/
theorem test_stages :
    let one := { sStage 1 with bedLosc := 99 }
    let two := let s := sStage 2
      ({ s with bup := { s.bup with trained := (List.range 8).map (fun n => (n, 2)) } }).setLink 27 { Link.init with enable := true }
    one.pwr.main = true ∧ one.thm.latch = false ∧ (after (.bringupStageComplete [] []) one).bup.stage = 2 ∧
    (after (.bringupStageComplete [] []) one).bed.sweeping = true ∧ (after (.bringupStageComplete [] []) one).bedLosc = 0 ∧
    (after (.bringupStageComplete [0] []) one).bup.state = 4 ∧
    two.memoriesDone = true ∧ (after (.bringupStageComplete [] []) two).bup.stage = 3 ∧
    ((after (.bringupStageComplete [] []) two).link 27).state = 2 ∧
    (sStage 3).linksDone = true ∧ (after (.bringupStageComplete [] []) (sStage 3)).bup.stage = 4 := by decide +kernel

/-- Stage 4 with every tile bad but two, and stage 5; R446–R452. -/
theorem test_stage4 :
    let s := { sStage 4 with startupHold := true, regions := (List.range 16).map (fun r => (r, { Region.init with state := 3 })), tiles := allTiles.map (fun t => (t, { Tile.init with causes := if t < 2 then 0 else 1, rate := 0xFFFF_FFFF_0000_0000 })) }
    let s' := after (.bringupStageComplete [] []) s
    s.facesReady [] [] = true ∧ s'.bup.stage = 5 ∧ s'.startupHold = false ∧ (s'.tile 0).role = 0 ∧ (s'.tile 143).role = 2 ∧
    (after (.bringupStageComplete [] []) (sStage 5)).bup.stage = 6 ∧ (sStage 5).topoHolds = true := by decide +kernel

/-- A stage's time; R449. -/
theorem test_stage_timeout :
    let s' := after .bringupStageTimeout (sStage 4)
    s'.bup.state = 4 ∧ s'.bup.stagesOver = [4] ∧ codes s' = [(0x0F, 2, 4)] ∧
    (after .bringupStageTimeout (sStage 3)).bup.stage = 5 := by decide +kernel

/-- Training of a stack with eight and with nine failed pseudo-channels, and one that fails; R441–R443. -/
theorem test_hbm_training :
    let c := fun r f => after (.hbmTrainingDone 7 r f 0) (sStage 2)
    SMap.find (sStage 2).bup.trained 7 = none ∧ (sStage 2).savedOk 7 ((sStage 2).band 31) = false ∧
    popCount 64 0xFF = 8 ∧ ((c 2 0xFF).stack 7).fenced = 0xFF ∧ ((c 2 0xFF).stack 7).sweeping = true ∧
    ((c 3 0).stack 7).good = false ∧ SMap.find (c 3 0).bup.trained 7 = some 5 := by decide +kernel

/-! Recovery and resets. -/

/-- recv of a device that is up, eras and comt in RECOVERY, their ends; R455, R457. -/
theorem test_recovery :
    let r := stopAll (sBup (fun b => { b with state := 5 }))
    let e := stopAll (sBup (fun b => { b with state := 5, erased := true, recovery := 2 }))
    let w := fun n => sBup (fun b => { b with state := 5, recovery := n, image := [(0, 7)] })
    mirrorTakes sUp 0x2200 6 0x76636572 = true ∧ sUp.bup.state ≠ 0 ∧ (after (.recv via) sUp).bup.state = 5 ∧
    mirrorTakes r 0x2200 6 0x73617265 = true ∧ (after (.eras via) r).bup.recovery = 1 ∧
    mirrorTakes e 0x2200 6 0x746D6F63 = true ∧ (after (.comt via) e).bup.recovery = 3 ∧
    (after (.eraseComplete true) (w 1)).bup.image = [] ∧ (after (.eraseComplete true) (w 1)).bup.recovery = 2 ∧
    (after (.eraseComplete false) (w 1)).bup.recovery = 5 ∧ (after .xspiTimeout (w 1)).bup.recovery = 5 := by decide +kernel

/-- A flash timeout while a store runs; R518. -/
theorem test_xspi_store :
    let c : StoreCopy := { valid := true, seq := 1, vals := [], blobs := [] }
    let b := { sUp with od := { sUp.od with busy := some c } }
    (after .xspiTimeout b).od.busy = none ∧ (after .xspiTimeout b).odGet 0x1F00 3 = 3 := by decide +kernel

/-- Warm reset: both ways in, its bound, the end of the write-back; R460, R466. -/
theorem test_warm_reset :
    let at_ := fun n => sBup (fun b => { b with warmStep := n, state := 0 })
    mirrorTakes sUp 0x2210 1 0x6D726177 = true ∧ (after (.warmResetCommand via) sUp).bup.warmStep = 3 ∧
    (after .warmRstN sUp).bup.warmStep = 3 ∧ (after .warmRstN sUp).bup.lastReset = 2 ∧
    (after .warmResetQuiesceBound (at_ 3)).bup.warmStep = 5 ∧
    (after .llcWritebackDone (at_ 5)).bup.warmStep = 8 ∧ (after .llcWritebackDone (at_ 5)).bup.stage = 4 := by decide +kernel

/-- Resets of a tile, a partition and a link; R461–R465. -/
theorem test_unit_resets :
    let busy := sPlaced []
    let part := stopAll sPart
    let lk := (sUp.setLink 27 { Link.init with enable := true, state := 1 })
    mirrorTakes sUp 0x2210 3 143 = true ∧ sUp.tileIdle 143 = true ∧ (sUp.tile 143).storing = false ∧
    (after (.tileReset via 143) sUp).bup.lastReset = 5 + 143 * 256 ∧
    mirrorTakes busy 0x2210 3 0 = true ∧ busy.tileIdle 0 = false ∧ (after (.tileReset via 0) busy).tiles = busy.tiles ∧
    (codes (after (.tileReset via 0) busy)).contains (0x0F, 8, 0) = true ∧
    mirrorTakes part 0x2210 2 2 = true ∧ ((part.partSectors 2).flatMap sectorTiles).all part.tileIdle = true ∧
    (after (.partitionReset via 2) part).bup.lastReset = 4 + 2 * 256 ∧
    mirrorTakes lk 0x7004 27 1 = true ∧ lk.seated 27 = true ∧ ((after (.linkReset via 27) lk).link 27).state = 2 := by decide +kernel

end Sys2Proof.Tests
end

