-- ==== Sys2Proof/Tests/Dictionary.lean ====
section
/-! SUPPORT. Tests of the management port and of the object dictionary (R359–R381). -/

namespace Sys2Proof.Tests
open Sys2Proof Sys2Proof.Machine

set_option Elab.async false

/-- A frame of version 1: command, session, sequence number, entry, offset, data length and data. -/
def fr (ver command session seq idx sub off len : Nat) (data : List Byte) : List Byte :=
  leBytes 4 (ver * 16 + command * 256) ++ leBytes 2 session ++ leBytes 2 seq ++ leBytes 2 idx ++ leBytes 2 sub ++ leBytes 4 off ++
    leBytes 4 len ++ data

def mac1 : BitVec 48 := 0x0200_0000_0001
/-- The head of a frame for the port. -/
def eth1 : Eth := { dst := BitVec.ofNat 48 sUp.fuses.mac.toNat, src := mac1, type := 0x88B5 }
def ses1 : Session := { id := 65535, mac := mac1.toNat, role := 2, seq := 65535, kept := none }
def sSes (x : Session) : State := { sUp with mgp := { sUp.mgp with sessions := [x] } }
def dIn (s : State) (f : List Byte) (command : Nat) : Bool :=
  s.accepts eth1 && decide (frameNat f 0 1 / 16 = 1) && decide (frameLen f ≤ 1024) && decide (20 + frameLen f ≤ f.length) &&
  decide (frameNat f 1 1 = command)
/-- The statuses and data of the messages sent. -/
def sent (s : State) : List (Nat × List Byte) := s.mgp.outbox.map (fun m => (m.status, m.data))

/-- OPEN: a frame that arrives with room, and one that finds four sessions; R362. -/
theorem test_deale_open :
    let f := fr 1 0x10 0 0 0 0x0200 0 0 []
    let full := { sUp with mgp := { sUp.mgp with sessions := List.replicate 4 ses1 } }
    dIn sUp f 0x10 = true ∧ sUp.mgp.sessions.length < 4 ∧ (dealeOf mac1.toNat f).role = 2 ∧ goes (.dealeOpen eth1 f) sUp = true ∧
    dIn full f 0x10 = true ∧ sent (after (.dealeOpen eth1 f) full) = [(DEALE_BUSY, [])] ∧
    codes (after (.dealeOpen eth1 f) full) = [(0x11, 0x0A, 0)] := by decide +kernel

/-- READ after the number wraps, a READ below the role, CLOSE; R363, R369, R370. -/
theorem test_deale_read_close :
    let rd := fr 1 1 65535 0 0x1000 5 0 0 []
    let sec := fr 1 1 65535 0 0x2F00 1 0 0 []
    let cl := fr 1 0x11 65535 0 0 0 0 0 []
    let s := sSes ses1
    dIn s rd 1 = true ∧ ((s.odEntry 0x1000 5).map (fun e => (e.readable, e.scalar, e.size))) = some (true, true, 1) ∧
    sent (after (.dealeRead eth1 rd) s) = [(OD_OK, [1])] ∧ (after (.dealeRead eth1 rd) s).mgp.sessions.map (fun x => x.seq) = [0] ∧
    dIn s sec 1 = true ∧ (s.odEntry 0x2F00 1).isSome = true ∧
    sent (after (.dealeRead eth1 sec) (sSes { ses1 with role := 0 })) = [(DEALE_ROLE, [])] ∧
    dIn s cl 0x11 = true ∧ (after (.dealeClose eth1 cl) s).mgp.sessions = [] := by decide +kernel

/-- WRITE, a repeated WRITE, READ_BLOCK, WRITE_BLOCK; R363, R370. -/
theorem test_deale_write_block :
    let wr := fr 1 2 65535 0 0x1100 3 0 4 (leBytes 4 200)
    let rb := fr 1 3 65535 0 0x1100 4 60 4 [0, 0, 0, 0]
    let wb := fr 1 4 65535 0 0x1100 4 63 1 [9]
    let kept := { dealeOf mac1.toNat wr with response := true }
    let s := sSes ses1
    let r := sSes { ses1 with seq := 0, kept := some kept }
    dIn s wr 2 = true ∧ (after (.dealeWrite eth1 wr) s).odGet 0x1100 3 = 200 ∧ sent (after (.dealeWrite eth1 wr) s) = [(OD_OK, [])] ∧
    dIn r wr 2 = true ∧ (after (.dealeWrite eth1 wr) r).odGet 0x1100 3 = 10000 ∧ (after (.dealeWrite eth1 wr) r).mgp.outbox = [kept] ∧
    dIn s rb 3 = true ∧ sent (after (.dealeReadBlock eth1 rb) s) = [(OD_OK, [0, 0, 0, 0])] ∧
    dIn s wb 4 = true ∧ (after (.dealeWriteBlock eth1 wb) s).odBytes 0x1100 4 63 1 = [9] := by decide +kernel

/-- A frame of another EtherType, and one for another address, are not Deale's; R360. -/
theorem test_deale_others :
    let rd := fr 1 1 65535 0 0x1000 5 0 0 []
    sUp.accepts { eth1 with type := 0x0800 } = false ∧ sUp.accepts { eth1 with dst := 0xFFFF_FFFF_FFFF } = false ∧
    (after (.dealeRead { eth1 with type := 0x0800 } rd) (sSes ses1)).mgp.outbox = [] := by decide +kernel

/-- A wrong number, no session, an undefined command, a wrong version; a session that times out; R361, R363. -/
theorem test_deale_refusals :
    let s := sSes ses1
    let num := fr 1 1 65535 5 0x1000 5 0 0 []
    let nos := fr 1 1 7 0 0x1000 5 0 0 []
    let cmd := fr 1 0x12 65535 0 0 0 0 0 []
    let ver := fr 2 1 65535 0 0x1000 5 0 0 []
    dIn s num 1 = true ∧ codes (after (.dealeRead eth1 num) s) = [(0x11, 4, 0)] ∧
    dIn s nos 1 = true ∧ codes (after (.dealeRead eth1 nos) s) = [(0x11, 3, 0)] ∧
    dIn s cmd 0x12 = true ∧ codes (after (.dealeCommand eth1 cmd) s) = [(0x11, 2, 0)] ∧
    codes (after (.dealeRead eth1 ver) s) = [(0x11, 1, 0)] ∧ (after (.sessionTimeout 65535) s).mgp.sessions = [] := by decide +kernel

/-- `save` through Deale: the message of the row, and its check; R376. -/
theorem test_deale_save :
    let s := sSes ses1
    s.dealeServed = true ∧ s.bup.rom = false ∧ ses1.role = 2 ∧
    s.mgp.sessions.find? (fun y => y.id == 65535 && y.mac == mac1.toNat) = some ses1 ∧
    s.odCheckWrite 0x1F00 1 storeSave = OD_OK := by decide +kernel

/-- Reads of the mirror: a value, a descriptor word, an entry that is not there; R379, R380. -/
theorem test_od_mirror_read :
    let rd := fun (sub : Byte) d => after (.odMirrorRead 0xE8 0x1100 sub d) sUp
    (sUp.checkAccess 0xE8 0 .R (sUp.globalOf (mirrorOff 0x1100 3)).toNat 8).toOption.isSome = true ∧
    (rd 3 false).resp.map (fun r => vals r.data) = [leBytes 8 10000] ∧
    (sUp.odEntry 0x1100 99).isNone = true ∧ (rd 99 false).resp.map (fun r => vals r.data) = [leBytes 8 0] ∧
    fld (SMap.get (0 : W64) (rd 99 false).od.last 0xE8) 0 8 = OD_NO_OBJECT ∧ (rd 3 true).resp.length = 1 := by decide +kernel

/-- Writes of the mirror: out of range, taken, of 4 bytes; R370, R371. -/
theorem test_od_mirror_write :
    let off := mirrorOff 0x2500 3
    let c := fun len v => after (.odMirrorWrite (wrW off len v)) sUp
    lands sUp off 8 1 = true ∧ ownOd 0x2500 3 1 = false ∧ sUp.odCheckWrite 0x2500 3 1 = OD_OK ∧ (c 8 1).odGet 0x2500 3 = 1 ∧
    lands sUp off 8 0xFFFF_FFFF = true ∧ (sUp.odCheckWrite 0x2500 3 0xFFFF_FFFF_FFFF != OD_OK) = true ∧
    ((c 8 0xFFFF_FFFF_FFFF).rel.queue.map (fun r => r.cls)) = [0x11] ∧
    lands sUp off 4 1 = true ∧ ((c 4 1).rel.queue.map (fun r => r.cls)) = [0x11] := by decide +kernel

/-- Port 15 selects OD 0x1100.04 from byte 60 on; R381. -/
theorem test_block_port :
    let s := { sUp with od := { sUp.od with sel := [(15, 0x0000_003C_0004_1100)] } }
    (s.checkAccess 0xE8 0 .R (s.globalOf (portOff 15 0)).toNat 4).toOption.isSome = true ∧
    s.odCheckRead 0x1100 4 true 60 4 = OD_OK ∧ s.reqs = [] ∧
    (after (.blockPortRead 15 0xE8 0 4) s).resp.map (fun r => vals r.data) = [[0, 0, 0, 0]] ∧
    (after (.blockPortWrite 15 0xE8 3 [7]) s).odBytes 0x1100 4 63 1 = [7] := by decide +kernel

/-- The flash window through a port: the write is that of the window, with its own checks; R457. -/
theorem test_flash_window :
    let s := { sUp with od := { sUp.od with sel := [(15, 0x0000_0000_0008_2200)] } }
    goes (.flashWindowWrite 15 0xE8 0 [7]) s = true ∧ (after (.blockPortWrite 15 0xE8 0 [7]) s).rel.queue = [] := by decide +kernel

/-- `save` and `dflt` through the mirror, and the end of a store; R376. -/
theorem test_store :
    let c : StoreCopy := { valid := true, seq := 1, vals := [], blobs := [] }
    let b := { sUp with od := { sUp.od with busy := some c } }
    mirrorTakes sUp 0x1F00 1 storeSave = true ∧ (after (.save via) sUp).od.busy.isSome = true ∧ (after (.save via) sUp).odGet 0x1F00 3 = 1 ∧
    mirrorTakes sUp 0x1F00 1 storeDflt = true ∧ ((after (.dflt via) sUp).od.busy.map (fun c => c.valid)) = some true ∧
    (after (.storeComplete true) b).od.busy = none ∧ (after (.storeComplete true) b).odGet 0x1F00 3 = 2 ∧
    (after (.storeComplete false) b).odGet 0x1F00 3 = 3 := by decide +kernel

end Sys2Proof.Tests
end

