-- ==== Sys2Proof/Tests/Groups.lean ====
section
/-! SUPPORT. Tests of the thread-group engine (R145–R175): words written from the encoding of R150. -/

namespace Sys2Proof.Tests
open Sys2Proof Sys2Proof.Machine

set_option Elab.async false

/-- A group instruction word: CLASS, OP, VD, VA, VB, VC, IMM; PEN, PNEG, PRED and LU are zero. -/
def gw (cls op vd va vb vc imm : Nat) : W64 :=
  BitVec.ofNat 64 (cls * 2 ^ 58 + op * 2 ^ 52 + vd * 2 ^ 40 + va * 2 ^ 33 + vb * 2 ^ 26 + vc * 2 ^ 19 + imm)

/-- A kernel of one group on every sequencer. -/
def kl0 : Kl := Kl.ofWords [0x0000_00FF_0000_0001, 0x4000, 0, 0]
def krun0 : KRun := { kl := kl0, op := 0, next := 1, strict := false, flush := false }

/-- v registers with values, by register × 32 + lane: their words in the main file, and which are live. -/
def vwords (vs : List (Nat × W32)) : SMap RWord := vs.map (fun e => (e.1, RWord.of e.2))
def vlives (vs : List (Nat × W32)) : Nat := vs.foldl (fun n e => natSetBit n e.1 true) 0

/-- A group with v registers. -/
def Grp.withV (g : Grp) (vs : List (Nat × W32)) : Grp := { g with v := vwords vs, live := vlives vs }
/-- A group with u5. -/
def withU5 (g : Grp) (v : W64) : Grp := g.setU 5 v

/-- A group at PC 0x4000 with all lanes active; v1 holds the lane number times 3, v2 all ones, v4 is 0x1000; u1 is 5, u2 all ones. -/
def grp0 : Grp :=
  Grp.withV { num := 0, order := 0, pc := 0x4000, active := 0xFFFF_FFFF, exited := 0, stack := [],
              u := [(2, RWord.of 5), (4, RWord.of 0xFFFF_FFFF), (5, RWord.of 0xFFFF_FFFF)], p := [(1, 0x0000_FFFF)],
              live := 0, v := [], rc := [], loads := [], sync := none, busyV := [], stopped := false, fence := 0 }
    ((List.range 32).map (fun l => (32 + l, BitVec.ofNat 32 (3 * l))) ++ (List.range 32).map (fun l => (64 + l, 0xFFFF_FFFF)) ++
      (List.range 32).map (fun l => (128 + l, (0x1000 : W32))))

/-- Tile 3 with the group in slot 9, its next word in the instruction cache. -/
def sGrp (w : W64) (g : Grp) : State :=
  sTile 3 { coreTile 0 [] with tge := { Tge.init with kern := some krun0, slots := [(9, g)], gic := [(0x100, clean (leBytes 8 w.toNat))] } }

/-- Whether the group stands at the checked word. -/
def at9 (w : W64) (g : Grp) : Bool := match gUse w with | some u => (sGrp w g).groupAt 3 9 g w u | none => false

/-- The group after a command. -/
def grpAfter (c : Instr) (s : State) : Grp := ((after c s).grp 3 9).getD grp0

/-- ISUB by lane, and an immediate add of −1; R150. -/
theorem test_vint :
    at9 (gw 0 1 9 1 2 0 0) grp0 = true ∧ gCls (gw 0 1 9 1 2 0 0) = 0 ∧
    (grpAfter (.vint 3 9) (sGrp (gw 0 1 9 1 2 0 0) grp0)).vlive 9 31 = some 94 ∧
    (grpAfter (.vint 3 9) (sGrp (gw 0 15 9 1 0 0 0x1FFF) grp0)).vlive 9 0 = some 0xFFFF_FFFF ∧
    (grpAfter (.vint 3 9) (sGrp (gw 0 15 9 1 0 0 0x1FFF) grp0)).pc = 0x4008 := by decide +kernel

/-- ICMP signed less-than writes predicate bits; R150. -/
theorem test_vint_icmp :
    at9 (gw 0 16 3 2 1 0 2) grp0 = true ∧ gOp (gw 0 16 3 2 1 0 2) = 16 ∧
    (grpAfter (.vint 3 9) (sGrp (gw 0 16 3 2 1 0 2) grp0)).preg 3 = 0xFFFF_FFFF := by decide +kernel

/-- FADD of 1.0 and 1.0 given in v1; R152. -/
theorem test_vfp :
    let g := Grp.withV { grp0 with active := 1 } [(32, 0x3F80_0000)]
    at9 (gw 1 0 9 1 1 0 0) g = true ∧ gCls (gw 1 0 9 1 1 0 0) = 1 ∧
    (grpAfter (.vfp 3 9) (sGrp (gw 1 0 9 1 1 0 0) g)).vlive 9 0 = some 0x4000_0000 ∧
    (grpAfter (.vfp 3 9) (sGrp (gw 1 0 9 1 1 0 0) g)).vlive 9 1 = none := by decide +kernel

/-- UADD wraps at 64 bits; R150. -/
theorem test_uni :
    at9 (gw 6 0 3 1 2 0 0) grp0 = true ∧ gCls (gw 6 0 3 1 2 0 0) = 6 ∧
    (grpAfter (.uni 3 9) (sGrp (gw 6 0 3 1 2 0 0) grp0)).ureg 3 = 4 := by decide +kernel

/-- PNOT in active lanes only, and BALLOT; R150. -/
theorem test_pred :
    let g := { grp0 with active := 0xFF00_FF00 }
    at9 (gw 7 3 2 1 0 0 0) g = true ∧ gCls (gw 7 3 2 1 0 0 0) = 7 ∧
    (grpAfter (.pred 3 9) (sGrp (gw 7 3 2 1 0 0 0) g)).preg 2 = 0xFF00_0000 ∧
    (grpAfter (.pred 3 9) (sGrp (gw 7 6 4 1 0 0 0) g)).ureg 4 = 0xFF00 := by decide +kernel

/-- SHFL reads lane VB mod 32, BCAST the low half, RDLANE the lowest active lane; R150. -/
theorem test_lanes :
    let g := { grp0 with active := 0xFFFF_FFF0 }
    at9 (gw 9 0 9 1 2 0 0) g = true ∧ gCls (gw 9 0 9 1 2 0 0) = 9 ∧
    (grpAfter (.shfl 3 9) (sGrp (gw 9 0 9 1 2 0 0) g)).vlive 9 4 = some 93 ∧
    at9 (gw 9 1 9 2 0 0 0) g = true ∧ (grpAfter (.bcast 3 9) (sGrp (gw 9 1 9 2 0 0 0) g)).vlive 9 31 = some 0xFFFF_FFFF ∧
    at9 (gw 9 2 9 1 0 0 0) g = true ∧ (grpAfter (.rdlane 3 9) (sGrp (gw 9 2 9 1 0 0 0) g)).ureg 9 = 12 := by decide +kernel

/-- IF on p1, written as PEN 0 with PRED 1. -/
def wCond (op imm : Nat) : W64 := gw 5 op 0 0 0 0 imm + BitVec.ofNat 64 (2 ^ 47)

/-- IF narrows, ELSE turns, ENDIF restores; R157. -/
theorem test_if_else_endif :
    at9 (wCond 0 4) grp0 = true ∧ gCls (wCond 0 4) = 5 ∧ grp0.stack.length < 16 ∧
    (grpAfter (.maskIf 3 9) (sGrp (wCond 0 4) grp0)).active = 0xFFFF ∧
    (grpAfter (.maskIf 3 9) (sGrp (wCond 0 4) grp0)).stack = [{ kind := 0, saved := 0xFFFF_FFFF, els := 0xFFFF_0000 }] ∧
    (let g := { grp0 with active := 0xFFFF, stack := [{ kind := 0, saved := 0xFFFF_FFFF, els := 0 }] }
     at9 (gw 5 1 0 0 0 0 4) g = true ∧ (grpAfter (.maskElse 3 9) (sGrp (gw 5 1 0 0 0 0 4) g)).pc = 0x4020) ∧
    (let g := { grp0 with active := 0, stack := [{ kind := 1, saved := 0xFFFF_FFFF, els := 0 }] }
     at9 (gw 5 2 0 0 0 0 0) g = true ∧ (grpAfter (.maskEndif 3 9) (sGrp (gw 5 2 0 0 0 0 0) g)).active = 0xFFFF_FFFF) := by decide +kernel

/-- LOOP, BREAK through an IF, CONT back, ENDLOOP; R157. -/
theorem test_loop :
    let e : MaskEnt := { kind := 2, saved := 0xFFFF_FFFF, els := 0 }
    let g := { grp0 with stack := [e] }
    at9 (gw 5 3 0 0 0 0 0) grp0 = true ∧ (grpAfter (.maskLoop 3 9) (sGrp (gw 5 3 0 0 0 0 0) grp0)).stack = [e] ∧
    (let g := { grp0 with stack := [{ kind := 0, saved := 0xFFFF_FFFF, els := 0xFF }, e] }
     at9 (wCond 4 0) g = true ∧ (grpAfter (.maskBreak 3 9) (sGrp (wCond 4 0) g)).active = 0xFFFF_0000 ∧
     (grpAfter (.maskBreak 3 9) (sGrp (wCond 4 0) g)).stack = [{ kind := 0, saved := 0xFFFF_0000, els := 0 }, e]) ∧
    at9 (gw 5 5 0 0 0 0 0xFFFF) g = true ∧ (grpAfter (.maskCont 3 9) (sGrp (gw 5 5 0 0 0 0 0xFFFF) g)).pc = 0x3FF8 ∧
    at9 (gw 5 6 0 0 0 0 0) { g with active := 0 } = true ∧
    (grpAfter (.maskEndloop 3 9) (sGrp (gw 5 6 0 0 0 0 0) { g with active := 0 })).active = 0xFFFF_FFFF := by decide +kernel

/-- EXIT leaves every mask; END of the last lanes empties the slot; R158. -/
theorem test_exit_end :
    let g := { grp0 with stack := [{ kind := 2, saved := 0xFFFF_FFFF, els := 0 }] }
    at9 (wCond 7 0) g = true ∧ (grpAfter (.maskExit 3 9) (sGrp (wCond 7 0) g)).exited = 0xFFFF ∧
    (grpAfter (.maskExit 3 9) (sGrp (wCond 7 0) g)).stack = [{ kind := 2, saved := 0xFFFF_0000, els := 0 }] ∧
    at9 (gw 5 8 0 0 0 0 0) grp0 = true ∧ (after (.groupEnd 3 9) (sGrp (gw 5 8 0 0 0 0 0) grp0)).grp 3 9 = none := by decide +kernel

/-- Branches, CALL and RET; R160. -/
theorem test_branches :
    at9 (gw 5 9 0 0 0 0 0x8000) grp0 = true ∧ (grpAfter (.jmp 3 9) (sGrp (gw 5 9 0 0 0 0 0x8000) grp0)).pc = 0xFFFF_FFFF_FFFC_4000 ∧
    at9 (wCond 10 2) grp0 = true ∧ (grpAfter (.braAny 3 9) (sGrp (wCond 10 2) grp0)).pc = 0x4010 ∧
    at9 (wCond 11 2) grp0 = true ∧ (grpAfter (.braAll 3 9) (sGrp (wCond 11 2) grp0)).pc = 0x4008 ∧
    at9 (gw 5 12 63 0 0 0 2) grp0 = true ∧ (grpAfter (.call 3 9) (sGrp (gw 5 12 63 0 0 0 2) grp0)).ureg 63 = 0x4008 ∧
    at9 (gw 5 13 0 1 0 0 0) grp0 = true ∧ (grpAfter (.ret 3 9) (sGrp (gw 5 13 0 1 0 0 0) grp0)).pc = 5 := by decide +kernel

/-- A kernel starts, its first group takes the lowest slot of its sequencers, and it ends; R131, R146. -/
theorem test_kernel :
    let x := coreTile 0 []
    let s0 := sTile 3 { x with tge := { Tge.init with kq := [(kl0, 4)] } }
    let k := { krun0 with next := 0, kl := { kl0 with seqMask := 0x80 } }
    let s1 := sTile 3 { x with tge := { Tge.init with kern := some k } }
    let s2 := sTile 3 { x with tge := { Tge.init with kern := some krun0 } }
    kl0.tagsReady [] 4 = true ∧ ((after (.kernelStart 3) s0).tge 3).kern.map (fun k => k.op) = some 4 ∧
    k.kl.seqMask.testBit (seqOf 56) = true ∧ ((after (.groupStart 3) s1).grp 3 56).map (fun g => (g.pc, g.active)) = some (0x4000, 0xFFFF_FFFF) ∧
    s2.l1Quiet 3 = true ∧ krun0.kl.groups ≤ krun0.next ∧ ((after (.kernelEnd 3) s2).tge 3).kern = none := by decide +kernel

/-- A line of group instructions that has come is taken; R149. -/
theorem test_group_fetch :
    let g := { grp0 with pc := 0x1048 }
    let s := { sGrp 0 g with reqs := [{ newReq (.group 3 9) 1 .load 0x1040 64 (clean (leBytes 64 (7 * 2 ^ 64))) 0 with id := 1, direct := true, st := .done }] }
    s.groupMayIssue 3 9 g = true ∧ cachedGWord (s.tge 3).gic g.pc = none ∧ (s.tge 3).gicPerr.contains 0x41 = false ∧
    (match (s.directRead (.group 3 9) 1 .X 0x1040 64 0).2 with | .bytes b => b.length | _ => 0) = 64 ∧
    (cachedGWord ((after (.groupFetchReturn 3 9) s).tge 3).gic g.pc).map gWordOf = some 7 := by decide +kernel

/-- A load of one lane joins the list and asks for the 64-byte sector; R165. -/
theorem test_vmem_load :
    let g := { grp0 with active := 2 }
    let w := gw 2 0 9 4 0 0 0
    at9 w g = true ∧ gCls w = 2 ∧ (sGrp w g).lanesOk 3 9 .R 4 (g.addrs w (g.acting w)) (fun _ => true) = none ∧
    (grpAfter (.vmemLoad 3 9) (sGrp w g)).loads.map (fun l => (l.vd, l.size, l.mask)) = [(9, 4, 2)] ∧
    (after (.vmemLoad 3 9) (sGrp w g)).reqs.map (fun r => (r.addr, r.len)) = [(0x1000, 64)] := by decide +kernel

/-- A store of one lane marks its bytes dirty in an L1 line; R166. -/
theorem test_vmem_store :
    let g := { grp0 with active := 2 }
    let w := gw 2 2 0 4 1 0 0
    at9 w g = true ∧ (sGrp w g).lanesOk 3 9 .W 4 (g.addrs w (g.acting w)) (fun _ => true) = none ∧
    (sGrp w g).loadOn 3 9 0x10 = false ∧
    ((((after (.vmemStore 3 9) (sGrp w g)).tge 3).line 0x10).map (fun l => (l.dirty, l.mem.peek 0 4))) = some (15, [3, 0, 0, 0]) := by
  decide +kernel

/-- A returned load writes its lane; R166. -/
theorem test_group_load_return :
    let l : GLoad := { op := 1, vd := 9, size := 4, bypass := true, lanes := [(1, 0x1004)], vals := [], reqs := [1], pc := 0x4000,
                       word := gw 2 4 9 4 0 0 0, mask := 2 }
    let g := { grp0 with loads := [l] }
    let r := { newReq (.group 3 9) 1 .load 0x1000 64 (clean (leBytes 64 (0xABCD * 2 ^ 32))) 0 with id := 1, st := .done }
    let s := { sGrp 0 g with reqs := [r], nextReq := 2 }
    g.loads.find? (fun x => x.op == 1) = some l ∧ (l.reqs.map (fun id => s.findReq id)) = [some r] ∧ poisoned r.data = false ∧
    (laneValue s.canonAddr [r] 0x1004 4).isSome = true ∧
    (grpAfter (.groupLoadReturn 3 9 1) s).vlive 9 1 = some 0xABCD ∧ (after (.groupLoadReturn 3 9 1) s).reqs = [] := by decide +kernel

/-- Scratch of the tile's device, first byte, holding 41. -/
def sScratch (w : W64) (g : Grp) : State :=
  let s := sGrp w g
  { s with mem := { s.mem with bed := s.mem.bed.putWord (scratchPhys 32 0 / 8) 41 false } }

/-- A returning add at scratch: the old value in VD, the new at the home; R170. -/
theorem test_vatom :
    let g := withU5 (Grp.withV { grp0 with active := 2 } [(33, 1), (129, 0)]) 0x100_0000_0000
    let w := gw 3 0 9 4 1 0 (5 * 2 ^ 10)
    let s := sScratch w g
    (match gUse w with | some u => s.groupAt 3 9 g w u | none => false) = true ∧ gCls w = 3 ∧ lanesOf (g.acting w) = [1] ∧
    s.isLocal (g.addr w 1) = true ∧ regionOf (addrOffset (g.addr w 1)) = some .scratch ∧
    (s.checkAccess 3 1 .A (g.addr w 1) 4).toOption.isSome = true ∧ s.lineBusy 3 (s.canonAddr (g.addr w 1) / 256) = false ∧
    s.bankOpen (s.bankOf (addrOffset (g.addr w 1))) = true ∧
    (let s1 := s.bypassAll 3 [(1, s.canonAddr (g.addr w 1))]
     (s1.enter (.group 3 9) (s1.clsAt 3 1 .A (s.canonAddr (g.addr w 1)) 4) (s.canonAddr (g.addr w 1)) 1).2) = true ∧
    (grpAfter (.vatom 3 9) s).vlive 9 1 = some 41 ∧ (after (.vatom 3 9) s).mem.bed.wordAt (scratchPhys 32 0 / 8) = 42 := by decide +kernel

/-- RED in format 0 posts a request; R170. -/
theorem test_vatom_red :
    let g := withU5 (Grp.withV { grp0 with active := 2 } [(33, 1), (129, 0)]) 0x100_0000_0000
    let w := gw 3 12 0 4 1 0 (5 * 2 ^ 10)
    at9 w g = true ∧ (redSizes 0).isSome = true ∧ (sGrp w g).findReq (sGrp w g).nextReq = none ∧
    (after (.vatomRed 3 9) (sGrp w g)).reqs.map (fun r => (r.addr, r.kind)) = [(0x100_0000_0000, RKind.red 0)] := by decide +kernel

/-- The fences complete with nothing out and wait with a load out; R168. -/
theorem test_group_fences :
    let l : GLoad := { op := 1, vd := 9, size := 4, bypass := true, lanes := [], vals := [], reqs := [1], pc := 0, word := 0, mask := 0 }
    let busy := { grp0 with loads := [l] }
    at9 (gw 4 0 0 0 0 0 0) grp0 = true ∧ (grpAfter (.fenceG 3 9) (sGrp (gw 4 0 0 0 0 0 0) grp0)).pc = 0x4008 ∧
    (grpAfter (.fenceG 3 9) (sGrp (gw 4 0 0 0 0 0 0) busy)).fence = 1 ∧
    at9 (gw 4 1 0 0 0 0 0) grp0 = true ∧ (grpAfter (.fenceT 3 9) (sGrp (gw 4 1 0 0 0 0 0) grp0)).pc = 0x4008 ∧
    at9 (gw 4 2 0 0 0 0 0) grp0 = true ∧ (sGrp (gw 4 2 0 0 0 0 0) grp0).l1Quiet 3 = true ∧
    (grpAfter (.fenceD 3 9) (sGrp (gw 4 2 0 0 0 0 0) grp0)).pc = 0x4008 ∧
    (grpAfter (.fenceD 3 9) (sGrp (gw 4 2 0 0 0 0 0) busy)).fence = 3 := by decide +kernel

/-- An INT8 product occupies the unit; a result that is ready goes to its registers; R163, R164. -/
theorem test_gmx :
    let w := gw 8 2 16 0 2 24 0
    let g := Grp.withV grp0 [(0, 2), (64, 3)]
    let o : GmxOp := { slot := 9, vd := 16, res := [(512, 6)], sat := false, nan := false, inf := false }
    let s := sGrp 0 grp0
    let s1 := s.updTge 3 (fun x => { x with gmx := [(1, [o])] })
    at9 w g = true ∧ gCls w = 8 ∧ SMap.get [] ((sGrp w g).tge 3).gmx (seqOf 9) = [] ∧
    (((after (.mmaInt8 3 9) (sGrp w g)).tge 3).gmx.map (fun e => (e.1, e.2.map (fun o => SMap.find o.res 512)))) = [(1, [some 6])] ∧
    SMap.get [] (s1.tge 3).gmx 1 = [o] ∧ (grpAfter (.gmxResultReady 3 1) s1).vlive 16 0 = some 6 ∧
    SMap.get [] ((after (.gmxResultReady 3 1) s1).tge 3).gmx 1 = [] := by decide +kernel

/-- Tile 3 with the group in slot 9 under a kernel of MASKED_ZERO. -/
def sGrpZ (w : W64) (g : Grp) : State := (sGrp w g).updTge 3 (fun x => { x with kern := some { krun0 with kl := { kl0 with maskedZero := true } } })

/-- The words of the BF16 and FP8 products pass their checks, with one lane of a kernel of MASKED_ZERO; R163. -/
theorem test_gmx_words :
    let g := Grp.withV { grp0 with active := 1 } []
    let ok := fun w => match gUse w with | some u => (sGrpZ w g).groupAt 3 9 g w u | none => false
    ok (gw 8 0 16 0 4 24 0) = true ∧ ok (gw 8 1 16 0 2 24 3) = true ∧
    SMap.get [] ((after (.mmaBf16 3 9) (sGrpZ (gw 8 0 16 0 4 24 0) g)).tge 3).gmx 1 ≠ [] ∧
    SMap.get [] ((after (.mmaFp8 3 9) (sGrpZ (gw 8 1 16 0 2 24 3) g)).tge 3).gmx 1 ≠ [] := by decide +kernel

end Sys2Proof.Tests
end

