-- ==== Sys2Proof/Tests/Links.lean ====
section
/-! SUPPORT. Tests of ports and links (R304–R345). -/

namespace Sys2Proof.Tests
open Sys2Proof Sys2Proof.Machine

set_option Elab.async false

/-- A read of 64 bytes of HBM by tile 3 at port 0, class 1. -/
def pr : Req := { newReq (.core 3) 1 .load 0x1000 64 [] 1 with id := 4, st := .sent }
def pReq (mid id : Nat) (ready : Bool) : PReq := { mid := mid, units := 1, at_ := 0, waited := false, ready := ready, req := id }
def sPort (p : Port) : State := { sUp.setPort 0 p with reqs := [pr], nextReq := 5 }

/-- A request with budget left, without, and unlimited; R305–R308. -/
theorem test_request_admit :
    let c := Instr.requestAdmit 0 4
    let p := { Port.init with inForce := [(3, 10)], remain := [(3, 0)] }
    let p1 := { Port.init with inForce := [(3, 10)], remain := [(3, 1)] }
    (sPort p).offers 0 4 = some (3, 1, 1) ∧ inputOf 3 1 = 5 ∧ (p1.queueOf 5).length < 4 ∧
    (sPort p1).admits p1 3 = true ∧ p1.forceOf 3 ≠ unlimited ∧ (sPort p1).urgent 3 = false ∧ isScrubber 3 = false ∧
    ((after c (sPort p1)).port 0).remainOf 3 = 0 ∧ ((after c (sPort p1)).port 0).queues = [(5, [pReq 3 4 true])] ∧
    (sPort p).admits p 3 = false ∧ ((after c (sPort p)).port 0).masked = [3] ∧
    ((after c (sPort Port.init)).port 0).remain = [] := by decide +kernel

/-- A window starts; R309, R312. -/
theorem test_window_start :
    let p := { Port.init with budget := [(3, 7)], inForce := [(3, 9)], masked := [3], quota := 0x0004_0003_0002_0001, windows := 2 ^ 32 - 1 }
    let s' := after (.regulatorWindowStart 0) (sPort p)
    (s'.port 0).inForce = [(3, 7)] ∧ (s'.port 0).masked = [] ∧ (s'.port 0).windows = 0 ∧ SMap.get 0 (s'.port 0).left 15 = 4 := by
  decide +kernel

/-- The highest eligible input is granted; the transfer ends; a freed resource; the watchdog; R312–R318. -/
theorem test_arbiter :
    let p := { Port.init with queues := [(2, [pReq 0x98 9 true]), (5, [pReq 3 4 true]), (12, [pReq 0xF0 8 true])] }
    let t := { Port.init with transfer := some (5, pReq 3 4 true) }
    let r := { Port.init with ret := [(5, pReq 3 4 false)] }
    p.winner ((sPort p).preqHeld 0) = some 5 ∧ p.head 5 = some (pReq 3 4 true) ∧ p.eligible ((sPort p).preqHeld 0) 12 = false ∧
    ((after (.arbiterGrant 0) (sPort p)).port 0).transfer = some (5, pReq 3 4 true) ∧
    (after (.arbiterGrant 0) (sPort p)).reqs.map (fun r => r.adm) = [2] ∧
    ((after (.transferEnd 0) (sPort t)).port 0).transfer = none ∧ (sPort r).lacksNothing 0 (pReq 3 4 false) = true ∧
    ((after (.targetResourceFree 0 5) (sPort r)).port 0).ret = [(5, pReq 3 4 true)] ∧
    ((after (.arbStuck 0) (sPort t)).port 0).stuck = true ∧ codes (after (.arbStuck 0) (sPort t)) = [(0x0C, 1, 1)] := by decide +kernel

/-- The watchdog at a transfer of a master outside the tiles that left nothing behind; R315. -/
theorem test_arb_stuck_other :
    let t := { Port.init with transfer := some (2, pReq 0x98 9 true) }
    (sPort t).findReq 9 = none ∧ ((after (.arbStuck 0) (sPort t)).port 0).lastMid = 0x98 ∧
    (after (.arbStuck 0) (sPort t)).reqs = [pr] := by decide +kernel

/-! Links. -/

def sLink (l : Nat) (k : Link) : State := sUp.setLink l k
def up : Link := { Link.init with state := 4, enable := true, res := 2, pool := 1 }

/-- A frame of one header slot of a READ, type 0x01. -/
def sl1 : List Byte := leBytes 8 (0x01 * 2 ^ 54) ++ List.replicate 24 0
def frame1 : List Byte := sl1 ++ List.replicate 608 0

/-- The CRC of the nine bytes 31H to 39H, from a division of polynomials by hand; R321. -/
theorem test_crc20 : crc20 [0x31, 0x32, 0x33, 0x34, 0x35, 0x36, 0x37, 0x38, 0x39] = 0x8ec40 := by decide +kernel

theorem crcBit_lt {c : Nat} (b : Bool) : crcBit c b < 2 ^ 20 := by
  unfold crcBit
  have h : c * 2 % 2 ^ 20 < 2 ^ 20 := Nat.mod_lt _ (by decide)
  dsimp only
  split
  · exact h
  · exact Nat.xor_lt_two_pow h (by decide)

/-- A CRC has 20 bits, so that every frame has a good one. -/
theorem crc20_lt (bs : List Byte) : crc20 bs < 2 ^ 20 := by
  have step : ∀ (l : List Nat) (b : Byte) (c : Nat), c < 2 ^ 20 → l.foldl (fun c i => crcBit c (b.getLsbD i)) c < 2 ^ 20 := by
    intro l b
    induction l with
    | nil => exact fun _ h => h
    | cons i l ih => exact fun c _ => ih _ (crcBit_lt _)
  have all : ∀ (bs : List Byte) (c : Nat), c < 2 ^ 20 →
      bs.foldl (fun c b => (List.range 8).foldl (fun c i => crcBit c (b.getLsbD i)) c) c < 2 ^ 20 := by
    intro bs
    induction bs with
    | nil => exact fun _ h => h
    | cons b bs ih => exact fun c h => ih _ (step _ b c h)
  exact all bs _ (by decide)

theorem toNat_of_lt20 {n : Nat} (h : n < 2 ^ 20) : n = (BitVec.ofNat 20 n).toNat := by
  rw [BitVec.toNat_ofNat, Nat.mod_eq_of_lt h]

/-- A good frame in order, and one out of order, of one header slot, exist; R321, R322. -/
theorem test_frame_good :
    ∃ crc : BitVec 20, crc20 frame1 = crc.toNat ∧ frame1.length = 640 ∧ sl1.length = 32 ∧ slotType sl1 = 1 ∧ slotCount sl1 = 0 ∧
      (0xFFF : BitVec 12).toNat = ((sLink 63 { up with rxNext := 4095 }).link 63).rxNext := by
  exact ⟨_, toNat_of_lt20 (crc20_lt _), by decide +kernel⟩

/-- A slot of a good frame hands its packet over; an uncorrectable frame asks for a NAK; R322, R324. -/
theorem test_frame_receive :
    let s := sLink 63 up
    (s.link 63).state = 4 ∧ ((s.slotIn 63 sl1).link 63).ingress.map (fun p => p.type) = [1] ∧
    ((after (.frameReceive 63 0 3 true frame1 0) s).link 63).nak = true ∧
    ((after (.frameReceive 63 0 3 true frame1 0) s).link 63).fec = 0 := by decide +kernel

/-- A replay, a packet that credits cover, one they do not, and a link control slot alone; R322–R324. -/
theorem test_replay_and_send :
    let q : QPkt := { pkt := Pkt.base 1 5 0 3 1 0 0x5000_0000_1000, from_ := none, adm := 2, id := 1 }
    let v := vcOut 63 q.pkt
    let r := sLink 63 { up with txOld := 4095, txLast := 1 }
    let s := sLink 63 { up with out := [q] }
    let n := sLink 63 { up with out := [q], res := 0, pool := 0 }
    let g := sLink 63 { up with ctlGap := 4, nak := true }
    let c : Instr := .packetSend 63 ⟨v % 12, by omega⟩ 19 false
    v < 12 ∧ (r.link 63).window = 2 ∧ (r.link 63).resend.resends.any (fun e => decide (r.odNat 0x2800 2 < e.2)) = false ∧
    ((after (.replayTimeout 63) r).link 63).replays = 2 ∧ q.pkt.slots = 1 ∧ (s.link 63).room 20 = true ∧
    ((s.setLink 63 ((s.link 63).pushSlots (List.replicate 19 idleSlot))).nextOut 63 v) = some q ∧
    ((after c s).link 63).out = [] ∧ ((after c s).link 63).resLeft v = 1 ∧ ((after c s).link 63).txLast = 1 ∧
    ((after c s).link 63).frames.map (fun f => (f.num, f.bytes.length)) = [(0, 640)] ∧ ((after c s).link 63).unacked.map (fun e => e.1) = [0] ∧
    ((after c n).link 63).out.map (fun q => q.adm) = [1] ∧
    (g.setLink 63 ((g.link 63).control 63)).nextOut 63 0 = none ∧ ((after (.packetSend 63 0 0 true) g).link 63).nak = false := by
  decide +kernel

/-- Training ends well and badly; R325. -/
theorem test_training :
    let s := sLink 63 { Link.init with state := 2, full := true, enable := true }
    ((after (.linkTrainingDone 63 2 5 true) s).link 63).state = 3 ∧ ((after (.linkTrainingDone 63 2 5 true) s).link 63).polarity = 5 ∧
    ((after (.linkTrainingDone 63 3 5 true) s).link 63).state = 1 := by decide +kernel

/-- An identity: versions 1 to 1, link 9, 5 reserved credits, device 7, all features, a serial number. -/
def ident (v : Byte) : List Byte := [v, 9, 0, 5, 7, 0, 0, 0, 15, 0, 0, 0] ++ List.replicate 16 0xAA ++ List.replicate 36 0

/-- A partner that fits, and one with no common version; R326, R327. -/
theorem test_id_exchange :
    let s := sLink 63 { Link.init with state := 3, enable := true }
    s.wrongPartner 63 (List.replicate 16 0xAA) = false ∧ s.topoExpected 63 = false ∧ s.ownId ≠ 7 ∧
    ((after (.idExchange 63 (ident 0x11)) s).link 63).state = 4 ∧ ((after (.idExchange 63 (ident 0x11)) s).link 63).partnerDev = 7 ∧
    ((after (.idExchange 63 (ident 0x11)) s).link 63).pool = 2048 - 60 ∧
    ((after (.idExchange 63 (ident 0x22)) s).link 63).state = 5 ∧ codes (after (.idExchange 63 (ident 0x22)) s) = [(8, 2, 2)] := by
  decide +kernel

/-- A link is lost, and trains again; R325, R341. -/
theorem test_link_down :
    let s := sLink 27 up
    let d := after (.linkDown 27 1) s
    (d.link 27).state = 1 ∧ (d.link 27).downs = 1 ∧ codes d = [(8, 1, 2)] ∧ d.seated 27 = true ∧
    ((after (.retrainHoldoff 27) d).link 27).state = 2 := by decide +kernel

/-- ENABLE and RETRAIN; R325. -/
theorem test_link_enable :
    let off := 0x103_0800_0000 + 27 * 0x1000
    let s := sLink 27 Link.init
    let d := sLink 27 { Link.init with state := 1, enable := true }
    lands s off 8 1 = true ∧ ((after (.linkEnableWrite (wrW off 8 1)) s).link 27).state = 2 ∧
    lands d off 8 0 = true ∧ ((after (.linkEnableWrite (wrW off 8 0)) d).link 27).state = 0 ∧
    lands d off 8 3 = true ∧ ((after (.retrain (wrW off 8 3)) d).link 27).state = 2 := by decide +kernel

/-- A route entry and the end of its settle interval; R337, R342. -/
theorem test_route :
    let off := 0x103_0810_0000 + 4095 * 16
    let s := after (.yfRouteWrite (wrW off 8 0xF0)) sUp
    lands sUp off 8 0xF0 = true ∧ (s.route 4095).mask = 0xF0 ∧ (s.route 4095).settle.length = 1 ∧
    lands s (off + 8) 8 0x8000_0000_0000_0000 = true ∧
    ((after (.yfRouteWrite (wrW (off + 8) 8 0x8000_0000_0000_0000)) s).route 4095).valid = true ∧ s.fab.held = [] ∧
    ((after (.routeSettle 4095) s).route 4095).settle = [] := by decide +kernel

end Sys2Proof.Tests
end

