-- ==== Sys2Proof/Tests/Management.lean ====
section
/-! SUPPORT. Tests of records and the management cores, of security and pins, of debug, trace and dump (R475–R529). -/

namespace Sys2Proof.Tests
open Sys2Proof Sys2Proof.Machine

set_option Elab.async false

/-- A record of a severity. -/
def rec_ (cls code sev : Nat) : Rec := sUp.mkRec cls code sev 0 noUnit noUnit noUnit 0 none 0
def sRec (r : Rec) : State := { sUp with rel := { sUp.rel with queue := [r] } }

/-- Delivery of records of severity 0, 2 and 4, and a NOTIFY; R364, R475, R478. -/
theorem test_record_deliver :
    let n := (sRec (rec_ 8 1 1)).odSet 0x1100 6 0x0200_0000_0001
    let n := n.odSet 0x1100 5 1
    let d := after .recordDeliver (sRec (rec_ 8 1 2))
    let f := after .recordDeliver (sRec (rec_ 8 1 4))
    (sRec (rec_ 8 1 0)).firmware = true ∧ (sRec (rec_ 8 1 0)).odNat 0x2900 0x10 = 0 ∧ (sRec (rec_ 8 1 0)).odGet 0x1100 6 = 0 ∧
    (after .recordDeliver (sRec (rec_ 8 1 0))).rel.seq = 1 ∧ (after .recordDeliver (sRec (rec_ 8 1 0))).odGet 0x2900 0x15 = 1 ∧
    n.odNat 0x1100 5 ≤ 1 ∧ n.notifyRoom = true ∧
    (after .recordDeliver n).mgp.outbox.map (fun m => (m.command, m.data.length)) = [(5, 64)] ∧
    (sRec (rec_ 8 1 2)).odNat 0x2D30 1 = 0xFFFF ∧ d.rel.degraded = true ∧ d.odGet 0x2D30 2 = 1 ∧
    f.rel.fatal = true ∧ f.rel.alert = true ∧ f.sched.running = false := by decide +kernel

/-- The line of a discarded record; R480. -/
theorem test_severity_line :
    let s := { sUp with rel := { sUp.rel with lines := [rec_ 8 1 2] } }
    (after .severityLine s).rel.lines = [] ∧ (after .severityLine s).rel.degraded = true ∧
    codes (after .severityLine s) = [(0x11, 0x22, 2)] := by decide +kernel

/-- Failover, takeover, no core, the converter; R484–R488. -/
theorem test_core_pair :
    let t := { sUp with rel := { sUp.rel with takeover := true } }
    let one := { sUp with rel := { sUp.rel with standby := false } }
    let dead := { sUp with rel := { sUp.rel with dead := true } }
    sUp.rel.standby = true ∧ (after .mgtFailover sUp).rel.takeover = true ∧ ((after .mgtFailover sUp).region 15).urgent = true ∧
    (after .takeoverComplete t).rel.active = 1 ∧ codes (after .takeoverComplete t) = [(0x11, 0x20, 2)] ∧
    (after .mgtNoCore one).rel.alert = true ∧ codes (after .mgtNoCore one) = [(0x11, 0x21, 4)] ∧
    (after .noCoreConverterOff dead).pwr.converter = false := by decide +kernel

/-! Security. -/

def sSec (f : Sec → Sec) : State := { sUp with sec := f sUp.sec }

/-- svnb above and at the floor; its end; R492. -/
theorem test_svnb :
    let s := { sUp with bup := { sUp.bup with svn := 3 } }
    let b := { s with sec := { s.sec with burning := true } }
    mirrorTakes s 0x2F00 2 0x626E7673 = true ∧ (after (.svnb via) s).sec.burning = true ∧ sUp.bup.svn ≤ sUp.fuses.svnFloor ∧
    codes (after (.svnb via) sUp) = [(0x11, OD_RANGE, 0)] ∧
    (after .fwSvnRaised b).fuses.svnFloor = 3 ∧ codes (after .fwSvnRaised b) = [(0x12, 0x11, 0)] := by decide +kernel

/-- dbgu through the mirror, and a Deale owner session with a lock of 1; R494. -/
theorem test_dbgu :
    let s := { sSes { ses1 with seq := 0 } with fuses := { sUp.fuses with debugLock := 1 } }
    mirrorTakes sUp 0x2F00 3 0x75676264 = true ∧ (codes (after (.dbgu via) sUp)).contains (0x12, 0x13, 0) = true ∧
    s.odCheckWrite 0x2F00 3 0x75676264 = OD_OK ∧ s.accepts eth1 = true ∧ s.debugLocked = true ∧
    (after (.dbgu (.deale eth1 65535 1)) s).sec.unlocked = true ∧ (after (.dbgu (.deale eth1 65535 1)) s).debugLocked = false ∧
    codes (after (.dbgu (.deale eth1 65535 1)) s) = [(0x12, 0x12, 0)] := by decide +kernel

/-- atpt, the end of a signing that fails, the endorsement; R495, R496. -/
theorem test_attestation :
    let e := sSec (fun x => { x with endorsed := true })
    let g := sSec (fun x => { x with signing := true })
    let m := sSec (fun x => { x with log := [(4, [])] })
    mirrorTakes e 0x2F10 2 0x74707461 = true ∧ (after (.atpt via) e).sec.signing = true ∧
    (after (.reportSigned false) g).sec.repState = 3 ∧ codes (after (.reportSigned false) g) = [(0x12, 0x14, 0)] ∧
    (after (.reportSigned true) g).sec.repState = 2 ∧ m.measured 4 = true ∧ (after .endorsementReady m).sec.endorsed = true := by
  decide +kernel

/-! Pins. -/

/-- A plug, a pin, references, JTAG under the lock and while READY; R511, R517, R520, R521. -/
theorem test_pins :
    let p := { sUp with pins := { sUp.pins with cages := 0x100 } }
    let u := p.setLink 63 { Link.init with state := 4, enable := true }
    let r := { sUp with pins := { sUp.pins with refBad := 1 } }
    let lock := { sUp with fuses := { sUp.fuses with debugLock := 1 } }
    (after (.cagePresence 8 true) sUp).pins.cages = 0x100 ∧ (after (.cagePresence 8 false) u).pins.cages = 0 ∧
    ((after (.cagePresence 8 false) u).link 63).state = 1 ∧
    (after (.sidebandInputChange 9 true) sUp).pins.levels = 0x200 ∧ (after (.referenceClockFail 0) sUp).pins.refBad = 1 ∧
    (after (.referenceClockFail 1) r).pins.refBad = 3 ∧ (after (.referenceClockFail 1) r).pwr.converter = false ∧
    (after (.jtagInstruction 6) lock).pins.jtag = 0 ∧ (after (.jtagInstruction 4) sUp).pins.jtag = 0 ∧
    (after (.jtagInstruction 3) sUp).pins.jtag = 3 := by decide +kernel

/-! Debug. -/

def sDbg (f : Dbg → Dbg) : State := let s := sGrp 0 grp0; s.updTile 3 (fun x => { x with dbg := f x.dbg })
def halted : State := (sDbg (fun d => { d with state := 2, rsel := 5 })).updTile 3 (fun x => { x with core := { x.core with st := 4 } })

/-- HALT, RESUME and the steps; R500–R504. -/
theorem test_halt :
    let off := 0x103_0003_1000
    let s := sDbg id
    lands s off 8 1 = true ∧ (s.tile 3).task.isSome = true ∧ ((after (.halt (wrW off 8 1)) s).dbg 3).state = 1 ∧
    ((after (.halt (wrW off 8 1)) s).dbg 3).cause = 1 ∧
    lands halted off 8 2 = true ∧ ((after (.dbgResume (wrW off 8 2)) halted).dbg 3).state = 0 ∧
    ((after (.stepCore (wrW off 8 4)) halted).dbg 3).step = 1 ∧ ((after (.stepCore (wrW off 8 4)) s).dbg 3).notHalted = true ∧
    ((after (.stepGroup (wrW off 8 8)) halted).dbg 3).step = 2 ∧ ((after (.stepGroup (wrW off 8 8)) s).dbg 3).notHalted = true := by
  decide +kernel

/-- A drain that ends by a breakpoint, and one that is late; R501, R502. -/
theorem test_drain :
    let s := (sDbg (fun d => { d with state := 1, cause := 2 })).updTile 3 (fun x => { x with core := { x.core with st := 4 } })
    s.drained 3 = true ∧ ((after (.haltComplete 3) s).dbg 3).state = 2 ∧ ((after (.haltComplete 3) s).dbg 3).halts = 1 ∧
    codes (after (.haltComplete 3) s) = [(0x13, 1, 0)] ∧ (s.dbg 3).drainLate = false ∧ codes (after (.dbgDrainLate 3) s) = [(0x13, 2, 0)] := by
  decide +kernel

/-- Registers of a halted tile: g5, g0, the PC, a v register of the group in slot 9, a u register; of a running one; R506. -/
theorem test_dbg_registers :
    let off := 0x103_0003_1038
    let sel := fun r => halted.updTile 3 (fun x => { x with dbg := { x.dbg with rsel := r } })
    let put := fun r => after (.dbgRdataWrite (wrW off 8 77)) (sel r)
    let v := 0x4024_2000_0000_0000
    let u := 0x8024_0000_0000_0006
    lands halted off 8 77 = true ∧ ((put 5).core 3).reg 5 = 77 ∧ ((put 0).core 3).reg 0 = 0 ∧ ((put 32).core 3).pc = 77 ∧
    fld (v : W64) 62 2 = 1 ∧ fld (v : W64) 50 6 = 9 ∧ ((put v).grp 3 9).isSome = true ∧
    fld (u : W64) 62 2 = 2 ∧ (((put u).grp 3 9).map (fun g => g.ureg 6)) = some 77 ∧
    ((after (.dbgRdataWrite (wrW off 8 77)) (sDbg id)).dbg 3).notHalted = true ∧
    (match halted.checkAccess 0xE8 0 .R off 8 with | .ok k => (halted.enter (.mgt 0) k.cls off 1).2 | .error _ => false) = true ∧
    ((put v).grp 3 9).bind (fun g => g.vlive 0 1) = some 77 ∧
    ((after (.dbgRdataRead 3 0xE8) (sel 0x4024_2000_0000_0009)).dbg 3).dead = true ∧
    (after (.dbgRdataRead 3 0xE8) (put 5)).resp.map (fun r => vals r.data) = [leBytes 8 77] ∧
    ((after (.dbgRdataRead 3 0xE8) (sDbg id)).dbg 3).notHalted = true := by decide +kernel

/-! Trace and dump. -/

/-- The trace output with destination 1 and 2; R508. -/
theorem test_trace :
    let r := List.replicate 32 (7 : Byte)
    let t := fun (d : W64) line => { (((sUp.odSet 0x2E01 1 d).odSet 0x2E01 5 0x1000).odSet 0x2E01 6 0x1000) with
      trc := { sUp.trc with buf := [(0, r)], line := line } }
    (after .traceOutput (t 1 [])).trc.port = [r] ∧ (after .traceOutput (t 1 [])).trc.buf = [] ∧
    (after .traceOutput (t 2 [])).trc.line = r ∧ (after .traceOutput (t 2 (List.replicate 224 0))).trc.line = [] ∧
    (after .traceOutput (t 2 (List.replicate 224 0))).trc.ringPos = 256 ∧
    (after .traceOutput (t 2 (List.replicate 224 0))).reqs.map (fun r => (r.addr, r.len)) = [(0x1000, 256)] := by decide +kernel

/-- A dump waits for the tag of its pass, reads, and ends with state 2; R510. -/
theorem test_dump :
    let pd := Pd.ofWords [0, 0x0500_0000_0101_0001, 0, 0, 0x100, 0, 0, 0]
    let d : DumpRun := { tile := 3, op := 4, pd := pd, pass := 0, name := 7, index := 0, seq := 1, tiles := 1, ctx := 1 }
    let s := fun (dst : W64) (rd : Bool) => { (sUp.odSet 0x2E10 4 dst).odSet 0x2E10 6 0x1000 with
      trc := { sUp.trc with dump := some d, reading := rd } }
    let reg : SbReg :=
      { op := 0, unit := .array 3, isPass := true, tag := 5, rdIn := false, rdOut := false, wrIn := false, wrOut := true, pend := [.shadow] }
    let busy := (s 1 false).setTile 3 { (sUp.tile 3) with sb := [reg] }
    (mayRead ((s 1 false).tile 3).sb 4 pd.tagOut false = true ∧ (after .dumpReadStart (s 1 false)).trc.reading = true) ∧
    (mayRead (busy.tile 3).sb 4 pd.tagOut false = false ∧ (after .dumpReadStart busy).trc.reading = false) ∧
    (after .dumpComplete (s 1 true)).odGet 0x2E10 7 = 2 ∧ (after .dumpComplete (s 1 true)).trc.dump = none ∧
    (after .dumpComplete (s 0 true)).odGet 0x2E10 7 = 2 := by decide +kernel

/-- A dump to the trace port whose two records find the buffer full; R509. -/
def sDumpFull : State :=
  let d : DumpRun := { tile := 3, op := 4, pd := Pd.ofWords [0, 0x0500_0000_0101_0001, 0, 0, 0x100, 0, 0, 0], pass := 0, name := 7, index := 0,
                       seq := 1, tiles := 1, ctx := 1 }
  { ((sUp.odSet 0x2E10 4 1).odSet 0x2E01 1 1).odSet 0x2E01 2 0xC000 with
    trc := { sUp.trc with dump := some d, reading := true, buf := List.replicate traceCap (0, []) } }

theorem test_dump_waits :
    sDumpFull.trc.buf.length = traceCap ∧ sDumpFull.trc.dump.map sDumpFull.dumpTodo = some [0, 1] ∧ sDumpFull.trc.reading = true ∧
    sDumpFull.odGet 0x2E10 4 = 1 := by
  refine ⟨List.length_replicate, ?_⟩
  decide +kernel

end Sys2Proof.Tests
end

