-- ==== Sys2Proof/Tests/Packets.lean ====
section
/-! SUPPORT. Tests of Yonus and Hild packets (R328–R358). -/

namespace Sys2Proof.Tests
open Sys2Proof Sys2Proof.Machine

set_option Elab.async false

/-- A packet of device 7, master 3, context 1 to this device. -/
def pk (type addr : Nat) : Pkt := Pkt.base type 0 7 3 1 0 addr

/-- Link 63 UP with the packets p in its ingress buffer. -/
def sPk (p : List Pkt) : State := sLink 63 { up with ingress := p }

/-- Whether a Yonus request stands at its head and passes its checks. -/
def fabOkB (p : Pkt) : Bool :=
  let s := sPk [p]
  s.headIn 63 0 == some p && decide (p.dst = s.ownId) && (match (s.takeIn 63 p).homeCheck 63 p with | .ok _ => true | .error _ => false)

/-- Whether no earlier access of its key is waiting and its port lets it in. -/
def entersB (s : State) (p : Pkt) : Bool :=
  !s.keyBusy (p.who 63) && (match (s.takeIn 63 p).homeCheck 63 p with | .ok k => (s.enter (p.who 63) k.cls p.addr 1).2 | .error _ => false)

def pRead (addr n : Nat) : Pkt := { pk TREAD addr with lenM1 := n - 1, tag := 8191 }
def pWrite (addr : Nat) : Pkt := { pk TWRITE addr with lenM1 := 1, data := [0xAA, 0xBB] }
def pMasked : Pkt := { pk TWRITE_MASKED 0x1000 with lenM1 := 255, data := List.replicate 256 5, mask := 2 ^ 255 + 1 }
def pRed (type fmt : Nat) : Pkt := { pk type 0x1000 with lenM1 := 3, fmt := fmt, data := [1, 0, 0, 0] }
def pInc (n v : Nat) : Pkt := { pk TCTR_INC (0x102_0000_0000 + 16 * n) with operand := v }

/-- The requests in flight after a command. -/
def view (c : Instr) (s : State) : List (Who × RKind × Nat × Nat) := (after c s).reqs.map (fun r => (r.who, r.kind, r.addr, r.len))

/-- Reads and writes become requests of their link; R330, R332. -/
theorem test_yf_requests :
    fabOkB (pRead 0x10FF 1) = true ∧ view (.yfRead 63 0) (sPk [pRead 0x10FF 1]) = [(.fabric 63 0x700C, .load, 0x10FF, 1)] ∧
    fabOkB (pWrite 0x10FE) = true ∧ view (.yfWrite 63 0) (sPk [pWrite 0x10FE]) = [(.fabric 63 0x700C, .store, 0x10FE, 2)] ∧
    fabOkB pMasked = true ∧ view (.yfWriteMasked 63 0) (sPk [pMasked]) = [(.fabric 63 0x700C, .store, 0x1000, 256)] := by
  decide +kernel

/-- Reductions become requests of their link; R254, R332. -/
theorem test_yf_reductions :
    fabOkB (pRed TADD 2) = true ∧ view (.yfAddToLine 63 0) (sPk [pRed TADD 2]) = [(.fabric 63 0x700C, .red 2, 0x1000, 4)] ∧
    fabOkB (pRed TMINMAX 5) = true ∧ view (.yfMinmaxToLine 63 0) (sPk [pRed TMINMAX 5]) = [(.fabric 63 0x700C, .red 5, 0x1000, 4)] := by
  decide +kernel

/-- A read of a counter is answered, an increment performed; R203, R339. -/
theorem test_yf_sync :
    let s := { sPk [pRead 0x102_000F_FFF0 8] with sync := { Sync.init with ctr := [(65535, 9)] } }
    fabOkB (pRead 0x102_000F_FFF0 8) = true ∧ s.isLocal 0x102_000F_FFF0 = true ∧ s.reqs = [] ∧
    ((after (.yfRead 63 0) s).link 63).ingress = [] ∧ (after (.yfRead 63 0) s).nextReq = s.nextReq + 1 ∧
    fabOkB (pInc 65535 5) = true ∧ entersB (sPk [pInc 65535 5]) (pInc 65535 5) = true ∧ (after (.yfCtrInc 63 0) (sPk [pInc 65535 5])).ctr 65535 = 5 ∧
    (after (.yfCtrInc 63 0) (sPk [pInc 65535 5])).sync.waits = [] := by decide +kernel

/-- A read of nothing is refused and answered; a packet for another device moves on, ends at the hop limit, or waits in stage 3; R330, R338, R453. -/
theorem test_yf_transit :
    let bad := pRead 0x10FF 2
    let q := fun hop => { pRead 0x5000_0000_1000 8 with dst := 5, hop := hop }
    let s := fun hop => ((sPk [q hop]).setLink 2 up).setRoute 5 { mask := 4, valid := true, settle := [] }
    (match ((sPk [bad]).takeIn 63 bad).homeCheck 63 bad with | .ok _ => true | .error _ => false) = false ∧
    codes (after (.yfRead 63 0) (sPk [bad])) = [(9, YF_FIELD, 0)] ∧
    (((s 0).takeIn 63 (q 0)).egress { q 0 with hop := 1 } (some 63)).2 = true ∧
    ((after (.yfRead 63 0) (s 0)).link 2).out.map (fun x => (x.pkt.dst, x.pkt.hop, x.from_)) = [(5, 1, some 63)] ∧
    (s 5).headIn 63 5 = some (q 5) ∧ ((after (.yfRead 63 5) (s 5)).link 2).out = [] ∧ (s 0).bup.stage ≠ 3 ∧
    ((after (.yfRead 63 0) { s 0 with bup := { (s 0).bup with stage := 3 } }).link 63).ingress = [q 0] := by decide +kernel

/-- A read of the management core 0 out under tag 8191, and its request. -/
def rTag : RTag := { tag := 8191, req := some 1, line := none, addr := 0x5000_0000_1000, len := 2, mid := 0xE8, ctx := 0 }
def rOut : Req := { newReq (.mgt 0) 0 .load 0x5000_0000_1000 2 [] 0 with id := 1, st := .out }
def sTag (p : Pkt) : State :=
  let s := sPk [p]
  { s with fab := { s.fab with tags := [rTag] }, reqs := [rOut], nextReq := 2 }
def pData (status : Nat) : Pkt := { pk TREAD_DATA 0x5000_0000_1000 with tag := 8191, lenM1 := 1, status := status, data := [0xAA, 0xBB] }

/-- READ_DATA with data, with a status, with no tag; STATUS; a timeout; R334–R336. -/
theorem test_yf_responses :
    let late := { pData 0 with tag := 3 }
    let st := { pk TSTATUS 0x5000_0000_1000 with status := 5, ctx := 16 }
    (sTag (pData 0)).headIn 63 6 = some (pData 0) ∧ (sTag (pData 0)).fab.wait = [] ∧
    (after (.yfReadData 63 0) (sTag (pData 0))).reqs.map (fun r => (r.st, vals r.data)) = [(.done, [0xAA, 0xBB])] ∧
    (after (.yfReadData 63 0) (sTag (pData 0))).fab.tags = [] ∧
    (after (.yfReadData 63 0) (sTag (pData 1))).reqs.map (fun r => r.st) = [.failed 1] ∧
    codes (after (.yfReadData 63 0) (sTag (pData 1))) = [(9, 1, 0)] ∧
    (after (.yfReadData 63 0) (sTag late)).fab.tags = [rTag] ∧ (after (.yfReadData 63 0) (sTag late)).rel.spoil.length = 1 ∧
    (sTag st).headIn 63 6 = some st ∧ codes (after (.yfStatus 63 0) (sTag st)) = [(9, 5, 0)] ∧
    (after (.yfReadTimeout 8191) (sTag st)).reqs.map (fun r => r.st) = [.failed YF_READ_TIMEOUT] ∧
    codes (after (.yfReadTimeout 8191) (sTag st)) = [(9, 0x16, 1)] := by decide +kernel

/-- Residence ends in an ingress buffer, in an egress queue, at a router and before a home's port; R340. -/
theorem test_yf_residence :
    let s := sPk [pData 0]
    let o := sLink 63 { up with out := [{ pkt := pData 0, from_ := some 2 }] }
    let h := { sUp with fab := { sUp.fab with held := [{ pkt := pRead 0x5000_0000_1000 8, from_ := some 2 }] } }
    let q := after (.yfRead 63 0) (sPk [pRead 0x10FF 1])
    (s.link 63).ingress[0]? = some (pData 0) ∧
    ((after (.yfResidence .ingress 63 0) s).link 63).ingress = [] ∧ ((after (.yfResidence .egress 63 0) o).link 63).out = [] ∧
    (after (.yfResidence .egress 63 0) o).rel.spoil.length = 1 ∧ (after (.yfResidence .router 63 0) h).fab.held = [] ∧
    (q.findReq 1).map (fun r => (r.who, r.adm, r.st)) = some (.fabric 63 0x700C, 0, .sent) ∧
    (after (.yfResidence .home 63 1) q).reqs = [] := by decide +kernel

/-- Channel 31 in a group with child 7, or as a child of parent 7. -/
def sBar (ctrl : W64) (p : Pkt) : State :=
  let s := sPk [p]
  { (s.setYbar 31 { YBar.init with ctrl := ctrl, child := [(0, 7)] }) with
    sync := { Sync.init with chan := [(31, { Chan.init with cfg := 0x102, members := [3, 9] })] } }
def pBar (type round : Nat) : Pkt := { pk type (chanBase 31) with operand := round }

/-- Arrivals and releases of a barrier group; R343. -/
theorem test_barrier_group :
    let root := 0xC001_0000_0000_0000
    let leaf := 0x8000_0007_0000_0000
    let s := sBar root (pBar TBAR_ARRIVE 0)
    let late := sBar root (pBar TBAR_ARRIVE 1)
    let r := sBar leaf (pBar TBAR_RELEASE 0)
    fabOkB (pBar TBAR_ARRIVE 0) = true ∧ entersB s (pBar TBAR_ARRIVE 0) = true ∧ entersB r (pBar TBAR_RELEASE 0) = true ∧ (s.ybar 31).children = [7] ∧ (s.ybar 31).valid = true ∧
    ((after (.barrierArrive 63 0) s).ybar 31).arrived = 1 ∧ ((after (.barrierArrive 63 0) late).ybar 31).arrived = 0 ∧
    fabOkB (pBar TBAR_RELEASE 0) = true ∧ (r.ybar 31).root = false ∧ (r.ybar 31).parent = 7 ∧ (r.ybar 31).nchild = 0 ∧
    ((after (.barrierRelease 63 0) r).chanOf 31).round = 1 := by decide +kernel

/-- The registers of a group; R343. -/
theorem test_yf_bar_write :
    let off := 0x103_0812_0000 + 31 * 0x40
    let v := sUp.setYbar 31 { YBar.init with ctrl := 0x8000_0000_0000_0000 }
    lands sUp off 8 0xC001_0000_0000_0000 = true ∧
    ((after (.yfBarWrite (wrW off 8 0xC001_0000_0000_0000)) sUp).ybar 31).root = true ∧
    ((after (.yfBarWrite (wrW (off + 32) 8 0x0FFF_0000_0000_0000)) sUp).ybar 31).childId 15 = 0xFFF ∧
    ((after (.yfBarWrite (wrW off 8 0xC001_0000_0000_0000)) v).ybar 31).root = false ∧
    ((after (.yfBarWrite (wrW off 8 0)) v).ybar 31).valid = false := by decide +kernel

/-! The Hild link. -/

/-- The companion's packets, with the first 1 GiB shared. -/
def sHild (p : List Pkt) : State := (sLink hildLink { up with ingress := p }).odSet 0x2900 2 1
def hp (type addr : Nat) : Pkt := Pkt.base type 0 0 0 0 0 addr
def hildOkB (p : Pkt) : Bool :=
  let s := sHild [p]
  s.headIn hildLink 0 == some p && (match (s.takeIn hildLink p).companionCheck p with | .ok _ => true | .error _ => false)

/-- READ, WRITE and WRITE_MASKED of the companion; R348. -/
theorem test_hild_requests :
    let rd := { hp TREAD 0x1000 with lenM1 := 255, tag := 9 }
    let wr := { hp TWRITE 0x10FF with lenM1 := 0, data := [0x5A] }
    let mk := { hp TWRITE_MASKED 0x1000 with lenM1 := 255, data := List.replicate 256 5, mask := 1 }
    hildOkB rd = true ∧ view .hldRead (sHild [rd]) = [(.hild, .load, 0x1000, 256)] ∧
    hildOkB wr = true ∧ view .hldWrite (sHild [wr]) = [(.hild, .store, 0x10FF, 1)] ∧
    hildOkB mk = true ∧ view .hldWriteMasked (sHild [mk]) = [(.hild, .store, 0x1000, 256)] := by decide +kernel

/-- READ_SHARED and READ_EXCL become reads of a line, which enter the directory as they are performed; R351, R352. -/
theorem test_hild_directory :
    let sh := { hp TREAD_SHARED 0x1000 with tag := 9 }
    let ex := hp TREAD_EXCL 0x1000
    let s1 := after .readShared (sHild [sh])
    let s2 := after .readExcl (sHild [ex])
    let d1 := s1.finishReq 1 (clean (List.replicate 256 5))
    hildOkB sh = true ∧ hildOkB ex = true ∧ s1.reqs.map (fun r => (r.id, r.kind, r.addr, r.len, r.share)) = [(1, .load, 0x1000, 256, 1)] ∧
    s2.reqs.map (fun r => r.share) = [2] ∧ (s1.reqAt 1 .hbm (fun k => !k.isRed && k != .ctrInc)).isSome = true ∧ (s1.atPort 1).2 = true ∧
    (s1.hild.snoops = [] ∧ s1.hild.dir.length + s1.reqs.length < 131072) ∧
    (SMap.find d1.hild.dir 16).map (fun e => e.excl) = some false ∧
    (d1.link hildLink).out.map (fun q => (q.pkt.type, q.pkt.tag, q.pkt.data.length)) = [(TREAD_DATA, 9, 256)] ∧
    (SMap.find (s2.finishReq 1 []).hild.dir 16).map (fun e => e.excl) = some true := by decide +kernel

/-- A line of the directory, and a snoop of it. -/
def sDir (excl : Bool) (inv : Option Bool) (p : Pkt) : State :=
  let s := sHild [p]
  { s with hild := { s.hild with dir := [(16, { excl := excl, age := 0 })], dirAge := 1,
                                 snoops := match inv with | some b => [{ line := 16, inv := b }] | none => [] } }

/-- WRITEBACK with and without an E entry; snoop responses; R352, R353. -/
theorem test_hild_writeback :
    let wb := hp TWRITEBACK 0x1000
    let sr := hp THILD_SNOOP_RESP 0x1000
    hildOkB wb = true ∧ (after .writeback (sDir true none wb)).hild.dir = [] ∧ (after .writeback (sDir false none wb)).hild.dir.length = 1 ∧
    (sDir true (some true) sr).headIn hildLink 2 = some sr ∧ (after .snoopResp (sDir true (some true) sr)).hild.dir = [] ∧
    (after .snoopResp (sDir true (some false) sr)).hild.dir.map (fun e => e.2.excl) = [false] ∧
    (after .snoopResp (sDir true none sr)).hild.dir.map (fun e => e.2.excl) = [true] := by decide +kernel

/-- A type the link does not have; R349. -/
theorem test_hld_field :
    let p := hp 0x04 0x1000
    (sHild [p]).headIn hildLink 0 = some p ∧ codes (after .hldField (sHild [p])) = [(0x0A, 1, 0)] ∧
    ((after .hldField (sHild [p])).link hildLink).out.map (fun q => q.pkt.type) = [TSTATUS] := by decide +kernel

/-- A request of the management core 0 to companion memory, out on the link. -/
def hReq (k : RKind) : Req :=
  { newReq (.mgt 0) 0 k 0x200_0000_1000 2 (if k = .load then [] else clean [1, 2]) 0 with id := 1, st := .out, tag := 9 }
def sOut (k : RKind) (p : List Pkt) : State := { sHild p with reqs := [hReq k], nextReq := 2 }

/-- READ_DATA and WRITE_ACK for the device's accesses; R354, R355, R357. -/
theorem test_hild_answers :
    let ok := { hp TREAD_DATA 0x1000 with tag := 9, lenM1 := 1, data := [7, 8] }
    let bad := { ok with status := 4, data := [] }
    let ack := { hp TWRITE_ACK 0x200_0000_1000 with mid := 0xE8 }
    let log := { req := 1, sev := 2, cls := 8, code := 1 : LogWrite }
    let s := sOut .store [ack]
    let l := { s with hild := { s.hild with log := [log] } }
    (sOut .load [ok]).toHild (hReq .load) = true ∧ (sOut .load [ok]).headIn hildLink 2 = some ok ∧
    (after .hldReadData (sOut .load [ok])).reqs.map (fun r => (r.st, vals r.data)) = [(.done, [7, 8])] ∧
    (after .hldReadData (sOut .load [bad])).reqs.map (fun r => r.st) = [.failed 0x84] ∧
    codes (after .hldReadData (sOut .load [bad])) = [(0x0A, 0x84, 0)] ∧
    (after .writeAck s).reqs = [] ∧ l.odGet 0x2900 0x17 = 0 ∧ (after .writeAck l).hild.log = [] ∧
    (after .writeAck l).ctr (l.odNat 0x2900 0x12) = 1 := by decide +kernel

/-- Timeouts of the device's accesses; R356. -/
theorem test_hild_timeouts :
    (after (.hldReadTimeout 1) (sOut .load [])).reqs.map (fun r => r.st) = [.failed 6] ∧
    codes (after (.hldReadTimeout 1) (sOut .load [])) = [(0x0A, 6, 1)] ∧
    (after (.hldWriteTimeout 1) (sOut .store [])).reqs = [] ∧ codes (after (.hldWriteTimeout 1) (sOut .store [])) = [(0x0A, 7, 1)] := by
  decide +kernel

/-- A snoop that expires, and a lost link; the interrupt holdoff; R353, R358. -/
theorem test_hild_down :
    let s := sDir false (some true) (hp TREAD 0x1000)
    let h := fun nx => { s with hild := { s.hild with irqHold := true, irqNext := nx } }
    ((after (.snoopTimeout 16) s).link hildLink).state = 1 ∧ (after (.snoopTimeout 16) s).hild.dir = [] ∧
    codes (after (.snoopTimeout 16) s) = [(0x0A, 5, 2)] ∧ codes (after (.hldLinkDown 2) s) = [(0x0A, 5, 2)] ∧
    ((after (.hldLinkDown 1) (sLink hildLink { up with state := 3 })).link hildLink).state = 1 ∧
    (after .interruptHoldoff (h none)).hild.irqHold = false ∧ (after .interruptHoldoff (h (some (2, 8, 1)))).hild.irqNext = none := by
  decide +kernel

end Sys2Proof.Tests
end

