-- ==== Sys2Proof/Tests/Sync.lean ====
section
/-! SUPPORT. Tests of the synchronisation fabric (R197–R229): core words written from R123 and R203, window addresses from R199. -/

namespace Sys2Proof.Tests
open Sys2Proof Sys2Proof.Machine

set_option Elab.async false

/-- A SYNC word: rd, ra = g1, the function code of R203, and rb = g2 where the operation has an operand. -/
def wSync (f rd : Nat) : W32 := word 7 (rd * 2 ^ 21 + 1 * 2 ^ 16 + (if f = 9 ∨ f = 11 then 2 * 2 ^ 11 else 0) + f)

/-- Tile 3 at a SYNC word, with the object's address in g1, the operand in g2, and the fabric y. -/
def sSync (f : Nat) (addr opnd : W64) (y : Sync) : State := { sCore (wSync f 5) [(1, addr), (2, opnd)] with sync := y }

/-- A wait of another tile. -/
def wait9 (k : ObjKind) (n : Nat) (want : WaitFor) : SWait :=
  { kind := k, num := n, who := .core 9, lane := 0, op := 0, want := want, held := false, epoch := none }

def ctrA : W64 := 0x102_0000_0070
def lockA : W64 := 0x102_0200_0070
def evtA : W64 := 0x102_0300_0070
def chanA : W64 := 0x102_0400_0040

/-- The result register of tile 3. -/
def g5 (s : State) : W64 := (s.core 3).reg 5

/-- CTR.RD answers the 64-bit value; R203, R208. -/
theorem test_ctr_rd :
    let s := sSync 0x08 ctrA 0 { Sync.init with ctr := [(7, 0x1_0000_0001)] }
    s.coreOpAt 3 opCtrRd (wSync 0x08 5) 7 = true ∧ g5 (after (.ctrRd (.core 3)) s) = 0x1_0000_0001 := by decide +kernel

/-- CTR.INC adds its amount and wakes the waiter whose target it reaches, not the other; R208, R211. -/
theorem test_ctr_inc :
    let y := { Sync.init with ctr := [(7, 5)], waits := [wait9 .ctr 7 (.value 10), wait9 .ctr 7 (.value 11)] }
    let s := sSync 0x09 ctrA 5 y
    s.coreOpAt 3 opCtrInc (wSync 0x09 5) 7 = true ∧ s.attr .ctr 7 = 0 ∧ s.ctr 7 + fld (5 : W64) 0 32 < 2 ^ 64 ∧
    (after (.ctrInc (.core 3)) s).ctr 7 = 10 ∧
    (after (.ctrInc (.core 3)) s).sync.waits = [wait9 .ctr 7 (.value 11)] := by decide +kernel

/-- An increment that passes 2^64 is refused; R208. -/
theorem test_ctr_inc_overflow :
    let s := sSync 0x09 ctrA 1 { Sync.init with ctr := [(7, 0xFFFF_FFFF_FFFF_FFFF)] }
    s.coreOpAt 3 opCtrInc (wSync 0x09 5) 7 = true ∧ 2 ^ 64 ≤ s.ctr 7 + fld (1 : W64) 0 32 ∧
    (after (.ctrInc (.core 3)) s).ctr 7 = 2 ^ 64 - 1 ∧ g5 (after (.ctrInc (.core 3)) s) = BitVec.ofNat 64 CTR_OVERFLOW := by
  decide +kernel

/-- An increment of a role counter with a stale epoch is dropped; R215. -/
theorem test_ctr_inc_stale :
    let a : W64 := 0x2003_0000_0000
    let s := sSync 0x09 ctrA 0x0001_0004_0000_0001 { Sync.init with ctr := [(7, 5)], ctrAttr := [(7, a)] }
    s.coreOpAt 3 opCtrInc (wSync 0x09 5) 7 = true ∧
    atRole (s.attr .ctr 7) = true ∧ fld (0x0001_0004_0000_0001 : W64) 32 16 ≠ (s.tile (atTile (s.attr .ctr 7))).epoch ∧
    (after (.ctrInc (.core 3)) s).ctr 7 = 5 ∧ g5 (after (.ctrInc (.core 3)) s) = BitVec.ofNat 64 STALE_TARGET := by decide +kernel

/-- CTR.WAIT on a value reached, and one below it; R208. -/
theorem test_ctr_wait :
    let y := { Sync.init with ctr := [(7, 5)] }
    let s := sSync 0x0B ctrA 5 y
    let r := sSync 0x0B ctrA 6 y
    s.coreOpAt 3 opCtrWait (wSync 0x0B 5) 7 = true ∧ ((after (.ctrWait (.core 3)) s).core 3).pc = 0x44 ∧
    r.coreOpAt 3 opCtrWait (wSync 0x0B 5) 7 = true ∧ ((after (.ctrWait (.core 3)) r).core 3).st = 3 ∧
    (after (.ctrWait (.core 3)) r).sync.waits.length = 1 := by decide +kernel

def me3 : Who × Nat := (.core 3, 0)
def lck (o : Option (Who × Nat)) (ab : Bool) : Sync :=
  { Sync.init with lock := [(7, { owner := o, abandoned := ab, selfGroup := false })] }

/-- LOCK.ACQ: a free abandoned lock, the own lock, another's lock; R217, R219. -/
theorem test_lock_acq :
    let w := wSync 0x0C 5
    let c := Instr.lockAcq (.core 3) false
    let s := sSync 0x0C lockA 0 (lck none true)
    let r := sSync 0x0C lockA 0 (lck (some me3) false)
    let q := sSync 0x0C lockA 0 (lck (some (.core 9, 0)) false)
    s.coreOpAt 3 opLockAcq w 7 = true ∧ g5 (after c s) = BitVec.ofNat 64 ABANDONED ∧ ((after c s).lockOf 7).owner = some me3 ∧
    r.coreOpAt 3 opLockAcq w 7 = true ∧ g5 (after c r) = BitVec.ofNat 64 LOCK_HELD_SELF ∧
    q.coreOpAt 3 opLockAcq w 7 = true ∧ ((after c q).core 3).st = 3 := by decide +kernel

/-- LOCK.TRY: a free lock and another's; R217. -/
theorem test_lock_try :
    let w := wSync 0x0D 5
    let s := sSync 0x0D lockA 0 Sync.init
    let q := sSync 0x0D lockA 0 (lck (some (.core 9, 0)) false)
    s.coreOpAt 3 opLockTry w 7 = true ∧ ((after (.lockTry (.core 3)) s).lockOf 7).owner = some me3 ∧
    q.coreOpAt 3 opLockTry w 7 = true ∧ g5 (after (.lockTry (.core 3)) q) = BitVec.ofNat 64 LOCK_BUSY := by decide +kernel

/-- LOCK.REL: with no waiter, with one, and by a unit that does not own it; R219. -/
theorem test_lock_rel :
    let w := wSync 0x0E 5
    let c := Instr.lockRel (.core 3)
    let s := sSync 0x0E lockA 0 (lck (some me3) false)
    let r := sSync 0x0E lockA 0 { lck (some me3) false with waits := [wait9 .lock 7 .acquire, wait9 .lock 8 .acquire] }
    let q := sSync 0x0E lockA 0 (lck (some (.core 9, 0)) false)
    s.coreOpAt 3 opLockRel w 7 = true ∧ ((after c s).lockOf 7).owner = none ∧
    r.coreOpAt 3 opLockRel w 7 = true ∧ r.sync.waits.find? (fun x => x.on .lock 7) = some (wait9 .lock 7 .acquire) ∧
    ((after c r).lockOf 7).owner = some (.core 9, 0) ∧
    q.coreOpAt 3 opLockRel w 7 = true ∧ g5 (after c q) = BitVec.ofNat 64 LOCK_NOT_OWNER := by decide +kernel

/-- EVT.SET without AUTO wakes all, with AUTO the oldest alone, or sets; R220. -/
theorem test_evt_set :
    let w := wSync 0x0F 5
    let c := Instr.evtSet (.core 3)
    let ws := [wait9 .evt 7 .event, { wait9 .evt 7 .event with who := .core 10 }]
    let s := sSync 0x0F evtA 0 { Sync.init with waits := ws }
    let auto : W64 := 0x0800_0000_0000
    let r := sSync 0x0F evtA 0 { Sync.init with waits := ws, evtAttr := [(7, auto)] }
    let q := sSync 0x0F evtA 0 { Sync.init with evtAttr := [(7, auto)] }
    let o := sSync 0x0F evtA 0 { Sync.init with evt := [7] }
    s.coreOpAt 3 opEvtSet w 7 = true ∧ atAuto (s.attr .evt 7) = false ∧ (after c s).evtSet 7 = true ∧ (after c s).sync.waits = [] ∧
    r.coreOpAt 3 opEvtSet w 7 = true ∧ atAuto (r.attr .evt 7) = true ∧ (after c r).evtSet 7 = false ∧
    (after c r).sync.waits.length = 1 ∧
    q.coreOpAt 3 opEvtSet w 7 = true ∧ (after c q).evtSet 7 = true ∧
    o.coreOpAt 3 opEvtSet w 7 = true ∧ o.evtSet 7 = true ∧ (after c o).evtSet 7 = true := by decide +kernel

/-- EVT.CLR, and EVT.WAIT on a set and on a clear event; R220. -/
theorem test_evt_clr_wait :
    let auto : W64 := 0x0800_0000_0000
    let s := sSync 0x10 evtA 0 { Sync.init with evt := [7] }
    let r := sSync 0x11 evtA 0 { Sync.init with evt := [7], evtAttr := [(7, auto)] }
    let q := sSync 0x11 evtA 0 Sync.init
    s.coreOpAt 3 opEvtClr (wSync 0x10 5) 7 = true ∧ (after (.evtClr (.core 3)) s).evtSet 7 = false ∧
    r.coreOpAt 3 opEvtWait (wSync 0x11 5) 7 = true ∧ (after (.evtWait (.core 3)) r).evtSet 7 = false ∧
    q.coreOpAt 3 opEvtWait (wSync 0x11 5) 7 = true ∧ (after (.evtWait (.core 3)) q).sync.waits.length = 1 := by decide +kernel

/-- Channel 1 with these members and arrivals: LOCAL 1, EXPECT as given. -/
def ch (expect : W64) (members : List Nat) (arrived : SMap Nat) (last : List (Who × Nat)) : Sync :=
  { Sync.init with chan := [(1, { Chan.init with cfg := 0x100 ||| expect, members := members, arrived := arrived, last := last })] }

/-- BAR.JOIN with room and without; BAR.LEAVE; R221, R222. -/
theorem test_bar_join_leave :
    let s := sSync 0x12 chanA 0 (ch 1 [] [] [])
    let r := sSync 0x12 chanA 0 (ch 1 [9] [] [])
    let q := sSync 0x13 chanA 0 (ch 2 [3, 9] [(3, 1)] [])
    s.coreOpAt 3 opBarJoin (wSync 0x12 5) 1 = true ∧ ((after (.barJoin 3) s).chanOf 1).members = [3] ∧
    r.coreOpAt 3 opBarJoin (wSync 0x12 5) 1 = true ∧ (r.chanOf 1).expect ≤ (r.chanOf 1).members.length ∧
    g5 (after (.barJoin 3) r) = BitVec.ofNat 64 BAR_FULL ∧
    q.coreOpAt 3 opBarLeave (wSync 0x13 5) 1 = true ∧ SMap.rising none (q.chanOf 1).arrived = true ∧
    ((after (.barLeave 3) q).chanOf 1).members = [9] ∧ ((after (.barLeave 3) q).chanOf 1).count 3 = 0 := by decide +kernel

/-- BAR.ARRIVE that completes the round and one that does not; BAR.SYNC both ways; R223. -/
theorem test_bar_arrive_sync :
    let s := sSync 0x14 chanA 0 (ch 2 [3, 9] [(9, 1)] [])
    let r := sSync 0x14 chanA 0 (ch 2 [3, 9] [] [])
    let p := sSync 0x16 chanA 0 (ch 2 [3, 9] [(9, 1)] [])
    let q := sSync 0x16 chanA 0 (ch 2 [3, 9] [] [])
    s.coreOpAt 3 opBarArrive (wSync 0x14 5) 1 = true ∧ (s.chanOf 1).count 3 < (s.chanOf 1).localN ∧ (s.ybar 1).valid = false ∧
    ((after (.barArrive (.core 3)) s).chanOf 1).round = 1 ∧ ((after (.barArrive (.core 3)) s).chanOf 1).arrived = [] ∧
    r.coreOpAt 3 opBarArrive (wSync 0x14 5) 1 = true ∧ ((after (.barArrive (.core 3)) r).chanOf 1).count 3 = 1 ∧
    p.coreOpAt 3 opBarSync (wSync 0x16 5) 1 = true ∧ ((after (.barSync (.core 3)) p).core 3).pc = 0x44 ∧
    q.coreOpAt 3 opBarSync (wSync 0x16 5) 1 = true ∧ ((after (.barSync (.core 3)) q).core 3).st = 3 ∧
    ((after (.barSync (.core 3)) q).chanOf 1).count 3 = 1 := by decide +kernel

/-- BAR.WAIT with no arrival in the round and with one; by a tile that has not joined; R221, R223. -/
theorem test_bar_wait :
    let s := sSync 0x15 chanA 0 (ch 2 [3, 9] [] [])
    let r := sSync 0x15 chanA 0 (ch 2 [3, 9] [(3, 1)] [(.core 3, 0)])
    let q := sSync 0x15 chanA 0 (ch 2 [9] [] [])
    let a := sSync 0x14 chanA 0 (ch 2 [9] [] [])
    let b := sSync 0x16 chanA 0 (ch 2 [9] [] [])
    s.coreOpAt 3 opBarWait (wSync 0x15 5) 1 = true ∧ ((after (.barWait (.core 3)) s).core 3).pc = 0x44 ∧
    r.coreOpAt 3 opBarWait (wSync 0x15 5) 1 = true ∧ (.core 3, (r.chanOf 1).round) ∈ (r.chanOf 1).last ∧
    ((after (.barWait (.core 3)) r).core 3).st = 3 ∧
    q.coreOpAt 3 opBarWait (wSync 0x15 5) 1 = true ∧ g5 (after (.barWait (.core 3)) q) = BitVec.ofNat 64 BAR_NOT_JOINED ∧
    a.coreOpAt 3 opBarArrive (wSync 0x14 5) 1 = true ∧ g5 (after (.barArrive (.core 3)) a) = BitVec.ofNat 64 BAR_NOT_JOINED ∧
    b.coreOpAt 3 opBarSync (wSync 0x16 5) 1 = true ∧ g5 (after (.barSync (.core 3)) b) = BitVec.ofNat 64 BAR_NOT_JOINED := by
  decide +kernel

end Sys2Proof.Tests
end

