-- ==== Sys2Proof/Tests/Window.lean ====
section
/-! SUPPORT. Tests of group operations on objects, of the timeout, and of writes to the synchronisation window (R199–R228). -/

namespace Sys2Proof.Tests
open Sys2Proof Sys2Proof.Machine

set_option Elab.async false

/-- A group whose lane 1 acts on the object at `a`, its amount 1 in v1. -/
def gSync (a : W64) : Grp := withU5 (Grp.withV { grp0 with active := 2 } [(33, 1), (34, 0), (129, 0)]) a
def wV (op vb : Nat) : W64 := gw 4 op 8 4 vb 0 (5 * 2 ^ 10)
def sV (op : Nat) (a : W64) (y : Sync) : State := { sGrp (wV op (if op = 9 then 1 else 0)) (gSync a) with sync := y }
def okV (o : SyncOp) (a : W64) : Bool :=
  let w := wV o.func (if o.func = 9 then 1 else 0)
  let s := sV o.func a Sync.init
  at9 w (gSync a) && decide (gOp w = o.func) && ((gSync a).acting w != 0) && (s.groupSyncCheck o 3 9 (gSync a) w ((gSync a).acting w)).isNone &&
  s.l1Quiet 3 && (s.tge 3).l1.isEmpty && s.storesDone (fun x => x == .group 3 9)

/-- Every operation of R203 that a group may issue passes its checks on an object of its kind; R203–R205. -/
theorem test_vsync_words :
    (okV opCtrRd ctrA && okV opCtrInc ctrA && okV opCtrWait ctrA && okV opLockAcq lockA && okV opLockTry lockA && okV opLockRel lockA &&
     okV opEvtSet evtA && okV opEvtClr evtA && okV opEvtWait evtA && okV opBarArrive chanA && okV opBarWait chanA && okV opBarSync chanA)
      = true := by decide +kernel

/-- A lane's CTR.INC and LOCK.TRY act on their objects; with no acting lane the PC moves on; R203, R205. -/
theorem test_vsync :
    (after (.ctrInc (.group 3 9)) (sV 9 ctrA { Sync.init with ctr := [(7, 5)] })).ctr 7 = 6 ∧
    ((after (.lockTry (.group 3 9)) (sV 0x0D lockA Sync.init)).lockOf 7).owner = some (.group 3 9, 1) ∧
    (let w := wV 0x0F 0 + BitVec.ofNat 64 (2 ^ 51 + 3 * 2 ^ 47)
     at9 w (gSync evtA) = true ∧ (gSync evtA).acting w = 0 ∧
     (grpAfter (.evtSet (.group 3 9)) (sGrp w (gSync evtA))).pc = 0x4008) := by decide +kernel

/-- A wait that expires; R209. -/
theorem test_syn_timeout :
    let x : SWait := { wait9 .ctr 7 (.value 10) with who := .core 3 }
    let b := coreTile (wSync 0x0B 5) []
    let s := { sTile 3 { b with core := { b.core with st := 3, wait := some (.sync 5 false) } } with sync := { Sync.init with waits := [x] } }
    s.sync.waits[0]? = some x ∧ (s.dbg 3).state = 0 ∧ isInc x.want = false ∧
    g5 (after (.synTimeout 0) s) = 1 ∧ (after (.synTimeout 0) s).sync.waits = [] ∧
    codes (after (.synTimeout 0) s) = [(4, SYN_TIMEOUT, 0)] := by decide +kernel

/-- The device with a fabric y. -/
def sY (y : Sync) : State := { sUp with sync := y }

/-- The increment alias of the last counter; R212. -/
theorem test_increment_alias :
    let s := sY { Sync.init with ctr := [(65535, 5)] }
    let off := 0x102_0100_0000 + 16 * 65535
    lands s off 8 3 = true ∧ (incWord 3).bad = false ∧ s.attr .ctr 65535 = 0 ∧
    (after (.incrementAliasWrite (wrW off 8 3)) s).ctr 65535 = 8 := by decide +kernel

/-- A byte write to counter 0's top byte, and a write to a counter with waits; R213. -/
theorem test_syn_ctr_write :
    let s := sY { Sync.init with ctr := [(0, 5)] }
    let r := sY { Sync.init with waits := [wait9 .ctr 0 (.value 10)] }
    lands s 0x102_0000_0007 1 1 = true ∧ s.hasWaits .ctr 0 = false ∧
    (after (.synCtrWrite (wrW 0x102_0000_0007 1 1)) s).ctr 0 = 0x0100_0000_0000_0005 ∧
    lands r 0x102_0000_0000 8 1 = true ∧ r.hasWaits .ctr 0 = true ∧
    codes (after (.synCtrWrite (wrW 0x102_0000_0000 8 1)) r) = [(4, SYN_WAITERS, 0)] := by decide +kernel

/-- An attribute that pairs counter 0 with counter 65535; R200, R201. -/
theorem test_syn_attr_write :
    let s := sY { Sync.init with ctr := [(0, 5), (65535, 9)] }
    let v : W64 := 0x8000_FFFF_0003
    lands s 0x102_0000_0008 8 v = true ∧ s.hasWaits .ctr 0 = false ∧ s.attrBad .ctr 0 ((wrX 0x102_0000_0008 8 v).merge (s.attr .ctr 0)) = false ∧
    atPair (s.attr .ctr 0) = false ∧ atPair v = true ∧
    (after (.synAttrWrite (wrW 0x102_0000_0008 8 v)) s).ctr 65535 = 0 ∧
    atConsumer ((after (.synAttrWrite (wrW 0x102_0000_0008 8 v)) s).attr .ctr 65535) = true := by decide +kernel

/-- Locks and events refuse plain writes; R217. -/
theorem test_syn_plain_write :
    let s := sY Sync.init
    let l := 0x102_0200_0000 + 16 * 8191 + 7
    let e := 0x102_0300_0000 + 16 * 4095
    lands s l 1 1 = true ∧ codes (after (.synPlainWrite (wrW l 1 1)) s) = [(4, SYN_PLAIN_WRITE, 0)] ∧
    lands s e 8 1 = true ∧ codes (after (.synPlainWrite (wrW e 8 1)) s) = [(4, SYN_PLAIN_WRITE, 0)] := by decide +kernel

/-- A channel's configuration with no members, and with one; R224. -/
theorem test_syn_bar_cfg_write :
    let s := sY Sync.init
    let r := sY (ch 2 [9] [] [])
    let off := 0x102_0400_0000 + 64 * 31
    lands s off 8 0x4190 = true ∧ (s.chanOf 31).members = [] ∧ (s.ybar 31).valid = false ∧
    ((after (.synBarCfgWrite (wrW off 8 0x4190)) s).chanOf 31).cfg = 0x4190 ∧
    lands r chanA.toNat 8 0x4190 = true ∧ codes (after (.synBarCfgWrite (wrW chanA.toNat 8 0x4190)) r) = [(4, SYN_ATTR_BAD, 0)] := by
  decide +kernel

/-- SYN_TIMEOUT at its greatest value and one above; R208. -/
theorem test_syn_timeout_write :
    let s := sY Sync.init
    let off := 0x103_0000_0110 + 143 * 0x1_0000
    lands s off 8 60000000 = true ∧ ((after (.synTimeoutWrite (wrW off 8 60000000)) s).core 143).timeout = 60000000 ∧
    lands s off 8 60000001 = true ∧ codes (after (.synTimeoutWrite (wrW off 8 60000001)) s) = [(4, SYN_TIMEOUT_RANGE, 0)] := by
  decide +kernel

/-- A fabric with SYN_HANDSET_OBJ at an object and SYN_HANDSET_VAL at 20. -/
def hs (k : ObjKind) (n : Nat) (y : Sync) : State := sY { y with handObj := BitVec.ofNat 64 (objId k n).toNat, handVal := 20 }
def hw (c : W64) : Wr := wrW 0x102_0500_0010 8 c

/-- The hand-sets on objects of their kinds; R227. -/
theorem test_handsets :
    let ctr := hs .ctr 65535 { Sync.init with waits := [wait9 .ctr 65535 (.value 20)] }
    let lck := hs .lock 7 (lck (some (.core 9, 0)) false)
    let evt := hs .evt 7 Sync.init
    let cha := hs .chan 1 (ch 2 [9] [(9, 1)] [(.core 9, 0)])
    lands ctr 0x102_0500_0010 8 1 = true ∧ objOfId ctr.sync.handObj = some (.ctr, 65535) ∧
    (after (.handsetCtrSet (hw 1)) ctr).ctr 65535 = 20 ∧ (after (.handsetCtrSet (hw 1)) ctr).sync.waits = [] ∧
    codes (after (.handsetCtrSet (hw 1)) ctr) = [(4, SYN_HAND_SET, 0)] ∧
    objOfId lck.sync.handObj = some (.lock, 7) ∧ ((after (.handsetLockFree (hw 2)) lck).lockOf 7).owner = none ∧
    (after (.handsetEvtSet (hw 3)) evt).evtSet 7 = true ∧ (after (.handsetEvtClr (hw 4)) evt).evtSet 7 = false ∧
    ((after (.handsetBarRelease (hw 5)) cha).chanOf 1).round = 1 ∧ (after (.handsetWake (hw 6)) ctr).sync.waits = [] ∧
    ((after (.handsetClear (hw 7)) cha).chanOf 1).members = [] := by decide +kernel

/-- HANDSET_CTR_SET on a lock; R228. -/
theorem test_handset_bad :
    let s := hs .lock 7 Sync.init
    objOfId s.sync.handObj = some (.lock, 7) ∧ codes (after (.handsetCtrSet (hw 1)) s) = [(4, SYN_HANDSET_BAD, 0)] := by decide +kernel

end Sys2Proof.Tests
end

