-- ==== Sys2Proof/WellFormed.lean ====
section
/-! DEFINITION. Which commands are well-formed: the operands that carry data have the lengths that the spec gives the data. -/

namespace Sys2Proof

/-- A write to a register or an object covers 1 to 8 bytes of one word's width. -/
def Wr.wellFormed (w : Wr) : Bool := decide (1 ≤ w.len ∧ w.len ≤ 8)

/-- A well-formed command: a frame carries 640 bytes of slots (R321), an ID_EXCHANGE 64 bytes (R327), a thermal sample one reading
for each sensor of its group (R420), a block access 1 to 256 bytes of its window (R381). Operands of other commands may be anything.
DESIGN CHOICE: log entry 4. -/
def Instr.wellFormed : Instr → Bool
  | .registerWrite w => w.wellFormed
  | .actEntryBaseLimitWrite w => w.wellFormed
  | .actEntryCtrlWrite w => w.wellFormed
  | .actSyncWrite w => w.wellFormed
  | .actSyncRead .. => true
  | .actSyncReturn .. => true
  | .insnFetchReturn .. => true
  | .alu .. => true
  | .alui .. => true
  | .immw .. => true
  | .coreLoad .. => true
  | .coreLoadReturn .. => true
  | .coreStore .. => true
  | .br .. => true
  | .jal .. => true
  | .jalr .. => true
  | .pass .. => true
  | .passr .. => true
  | .dma .. => true
  | .klaunch .. => true
  | .issueAccept .. => true
  | .twait .. => true
  | .tdrain .. => true
  | .tclaim .. => true
  | .trel .. => true
  | .tstate .. => true
  | .nop .. => true
  | .mfc .. => true
  | .mtc .. => true
  | .coreEnd .. => true
  | .brk .. => true
  | .fence .. => true
  | .weightLoadStart .. => true
  | .shadowLoadComplete .. => true
  | .passStart .. => true
  | .rowAdmit .. => true
  | .outResultWritten .. => true
  | .passDone .. => true
  | .arrParity .. => true
  | .arrStuck .. => true
  | .rampTokenGrant .. => true
  | .rampStep .. => true
  | .idleHoldExpiry .. => true
  | .riddleRequestChange .. => true
  | .dmaCopy .. => true
  | .dmaFill .. => true
  | .dmaReduce .. => true
  | .dmaRowop .. => true
  | .dmaSignal .. => true
  | .dmaRequestIssue .. => true
  | .dmaDone .. => true
  | .sbTimeout .. => true
  | .kernelStart .. => true
  | .groupStart .. => true
  | .kernelEnd .. => true
  | .groupFetchReturn .. => true
  | .vint .. => true
  | .vfp .. => true
  | .vmemLoad .. => true
  | .groupLoadReturn .. => true
  | .vmemStore .. => true
  | .vatom .. => true
  | .vatomRed .. => true
  | .fenceG .. => true
  | .fenceT .. => true
  | .fenceD .. => true
  | .maskIf .. => true
  | .maskElse .. => true
  | .maskEndif .. => true
  | .maskLoop .. => true
  | .maskBreak .. => true
  | .maskCont .. => true
  | .maskEndloop .. => true
  | .maskExit .. => true
  | .groupEnd .. => true
  | .jmp .. => true
  | .braAny .. => true
  | .braAll .. => true
  | .call .. => true
  | .ret .. => true
  | .uni .. => true
  | .pred .. => true
  | .mmaBf16 .. => true
  | .mmaFp8 .. => true
  | .mmaInt8 .. => true
  | .gmxResultReady .. => true
  | .shfl .. => true
  | .bcast .. => true
  | .rdlane .. => true
  | .ctrRd .. => true
  | .ctrInc .. => true
  | .ctrWait .. => true
  | .lockAcq .. => true
  | .lockTry .. => true
  | .lockRel .. => true
  | .evtSet .. => true
  | .evtClr .. => true
  | .evtWait .. => true
  | .barJoin .. => true
  | .barLeave .. => true
  | .barArrive .. => true
  | .barWait .. => true
  | .barSync .. => true
  | .synTimeout .. => true
  | .incrementAliasWrite w => w.wellFormed
  | .synCtrWrite w => w.wellFormed
  | .synAttrWrite w => w.wellFormed
  | .synPlainWrite w => w.wellFormed
  | .synBarCfgWrite w => w.wellFormed
  | .synTimeoutWrite w => w.wellFormed
  | .handsetCtrSet w => w.wellFormed
  | .handsetLockFree w => w.wellFormed
  | .handsetEvtSet w => w.wellFormed
  | .handsetEvtClr w => w.wellFormed
  | .handsetBarRelease w => w.wellFormed
  | .handsetWake w => w.wellFormed
  | .handsetClear w => w.wellFormed
  | .taskFetch .. => true
  | .taskDescriptorRead .. => true
  | .taskPlace .. => true
  | .tdWaitTimeout .. => true
  | .submitRearm .. => true
  | .tileComplete .. => true
  | .tdIncApply .. => true
  | .tileAbort .. => true
  | .tileQuiet .. => true
  | .pause .. => true
  | .resume .. => true
  | .preempt .. => true
  | .sectorPartitionMapWrite .. => true
  | .taskListWrite .. => true
  | .llcAccess .. => true
  | .scratchAccess .. => true
  | .tileStoreWindowAccess .. => true
  | .llcFillReturn .. => true
  | .addToLine .. => true
  | .bdrPinBaseLimitWrite w => w.wellFormed
  | .bdrPinCtrlWrite w => w.wellFormed
  | .unpinWalkDone .. => true
  | .thrashWindowEnd .. => true
  | .hoistPrefetch .. => true
  | .detectedStreamIdle .. => true
  | .bdrImmFenceWrite w => w.wellFormed
  | .immFenceDone => true
  | .ropSubmit w => w.wellFormed
  | .ropDescriptorRead .. => true
  | .ropCopy .. => true
  | .ropInit .. => true
  | .ropNot .. => true
  | .ropAnd .. => true
  | .ropOr .. => true
  | .ropXor .. => true
  | .ropMaj3 .. => true
  | .rowOpComplete .. => true
  | .bankReady .. => true
  | .ropStuck .. => true
  | .hbmFillCmd w => w.wellFormed
  | .stackFillDone .. => true
  | .poisonSweepDone .. => true
  | .scrubRead .. => true
  | .bucketLeak .. => true
  | .regulatorWindowStart .. => true
  | .requestAdmit .. => true
  | .arbiterGrant .. => true
  | .transferEnd .. => true
  | .targetResourceFree .. => true
  | .arbStuck .. => true
  | .frameReceive _ _ _ _ slots _ => slots.length == 640
  | .replayTimeout .. => true
  | .packetSend .. => true
  | .linkTrainingDone .. => true
  | .idExchange _ payload => payload.length == 64
  | .linkDown .. => true
  | .retrainHoldoff .. => true
  | .retrain w => w.wellFormed
  | .linkEnableWrite w => w.wellFormed
  | .yfRead .. => true
  | .yfWrite .. => true
  | .yfWriteMasked .. => true
  | .yfAddToLine .. => true
  | .yfMinmaxToLine .. => true
  | .yfCtrInc .. => true
  | .barrierArrive .. => true
  | .barrierRelease .. => true
  | .yfReadData .. => true
  | .yfStatus .. => true
  | .yfReadTimeout .. => true
  | .yfResidence .. => true
  | .yfRouteWrite w => w.wellFormed
  | .routeSettle .. => true
  | .yfBarWrite w => w.wellFormed
  | .hldRead => true
  | .hldWrite => true
  | .hldWriteMasked => true
  | .readShared => true
  | .readExcl => true
  | .writeback => true
  | .snoopResp => true
  | .writeAck => true
  | .hldReadData => true
  | .snoopTimeout .. => true
  | .hldLinkDown .. => true
  | .hldReadTimeout .. => true
  | .hldWriteTimeout .. => true
  | .interruptHoldoff => true
  | .dealeOpen .. => true
  | .dealeClose .. => true
  | .dealeRead .. => true
  | .dealeWrite .. => true
  | .dealeReadBlock .. => true
  | .dealeWriteBlock .. => true
  | .sessionTimeout .. => true
  | .odMirrorRead .. => true
  | .odMirrorWrite w => w.wellFormed
  | .blockPortRead _ _ off len => decide (1 ≤ len ∧ len ≤ 256 ∧ off + len ≤ 0x1000)
  | .blockPortWrite _ _ off data => decide (1 ≤ data.length ∧ data.length ≤ 256 ∧ off + data.length ≤ 0x1000)
  | .save .. => true
  | .dflt .. => true
  | .storeComplete .. => true
  | .mark => true
  | .rateSample .. => true
  | .burstCheckFail .. => true
  | .laneWalkComplete .. => true
  | .controlLaneTimeout .. => true
  | .inputSupervision .. => true
  | .pwrInputUv => true
  | .pwrInputOv => true
  | .undervoltageRecovery => true
  | .auxInputLoss => true
  | .avsPoll .. => true
  | .pwrPhaseLost .. => true
  | .powerMeasure .. => true
  | .voltageStep => true
  | .powerProfileWrite .. => true
  | .profileChangeComplete => true
  | .neighbourCheck .. => true
  | .pwrDeferTimeout .. => true
  | .regionOn .. => true
  | .regionHoldRelease .. => true
  | .placementRetry .. => true
  | .regionGateOff .. => true
  | .powerStateRequest .. => true
  | .selfRefreshEntry .. => true
  | .thermalSample group temps _ _ => temps.length == Machine.sensorCount group.val
  | .thermSensorFault group sensor => decide (sensor < Machine.sensorCount group.val)
  | .thermSensorSuspect .. => true
  | .levelFall .. => true
  | .thermShutdown .. => true
  | .shutdownLatchClear => true
  | .coldReset .. => true
  | .coldResetRelease .. => true
  | .bringupStageComplete .. => true
  | .bringupStageTimeout => true
  | .hbmTrainingDone .. => true
  | .recv .. => true
  | .eras .. => true
  | .eraseComplete .. => true
  | .flashWindowWrite _ _ off data => decide (1 ≤ data.length ∧ data.length ≤ 256 ∧ off + data.length ≤ 0x1000)
  | .comt .. => true
  | .comtVerifyDone => true
  | .xspiTimeout => true
  | .warmRstN => true
  | .warmResetCommand .. => true
  | .warmResetQuiesceBound => true
  | .llcWritebackDone => true
  | .partitionReset .. => true
  | .tileReset .. => true
  | .linkReset .. => true
  | .recordDeliver => true
  | .severityLine => true
  | .heartbeat => true
  | .mgtFailover => true
  | .mgtNoCore => true
  | .noCoreConverterOff => true
  | .svnb .. => true
  | .fwSvnRaised => true
  | .dbgu .. => true
  | .atpt .. => true
  | .reportSigned .. => true
  | .endorsementReady => true
  | .halt w => w.wellFormed
  | .haltComplete .. => true
  | .dbgDrainLate .. => true
  | .dbgResume w => w.wellFormed
  | .stepCore w => w.wellFormed
  | .stepGroup w => w.wellFormed
  | .dbgRdataRead .. => true
  | .dbgRdataWrite w => w.wellFormed
  | .traceOutput => true
  | .dumpReadStart => true
  | .dumpComplete => true
  | .cagePresence .. => true
  | .referenceClockFail .. => true
  | .rcRegisterRead .. => true
  | .hldField => true
  | .dealeCommand .. => true
  | .jtagInstruction .. => true
  | .sidebandInputChange .. => true
  | .takeoverComplete => true

end Sys2Proof
end

