-- ==== Sys2Proof/Tests/Slice0.lean ====
section
/-! SUPPORT. Tests of the whole: ill-formed commands, the step and its queue, words, and the state after reset. The tests of each
family stand in the other files of this folder. -/

namespace Sys2Proof.Tests
open Sys2Proof Sys2Proof.Machine

set_option Elab.async false

/-- Whether a command faults as ill-formed. -/
def faults (c : Instr) (s : State) : Bool := match exec c s with | .fault .illFormed => true | _ => false

/-! One ill-formed command for each check of wellFormed, and whether exec stops on it. -/

theorem test_ill_write_len0 : (Instr.ropSubmit (wrW 0x103_0000_0000 0 0)).wellFormed = false := by decide
theorem test_ill_write_len9 : (Instr.halt (wrW 0x103_0000_0000 9 0)).wellFormed = false := by decide
theorem test_ill_block_read : (Instr.blockPortRead 0 0xE8 0xFFF 2).wellFormed = false := by decide
theorem test_ill_block_write : (Instr.blockPortWrite 0 0xE8 0 []).wellFormed = false := by decide
theorem test_ill_flash_write : (Instr.flashWindowWrite 0 0xE8 0 []).wellFormed = false := by decide
theorem test_ill_sensor : (Instr.thermSensorFault 0 8).wellFormed = false := by decide

theorem test_ill_frame :
    (Instr.frameReceive 0 0 0 false [1] 0).wellFormed = false ∧ faults (.frameReceive 0 0 0 false [1] 0) sUp = true := by
  decide +kernel
theorem test_ill_exchange :
    (Instr.idExchange 0 [1]).wellFormed = false ∧ faults (.idExchange 0 [1]) sUp = true := by decide +kernel
theorem test_ill_sample :
    (Instr.thermalSample 0 [250] 0 (0, 0)).wellFormed = false ∧ faults (.thermalSample 0 [250] 0 (0, 0)) sUp = true := by
  decide +kernel

/-! The step. -/

/-- The front command runs on the rest of the queue. -/
theorem test_step_front : (match step { State.reset with pending := [.mark, .heartbeat] } with
    | .next s => s.pending == [.heartbeat] | _ => false) = true := by decide +kernel

/-- An empty queue is a count of the oscillators of one or more layers, freely chosen (log entry 2). -/
theorem test_step_idle : (match step sUp with | .next s => decide (s.free = 1 ∧ s.reqs = []) | _ => false) = true := by
  decide +kernel

/-- With the converter off nothing counts. -/
theorem test_step_idle_off : (match step State.reset with | .next s => decide (s = State.reset) | _ => false) = true := by
  decide +kernel

/-- No word spells a command. -/
theorem test_no_word : decodeTableWord 32 0x1234 = none ∧ State.reset.withFetchWord 32 0x1234 = State.reset := ⟨rfl, rfl⟩

/-! The state after reset. -/

theorem test_reset_memory : State.reset.mem.wf = true := by decide +kernel
theorem test_reset_table : (State.reset.table 0).entries.length = 1 ∧ (State.reset.table 0).lock = false := by decide +kernel
theorem test_reset_core : ∀ i : Fin 32, (State.reset.core 7).reg i.val = 0 := by decide +kernel
theorem test_reset_counter : State.reset.marks = 0 ∧ State.reset.bedLosc = 0 := ⟨rfl, rfl⟩

end Sys2Proof.Tests
end

section
/-! What taking a request or a write at its target can do (R34, R41, R308), for every command that takes one. -/

namespace Sys2Proof.Machine

/-- What taking a request or a write at its port may touch: the list of requests and the accounts of the ports, no port's lock. -/
structure State.SameButRequests (s s' : State) : Prop where
  frame : { s' with ports := s.ports, reqs := s.reqs, nextReq := s.nextReq } = s
  lock (k : Nat) : (s'.port k).lock = (s.port k).lock

namespace State.SameButRequests

theorem refl (s : State) : s.SameButRequests s := ⟨rfl, fun _ => rfl⟩

theorem trans {a b c : State} (h : a.SameButRequests b) (h' : b.SameButRequests c) : a.SameButRequests c where
  frame := by rw [← h.frame, ← h'.frame]
  lock k := (h'.lock k).trans (h.lock k)

variable {s s' : State}

/-- The state half of an operation's answer, once the answer is known. -/
theorem of_eq {α : Type} {p : State × α} {a : α} (h : s.SameButRequests p.1) (hp : p = (s', a)) : s.SameButRequests s' := by
  rwa [hp] at h

variable (h : s.SameButRequests s')
include h

theorem act : s'.act = s.act := by rw [← h.frame]
theorem bed : s'.bed = s.bed := by rw [← h.frame]
theorem sync : s'.sync = s.sync := by rw [← h.frame]
theorem resp : s'.resp = s.resp := by rw [← h.frame]
theorem table (k : Nat) : s'.table k = s.table k := by rw [State.table, h.act, State.table]
theorem stack (n : Nat) : s'.stack n = s.stack n := by rw [State.stack, h.bed, State.stack]

end State.SameButRequests

/-! Ports. -/

@[simp] theorem Port.passOver_lock (p : Port) : p.passOver.lock = p.lock := by
  refine List.foldlRecOn (motive := fun q : Port => q.lock = p.lock) _ _ rfl (fun q hq i _ => ?_)
  dsimp only
  split
  · exact hq
  · exact hq

@[simp] theorem Port.granted_lock (p : Port) (i wait : Nat) : (p.granted i wait).lock = p.lock := by
  simp [Port.granted]

@[simp] theorem State.charge_lock (s : State) (p : Port) (m units : Nat) : (s.charge p m units).lock = p.lock := by
  unfold State.charge
  split <;> rfl

theorem State.setPort_sameButRequests (s : State) (n : Nat) (p : Port) (hp : p.lock = (s.port n).lock) :
    s.SameButRequests (s.setPort n p) where
  frame := rfl
  lock k := by
    by_cases hk : k = n
    · rw [hk, State.port_setPort, hp]
    · rw [State.port_setPort_ne _ _ hk]

theorem State.portPass_sameButRequests (s : State) (n m cls units : Nat) :
    s.SameButRequests (s.portPass n m cls units).1 := by
  unfold State.portPass
  dsimp only
  split
  · exact .refl s
  · split
    · exact s.setPort_sameButRequests n _ rfl
    · exact s.setPort_sameButRequests n _ (by simp)

theorem State.enter_sameButRequests (s : State) (who : Who) (cls a units : Nat) :
    s.SameButRequests (s.enter who cls a units).1 := by
  unfold State.enter
  split
  · exact .refl s
  split
  · exact .refl s
  split
  · exact .refl s
  · exact s.portPass_sameButRequests ..

theorem State.accept_sameButRequests (s : State) (id : Nat) : s.SameButRequests (s.accept id) := ⟨rfl, fun _ => rfl⟩

theorem State.atPort_sameButRequests (s : State) (id : Nat) : s.SameButRequests (s.atPort id).1 := by
  unfold State.atPort
  split
  · exact .refl s
  next r _ =>
    split
    · exact .refl s
    split
    · exact .refl s
    split
    · exact .refl s
    next n _ =>
      have hpass := s.portPass_sameButRequests n r.who.mid r.cls (reqUnits r)
      by_cases hheld : s.bundleHeld r.who.mid r.addr = true
      · rw [if_pos hheld]
        exact .refl s
      · rw [if_neg hheld]
        dsimp only
        split
        · exact hpass.trans (State.accept_sameButRequests _ id)
        · exact hpass

/-! Taking a write. -/

/-- A posted store gives its first word exactly where it is performed now, its port lets it in and the target accepts the word. -/
theorem State.takeWord_eq_some {s s1 : State} {r : Req} {ok : Nat → Bool} {x : WrIn} :
    s.takeWord r ok = (s1, some x) ↔
      (s.storeReady r && s.isLocal r.addr) = true ∧ ok x.off = true ∧
      ∃ left s', r.firstWord = some (x, left) ∧ s.atPort r.id = (s', true) ∧
        s1 = left.elim (s'.dropReq r.id) (fun r' => s'.updReq r.id (fun y => { r' with adm := y.adm, acc := y.acc })) := by
  unfold State.takeWord
  by_cases hready : (s.storeReady r && s.isLocal r.addr) = true
  · rcases hword : r.firstWord with _ | ⟨y, left⟩
    · simp [hready]
    · rcases hport : s.atPort r.id with ⟨s', here⟩
      cases here <;> cases left <;> simp [hready] <;> grind
  · simp [hready]

theorem State.takeWord_sameButRequests {s s1 : State} {r : Req} {ok : Nat → Bool} {x : WrIn}
    (h : s.takeWord r ok = (s1, some x)) : s.SameButRequests s1 := by
  obtain ⟨-, -, left, s', -, hport, rfl⟩ := State.takeWord_eq_some.1 h
  have hpass : s.SameButRequests s' := (s.atPort_sameButRequests r.id).of_eq hport
  cases left with
  | none => exact hpass.trans ⟨rfl, fun _ => rfl⟩
  | some r' => exact hpass.trans ⟨rfl, fun _ => rfl⟩

/-- Whether a master sends nothing: a unit that sends no single accesses, a reserved master id (R41), or the debug port while it is
locked (R496). -/
def State.mute (s : State) (m : Nat) : Bool := decide (m < 0x98) || !midIssued m || (m == 0x0FB && s.debugLocked)

/-- A master outside the tiles that is not the debug port may send. -/
theorem State.mute_eq_false {s : State} {m : Nat} (hm : 0x98 ≤ m) (hi : midIssued m = true) (hd : m ≠ 0x0FB) :
    s.mute m = false := by
  simp [State.mute, hi, hd, hm]

/-- The length of a master's write. -/
def wrLen (w : Wr) : Nat := if w.len = 0 then 1 else min w.len 8

/-- The request that a master's write stands for, with the class of its check. -/
def wrReq (w : Wr) (cls : Nat) : Req :=
  newReq (whoOfMid w.mid.toNat) 0 .store w.addr.toNat (wrLen w) (clean (leBytes (wrLen w) w.data.toNat)) cls

/-- A write reaches its target as the first word of a posted store, or of a master that issues it, passes its checks and the
port. -/
theorem State.takeWr_eq_some {s s1 : State} {w : Wr} {ok : Nat → Bool} {x : WrIn} :
    s.takeWr w ok = (s1, some x) ↔
      (∃ id r, w.rq = some id ∧ s.findReq id = some r ∧ s.takeWord r ok = (s1, some x)) ∨
      (w.rq = none ∧ s.mute w.mid.toNat = false ∧
        ∃ g y left s', s.checkAccess w.mid.toNat 0 .W w.addr.toNat (wrLen w) = .ok g ∧
          (wrReq w g.cls).firstWord = some (y, left) ∧ x = { y with data := w.data } ∧ (s.isLocal w.addr.toNat && ok x.off) = true ∧
          s.enter (whoOfMid w.mid.toNat) g.cls w.addr.toNat ((wrLen w + 63) / 64) = (s', true) ∧
          s1 = left.elim s' (fun r' => s'.addReq { r' with adm := 2 })) := by
  simp only [State.takeWr, State.mute, wrReq, wrLen]
  split
  · next id hrq => split <;> simp_all
  · next hrq =>
    split
    · next hmute => simp [hrq, hmute]
    · next hmute =>
      rw [Bool.not_eq_true] at hmute
      split
      · next herr => simp [hrq, herr]
      · next g hok =>
        split
        · next y left hword =>
          rcases hport : s.enter (whoOfMid w.mid.toNat) g.cls w.addr.toNat (((if w.len = 0 then 1 else min w.len 8) + 63) / 64)
            with ⟨s', here⟩
          simp only [hrq, hmute]
          cases here with
          | false => simp [hok, hword, hport]; grind
          | true => cases left <;> simp [hok, hword, hport] <;> grind
        · next hword => simp [hrq, hok, hword]

theorem State.takeWr_sameButRequests {s s1 : State} {w : Wr} {ok : Nat → Bool} {x : WrIn}
    (h : s.takeWr w ok = (s1, some x)) : s.SameButRequests s1 := by
  rcases State.takeWr_eq_some.1 h with ⟨id, r, -, -, hword⟩ | ⟨-, -, g, y, left, s', -, -, -, -, hport, rfl⟩
  · exact State.takeWord_sameButRequests hword
  · have hpass : s.SameButRequests s' := (s.enter_sameButRequests ..).of_eq hport
    cases left with
    | none => exact hpass
    | some r' => exact hpass.trans ⟨rfl, fun _ => rfl⟩

/-- Of the offsets that a command accepts, only that of the word itself counts. -/
theorem State.takeWr_of_accepts {s s1 : State} {w : Wr} {ok ok' : Nat → Bool} {x : WrIn}
    (h : s.takeWr w ok = (s1, some x)) (hx : ok' x.off = true) : s.takeWr w ok' = (s1, some x) := by
  rcases State.takeWr_eq_some.1 h with
    ⟨id, r, hrq, hreq, hword⟩ | ⟨hrq, hmute, g, y, left, s', hok, hword, hy, hloc, hport, hs⟩
  · obtain ⟨hready, -, hrest⟩ := State.takeWord_eq_some.1 hword
    exact State.takeWr_eq_some.2 (.inl ⟨id, r, hrq, hreq, State.takeWord_eq_some.2 ⟨hready, hx, hrest⟩⟩)
  · rw [Bool.and_eq_true] at hloc
    have hloc' : (s.isLocal w.addr.toNat && ok' x.off) = true := by rw [hloc.1, hx, Bool.and_self]
    exact State.takeWr_eq_some.2 (.inr ⟨hrq, hmute, g, y, left, s', hok, hword, hy, hloc', hport, hs⟩)

section
variable {s s1 : State} {w : Wr} {x : WrIn} (h : s.wrAt w s1 x)
include h

theorem State.wrAt.sameButRequests : s.SameButRequests s1 := State.takeWr_sameButRequests h

theorem State.wrAt.takeWr {ok : Nat → Bool} (hx : ok x.off = true) : s.takeWr w ok = (s1, some x) :=
  State.takeWr_of_accepts h hx

end

/-! A place of the control space by its offset from the start of that space (R32). -/

theorem ctrlOf_add {c : Nat} (hc : c < 0x1_0000_0000) : ctrlOf (0x103_0000_0000 + c) = some c := by
  rw [ctrlOf, if_pos (by omega), Nat.add_sub_cancel_left]

theorem inCtrl_add (p : Nat → Bool) {c : Nat} (hc : c < 0x1_0000_0000) : inCtrl p (0x103_0000_0000 + c) = p c := by
  rw [inCtrl, ctrlOf_add hc]

end Sys2Proof.Machine
end

section
/-! The access-table commands (R49–R51). -/

namespace Sys2Proof.Machine

/-- Word i of entry n in the table of target k, from the start of the control space (R49). -/
def actWordOff (k n i : Nat) : Nat := 0x700_0000 + k * 0x1_0000 + n * 0x20 + 8 * i

section
variable {k n i b : Nat} (hk : k < 20) (hn : n < 256) (hi : i < 4) (hb : b < 8)
include hi hb

theorem actWordOff_word : (0x103_0000_0000 + (actWordOff k n i + b)) % 0x20 / 8 = i := by
  unfold actWordOff
  omega

include hk hn

theorem inCtrl_isActEntry (p : Nat → Bool) : inCtrl (isActEntry p) (0x103_0000_0000 + (actWordOff k n i + b)) = p i := by
  unfold actWordOff
  rw [inCtrl_add _ (by omega), isActEntry, decide_eq_true (by omega), Bool.true_and]
  congr 1
  omega

theorem actTargetAt_actWordOff : actTargetAt (0x103_0000_0000 + (actWordOff k n i + b)) = k := by
  unfold actTargetAt actWordOff
  omega

theorem actEntryAt_actWordOff : actEntryAt (0x103_0000_0000 + (actWordOff k n i + b)) = n := by
  unfold actEntryAt actWordOff
  omega

end

section
variable {s s1 : State} {w : Wr} {x : WrIn} (h : s.wrAt w s1 x) {k n b : Nat} (hk : k < 20) (hn : n < 256) (hb : b < 8)
include h hk hn hb

/-- A write to BASE (word 0) or LIMIT (word 1) of an entry acts on the table of the entry's target. -/
theorem exec_actEntryBaseLimitWrite {i : Nat} (hi : i < 2) (hx : x.off = 0x103_0000_0000 + (actWordOff k n i + b)) :
    exec (.actEntryBaseLimitWrite w) s = .next (s1.setTable k ((s.table k).writeBound n (i == 1) x)) := by
  have hi4 : i < 4 := by omega
  have htake := h.takeWr (ok := inCtrl (isActEntry (fun i => decide (i < 2))))
    (by rw [hx, inCtrl_isActEntry hk hn hi4 hb, decide_eq_true hi])
  simp only [exec, execActEntryBaseLimitWrite, htake, hx, actTargetAt_actWordOff hk hn hi4 hb, actEntryAt_actWordOff hk hn hi4 hb,
    actWordOff_word hi4 hb, State.updTable, h.sameButRequests.table]

/-- A write to CTRL (word 2) of an entry. -/
theorem exec_actEntryCtrlWrite (hx : x.off = 0x103_0000_0000 + (actWordOff k n 2 + b)) : exec (.actEntryCtrlWrite w) s =
    .next (s1.setTable k ((s.table k).writeCtrl k n (x.merge ((s.table k).entry n).ctrl))) := by
  have hi : 2 < 4 := by decide
  have htake := h.takeWr (ok := inCtrl (isActEntry (fun i => i == 2)))
    (by rw [hx, inCtrl_isActEntry hk hn hi hb, beq_self_eq_true])
  simp only [exec, execActEntryCtrlWrite, htake, hx, actTargetAt_actWordOff hk hn hi hb, actEntryAt_actWordOff hk hn hi hb,
    State.updTable, h.sameButRequests.table]

end

theorem exec_actSyncWrite {s s1 : State} {w : Wr} {x : WrIn} {k b : Nat} (h : s.wrAt w s1 x) (hk : k < 20) (hb : b < 8)
    (hx : x.off = 0x103_0700_2010 + k * 0x1_0000 + b) :
    exec (.actSyncWrite w) s = .next (s1.setTable k { s.table k with fence := s1.pendingAt k }) := by
  have hoff : x.off = 0x103_0000_0000 + (0x700_2010 + k * 0x1_0000 + b) := by omega
  have htake := h.takeWr (ok := inCtrl isActSync) (by
    rw [hoff, inCtrl_add _ (by omega), isActSync, decide_eq_true (by omega), Bool.true_and, beq_iff_eq]
    omega)
  have htarget : actTargetAt x.off = k := by
    unfold actTargetAt
    omega
  simp only [exec, execActSyncWrite, htake, htarget, State.updTable, h.sameButRequests.table]

/-! What a write does to an entry, by the entry's lock and valid bit (R49, R50). -/

section
variable {t : ActTable} {n : Nat}

theorem ActTable.writeBound_locked (b : Bool) (x : WrIn) (hl : t.locked n = true) : t.writeBound n b x = t := by
  simp [ActTable.writeBound, hl]

theorem ActTable.writeCtrl_locked (k : Nat) (v : W64) (hl : t.locked n = true) : t.writeCtrl k n v = t := by
  simp [ActTable.writeCtrl, hl]

variable (hl : t.locked n = false)
include hl

theorem ActTable.writeBound_valid (b : Bool) (x : WrIn) (hv : (t.entry n).valid = true) :
    t.writeBound n b x = { t with whileValid := true } := by
  simp [ActTable.writeBound, hl, hv]

theorem ActTable.writeBound_base (x : WrIn) (hv : (t.entry n).valid = false) :
    t.writeBound n false x = t.setEntry n { t.entry n with base := x.merge (t.entry n).base &&& ~~~ 0xFFF } := by
  simp [ActTable.writeBound, hl, hv]

theorem ActTable.writeBound_limit (x : WrIn) (hv : (t.entry n).valid = false) :
    t.writeBound n true x = t.setEntry n { t.entry n with limit := x.merge (t.entry n).limit &&& ~~~ 0xFFF } := by
  simp [ActTable.writeBound, hl, hv]

variable (k : Nat) {v : W64}

theorem ActTable.writeCtrl_clear (hv : bitOf v 63 = false) :
    t.writeCtrl k n v = t.setEntry n { t.entry n with ctrl := v &&& actCtrlMask } := by
  simp [ActTable.writeCtrl, hl, hv]

theorem ActTable.writeCtrl_set (hv : bitOf v 63 = true) (he : (t.entry n).valid = false) :
    t.writeCtrl k n v = if ({ t.entry n with ctrl := v &&& actCtrlMask } : ActEntry).good k
      then t.setEntry n { t.entry n with ctrl := v &&& actCtrlMask } else { t with badEntry := true } := by
  simp [ActTable.writeCtrl, hl, hv, he]

theorem ActTable.writeCtrl_valid (hv : bitOf v 63 = true) (he : (t.entry n).valid = true)
    (hne : v &&& actCtrlMask ≠ (t.entry n).ctrl) : t.writeCtrl k n v = { t with whileValid := true } := by
  simp [ActTable.writeCtrl, hl, hv, he, hne]

end

/-! ACT_SYNC (R51). -/

/-- A read of ACT_SYNC that passes its check and the port. -/
theorem exec_actSyncRead {s s1 : State} {k : Fin 20} {mid : Mid} {ok : AccOk} (hmute : s.mute mid.toNat = false)
    (hok : s.checkLocal mid.toNat 0 .R (0x103_0700_2010 + k.val * 0x1_0000) 8 = .ok ok)
    (hport : s.enter (whoOfMid mid.toNat) ok.cls (s.globalOf (0x103_0700_2010 + k.val * 0x1_0000)).toNat 1 = (s1, true)) :
    exec (.actSyncRead k mid) s = .next (if s1.fencePending k.val
      then s1.updTable k.val (fun t => { t with syncHeld := t.syncHeld ++ [whoOfMid mid.toNat] })
      else { s1 with resp := s1.resp ++ [actSyncAnswer k.val (whoOfMid mid.toNat)] }) := by
  rw [State.mute] at hmute
  simp [exec, execActSyncRead, hmute, hok, hport]

/-- With nothing of the fence pending, the held reads of ACT_SYNC are answered. -/
theorem exec_actSyncReturn {s : State} {k : Fin 20} (hf : s.fencePending k.val = false) :
    exec (.actSyncReturn k) s = .next { s.updTable k.val (fun t => { t with syncHeld := [], fence := [] }) with
      resp := s.resp ++ (s.table k.val).syncHeld.map (actSyncAnswer k.val) } := by
  simp [exec, execActSyncReturn, hf]

/-- Settles O34: each command takes its word and acts on the one table that the offset names. -/
theorem accessTableCommands : Obligations.AccessTableCommands := by
  refine ⟨?_, ?_, ?_⟩
  · intro s s1 w x k n b h hk hn hb off tb e
    have exec_bound (i : Nat) (hi : i < 2) (hx : x.off = off + 8 * i + b) :=
      exec_actEntryBaseLimitWrite h hk hn hb hi (hx.trans (by unfold off actWordOff; omega))
    have exec_ctrl (hx : x.off = off + 16 + b) :=
      exec_actEntryCtrlWrite h hk hn hb (hx.trans (by unfold off actWordOff; omega))
    refine ⟨fun hx => ⟨fun hl => ?_, fun hl hv => ?_, fun hl hv => ?_⟩, fun hx hl hv => ?_, fun hx hl => ?_,
      exec_actSyncWrite h hk hb⟩
    · exact ⟨_, exec_bound 0 (by decide) hx, ActTable.writeBound_locked _ x hl⟩
    · rw [exec_bound 0 (by decide) hx, ActTable.writeBound_valid hl _ x hv]
    · rw [exec_bound 0 (by decide) hx]
      exact congrArg _ (congrArg _ (ActTable.writeBound_base hl x hv))
    · rw [exec_bound 1 (by decide) hx]
      exact congrArg _ (congrArg _ (ActTable.writeBound_limit hl x hv))
    · rw [exec_ctrl hx]
      refine ⟨fun hv => ?_, fun hv he hg => ?_, fun hv he hg => ?_, fun hv he hne => ?_⟩
      · rw [ActTable.writeCtrl_clear hl k hv]
        rfl
      · rw [ActTable.writeCtrl_set hl k hv he]
        exact congrArg _ (congrArg _ (if_pos hg))
      · rw [ActTable.writeCtrl_set hl k hv he]
        exact congrArg _ (congrArg _ (if_neg (Bool.not_eq_true _ ▸ hg)))
      · rw [ActTable.writeCtrl_valid hl k hv he hne]
  · intro s s1 k mid ok hm hi hd hok hport
    have hsame : s.SameButRequests s1 := (s.enter_sameButRequests ..).of_eq hport
    rw [exec_actSyncRead (State.mute_eq_false hm hi hd) hok hport]
    refine ⟨fun hf => ?_, fun hf => ?_⟩
    · rw [if_pos hf, State.updTable, hsame.table]
    · rw [hf, if_neg Bool.false_ne_true, hsame.resp]
      rfl
  · intro s k hf
    refine ⟨_, exec_actSyncReturn hf, rfl, ?_⟩
    have hk := s.table_updTable k.val (fun t => { t with syncHeld := [], fence := [] })
    exact ⟨(congrArg ActTable.syncHeld hk :), (congrArg ActTable.fence hk :), (congrArg ActTable.entries hk :),
      fun j hj => SMap.get_put_ne _ _ _ hj⟩

end Sys2Proof.Machine
end

section
/-! Writes of registers with no row of their own, and reads that clear (R7, R9). -/

namespace Sys2Proof.Machine

theorem wordStart_add {o b : Nat} (ho : o % 8 = 0) (hb : b < 8) : (o + b) / 8 * 8 = o := by omega

theorem ownRow_add {o b : Nat} (ho : o % 8 = 0) (hb : b < 8) : ownRow (o + b) = ownRow o := by
  simp only [ownRow, wordStart_add ho hb, Nat.div_mul_cancel (Nat.dvd_of_mod_eq_zero ho)]

/-- No register of a tile below its debug block but SYN_TIMEOUT has a row of its own. -/
theorem ownRow_tile {t r : Nat} (ht : t < 144) (hr : r < 0x1000) (h8 : r % 8 = 0) (hne : r ≠ 0x110) :
    ownRow (t * 0x1_0000 + r) = false := by
  simp [ownRow, isActEntry, isActSync]
  omega

theorem ownRow_stackPattern {n : Nat} (hn : n < 8) : ownRow (0x500_0028 + n * 0x1_0000) = false := by
  simp [ownRow, isActEntry, isActSync]
  omega

theorem ownRow_port {n r : Nat} (hn : n < 90) (hr : r < 0x1_0000) : ownRow (0x600_0000 + n * 0x1_0000 + r) = false := by
  simp [ownRow, isActEntry, isActSync]
  omega

theorem ownRow_table {k r : Nat} (hk : k < 20) (hr : r = 0x700_2000 ∨ r = 0x700_2008) :
    ownRow (r + k * 0x1_0000) = false := by
  simp [ownRow, isActEntry, isActSync]
  omega

theorem State.regWrite_add (s : State) {o b : Nat} (w : WrIn) (ho : o % 8 = 0) (hb : b < 8) :
    s.regWrite (o + b) w = s.regWrite o w := by
  simp only [State.regWrite, wordStart_add ho hb, Nat.div_mul_cancel (Nat.dvd_of_mod_eq_zero ho)]

section
variable {s s1 : State} {w : Wr} {x : WrIn} (h : s.wrAt w s1 x)
include h

/-- A write to a byte of the register at offset o of the control space. -/
theorem exec_registerWrite {o b : Nat} (ho : o % 8 = 0) (hb : b < 8) (hlt : o < 0x1_0000_0000) (hown : ownRow o = false)
    (hx : x.off = 0x103_0000_0000 + (o + b)) : exec (.registerWrite w) s = .next (s1.regWrite o x) := by
  have htake := h.takeWr (ok := plainReg)
    (by rw [hx, plainReg, inCtrl_add _ (by omega), ownRow_add ho hb, hown, Bool.not_false, Bool.true_or])
  have hobj : ¬ x.off / 8 = 0x102_0500_0000 / 8 := by omega
  have hval : ¬ x.off / 8 = 0x102_0500_0008 / 8 := by omega
  simp only [exec, execRegisterWrite, htake, if_neg hobj, if_neg hval]
  rw [hx, Nat.add_sub_cancel_left, State.regWrite_add _ _ ho hb]

/-- A write to SYN_HANDSET_VAL. -/
theorem exec_registerWrite_handVal {b : Nat} (hb : b < 8) (hx : x.off = 0x102_0500_0008 + b) :
    exec (.registerWrite w) s = .next { s1 with sync := { s.sync with handVal := x.merge s.sync.handVal } } := by
  have htake := h.takeWr (ok := plainReg) (by rw [plainReg, decide_eq_true (by omega : _ ∧ _), Bool.or_true])
  have hobj : ¬ x.off / 8 = 0x102_0500_0000 / 8 := by omega
  have hval : x.off / 8 = 0x102_0500_0008 / 8 := by omega
  simp only [exec, execRegisterWrite, htake, if_neg hobj, if_pos hval, State.updSync, h.sameButRequests.sync]

end

/-! The registers of the blocks, and what a write of one does. -/

section
variable (s : State) (x : WrIn)

/-- A register of a tile below its debug block. -/
theorem State.regWrite_tile {t r : Nat} (ht : t < 144) (hr : r < 0x1000) (h8 : r % 8 = 0) :
    s.regWrite (t * 0x1_0000 + r) x = s.tileRegWrite t r (x.value &&& x.mask) := by
  have hword : (t * 0x1_0000 + r) / 8 * 8 = t * 0x1_0000 + r := by omega
  have hreg : (t * 0x1_0000 + r) % 0x1_0000 = r := by omega
  have htile : (t * 0x1_0000 + r) / 0x1_0000 = t := by omega
  simp (disch := omega) only [State.regWrite, hword, hreg, htile, if_neg, if_pos]

/-- The pattern of a stack. -/
theorem State.regWrite_stackPattern {n : Nat} (hn : n < 8) : s.regWrite (0x500_0028 + n * 0x1_0000) x =
    s.setStack n { s.stack n with pattern := x.merge (s.stack n).pattern } := by
  have hword : (0x500_0028 + n * 0x1_0000) / 8 * 8 = 0x500_0028 + n * 0x1_0000 := by omega
  have hstack : (0x500_0028 + n * 0x1_0000 - 0x500_0000) / 0x1_0000 = n := by omega
  simp (disch := omega) only [State.regWrite, hword, hstack, if_neg, if_pos, State.updStack]

/-- A register of a port. -/
theorem State.regWrite_port {n r : Nat} (hn : n < 90) (hr : r < 0x1_0000) (h8 : r % 8 = 0) :
    s.regWrite (0x600_0000 + n * 0x1_0000 + r) x = s.portWrite n r x := by
  have hword : (0x600_0000 + n * 0x1_0000 + r) / 8 * 8 = 0x600_0000 + n * 0x1_0000 + r := by omega
  have hport : (0x600_0000 + n * 0x1_0000 + r - 0x600_0000) / 0x1_0000 = n := by omega
  have hreg : (0x600_0000 + n * 0x1_0000 + r) % 0x1_0000 = r := by omega
  simp (disch := omega) only [State.regWrite, hword, hport, hreg, if_neg, if_pos]

/-- ACT_CTL of a target. -/
theorem State.regWrite_tableLock {k : Nat} (hk : k < 20) : s.regWrite (0x700_2000 + k * 0x1_0000) x =
    s.setTable k { s.table k with lock := (s.table k).lock || bitOf (x.value &&& x.mask) 0 } := by
  have hword : (0x700_2000 + k * 0x1_0000) / 8 * 8 = 0x700_2000 + k * 0x1_0000 := by omega
  have htable : (0x700_2000 + k * 0x1_0000 - 0x700_0000) / 0x1_0000 = k := by omega
  simp (disch := omega) only [State.regWrite, hword, htable, if_neg, if_pos, State.updTable]

/-- ACT_STATUS of a target. -/
theorem State.regWrite_tableFlags {k : Nat} (hk : k < 20) : s.regWrite (0x700_2008 + k * 0x1_0000) x =
    s.setTable k { s.table k with badEntry := w1c (x.value &&& x.mask) 1 (s.table k).badEntry,
                                  whileValid := w1c (x.value &&& x.mask) 0 (s.table k).whileValid } := by
  have hword : (0x700_2008 + k * 0x1_0000) / 8 * 8 = 0x700_2008 + k * 0x1_0000 := by omega
  have htable : (0x700_2008 + k * 0x1_0000 - 0x700_0000) / 0x1_0000 = k := by omega
  simp (disch := omega) only [State.regWrite, hword, htable, if_neg, if_pos, State.updTable]

/-- The quota of a port, by its lock (R310). -/
theorem State.portWrite_quota (n : Nat) : s.portWrite n 0x0010 x =
    if (s.port n).lock then s else s.setPort n { s.port n with quota := x.merge (s.port n).quota } := by
  simp only [State.portWrite, Nat.reduceEqDiff, if_false, if_true]

/-- The sticky flags of the array (R80). -/
theorem State.tileRegWrite_arrFlags (t : Nat) (v : W64) : s.tileRegWrite t 0x0400 v = s.updArr t (fun a => { a with
    poison := w1c v 27 a.poison, satInt := w1c v 26 a.satInt, infOut := w1c v 25 a.infOut, nanOut := w1c v 24 a.nanOut }) := by
  simp only [State.tileRegWrite, Nat.reduceEqDiff, if_false, if_true]

/-- The first registers of a tile are read only (R116). -/
theorem State.tileRegWrite_readOnly (t : Nat) {r : Nat} (v : W64) (hr : r < 0x0100) : s.tileRegWrite t r v = s := by
  simp (disch := omega) only [State.tileRegWrite, if_neg]

end

/-! Reads that clear (R7). -/

/-- A read of a register of Bedrock slice n that holds MISS_PEAK: all its bytes, and MISS_PEAK cleared. -/
theorem State.ctrlRead_missPeak (s : State) (who : Who) {n : Nat} (hn : n < 8) :
    s.ctrlRead who (0x400_0000 + n * 0x1_0000) 8 =
      (leBytes 8 (s.regImage (0x400_0000 + n * 0x1_0000)).toNat, s.updSlice n (fun k => { k with missPeak := 0 })) := by
  have hspan : wordSpan (0x400_0000 + n * 0x1_0000) 8 = 1 := by
    rw [wordSpan, if_neg (by decide)]
    omega
  have hword : (0x400_0000 + n * 0x1_0000) / 8 * 8 = 0x400_0000 + n * 0x1_0000 := by omega
  have hfirst : (0x400_0000 + n * 0x1_0000) % 8 = 0 := by omega
  have hslice : (0x400_0000 + n * 0x1_0000 - 0x400_0000) / 0x1_0000 = n := by omega
  have hreg : s.readReg (0x400_0000 + n * 0x1_0000) 0 8 =
      (s.regImage (0x400_0000 + n * 0x1_0000), s.updSlice n (fun k => { k with missPeak := 0 })) := by
    rw [State.readReg, if_neg (by omega), State.readClear, if_pos (by omega), hslice]
  rw [State.ctrlRead, if_neg (by omega), if_neg (by omega), hspan, List.range_one]
  simp [hword, hfirst, hreg, List.take_of_length_le]

/-- A read by a master outside the tiles that passes its check and the port. -/
theorem State.masterRead_of_enter {s s1 : State} {mid a len : Nat} {g : AccOk} (read : State → List Byte × State)
    (hmute : s.mute mid = false) (hok : s.checkAccess mid 0 .R a len = .ok g)
    (hport : s.enter (whoOfMid mid) g.cls a ((len + 63) / 64) = (s1, true)) :
    s.masterRead mid a len read = { (read s1).2 with resp := (read s1).2.resp ++
      [{ who := whoOfMid mid, ctx := 0, code := 0, addr := a, data := clean (read s1).1 }] } := by
  rw [State.mute] at hmute
  simp [State.masterRead, hmute, hok, hport]

theorem exec_rcRegisterRead_missPeak {s s1 : State} {n : Fin 8} {mid : Mid} {a : W64} {g : AccOk} (hmute : s.mute mid.toNat = false)
    (hloc : s.isLocal a.toNat = true) (ha : addrOffset a.toNat = 0x103_0400_0000 + n.val * 0x1_0000)
    (hok : s.checkAccess mid.toNat 0 .R a.toNat 8 = .ok g)
    (hport : s.enter (whoOfMid mid.toNat) g.cls a.toNat 1 = (s1, true)) :
    exec (.rcRegisterRead mid a) s = .next { s1.updSlice n.val (fun k => { k with missPeak := 0 }) with resp := s1.resp ++ [
      { who := whoOfMid mid.toNat, ctx := 0, code := 0, addr := a.toNat,
        data := clean (leBytes 8 (s1.regImage (0x400_0000 + n.val * 0x1_0000)).toNat) }] } := by
  have hc : ctrlOf (addrOffset a.toNat) = some (0x400_0000 + n.val * 0x1_0000) := by
    rw [ha, ← ctrlOf_add (by omega)]
    congr 1
    omega
  have hrc : isRc (0x400_0000 + n.val * 0x1_0000) = true := by
    rw [isRc, decide_eq_true (by omega : _ ∧ _), Bool.true_and, Bool.or_eq_true, beq_iff_eq]
    omega
  have hword : (0x400_0000 + n.val * 0x1_0000) / 8 * 8 = 0x400_0000 + n.val * 0x1_0000 := by omega
  simp only [exec, execRcRegisterRead, hc, hloc, hrc, Bool.and_self, if_true, hword]
  rw [State.masterRead_of_enter _ hmute hok hport, State.ctrlRead_missPeak _ _ n.isLt]
  rfl

/-- Settles O35: a write goes to the one register that its offset names; the read clears MISS_PEAK. -/
theorem plainRegisterAccess : Obligations.PlainRegisterAccess := by
  refine ⟨?_, ?_⟩
  · intro s s1 w x h v
    have hsame := h.sameButRequests
    have exec_quota (n b : Nat) (hn : n < 90) (hb : b < 8) (hx : x.off = 0x103_0600_0010 + n * 0x1_0000 + b) :
        exec (.registerWrite w) s = .next (if (s.port n).lock then s1
          else s1.setPort n { s1.port n with quota := x.merge (s1.port n).quota }) := by
      rw [exec_registerWrite h (o := 0x600_0000 + n * 0x1_0000 + 0x10) (b := b) (by omega) hb (by omega)
        (ownRow_port hn (by decide)) (by omega), State.regWrite_port _ _ hn (by decide) rfl, State.portWrite_quota, hsame.lock]
    refine ⟨fun k b hk hb hx => ?_, fun k b hk hb hx => ?_, fun n b hn hb hx => ?_, fun n b hn hb hx hl => ?_,
      fun n b hn hb hx hl => ?_, fun t b ht hb hx => ?_, fun t o ht ho hx => ?_,
      fun b hb hx => exec_registerWrite_handVal h hb hx⟩
    · rw [exec_registerWrite h (o := 0x700_2000 + k * 0x1_0000) (b := b) (by omega) hb (by omega)
        (ownRow_table hk (.inl rfl)) (by omega),
        State.regWrite_tableLock _ _ hk, hsame.table]
    · rw [exec_registerWrite h (o := 0x700_2008 + k * 0x1_0000) (b := b) (by omega) hb (by omega)
        (ownRow_table hk (.inr rfl)) (by omega),
        State.regWrite_tableFlags _ _ hk, hsame.table]
      rfl
    · rw [exec_registerWrite h (o := 0x500_0028 + n * 0x1_0000) (b := b) (by omega) hb (by omega)
        (ownRow_stackPattern hn) (by omega),
        State.regWrite_stackPattern _ _ hn, hsame.stack]
    · rw [exec_quota n b hn hb hx, hl, if_neg Bool.false_ne_true]
    · rw [exec_quota n b hn hb hx, if_pos hl]
    · rw [exec_registerWrite h (o := t * 0x1_0000 + 0x400) (b := b) (by omega) hb (by omega)
        (ownRow_tile ht (by decide) rfl (by decide)) (by omega),
        State.regWrite_tile _ _ ht (by decide) rfl, State.tileRegWrite_arrFlags]
      rfl
    · rw [exec_registerWrite h (o := t * 0x1_0000 + o / 8 * 8) (b := o % 8) (by omega) (by omega) (by omega)
        (ownRow_tile ht (by omega) (by omega) (by omega)) (by omega),
        State.regWrite_tile _ _ ht (by omega) (by omega), State.tileRegWrite_readOnly _ _ _ (by omega)]
  · intro s s1 n mid ok hm hi hd a hloc ha hok hport
    rw [exec_rcRegisterRead_missPeak (State.mute_eq_false hm hi hd) hloc ha hok hport,
      ((s.enter_sameButRequests ..).of_eq hport).resp]

end Sys2Proof.Machine
end

section
/-! Loads, stores and instruction fetch of the control core (R119, R120, R124). -/

namespace Sys2Proof.Machine

/-- An immediate is the field at bit 0, sign-extended. -/
theorem insImm_eq_signExtend {n : Nat} (hn : 0 < n) (w : W32) : insImm n w = (w.extractLsb' 0 n).signExtend 64 := by
  have hpow : 2 ^ n = 2 * 2 ^ (n - 1) := by rw [← Nat.pow_succ', Nat.succ_eq_add_one, Nat.sub_add_cancel hn]
  have hsgn : (w.extractLsb' 0 n).toInt = sgn n w.toNat := by
    rw [BitVec.toInt_eq_toNat_cond, BitVec.extractLsb'_toNat, Nat.shiftRight_zero]
    unfold sgn
    push_cast
    split <;> split <;> omega
  rw [insImm, BitVec.signExtend, hsgn]

theorem State.memAddr_eq_signExtend (s : State) (t : Nat) (w : W32) :
    s.memAddr t w = (s.core t).reg (insRa w) + (w.extractLsb' 0 13).signExtend 64 := by
  rw [State.memAddr, insImm_eq_signExtend (by decide)]

/-- A line whose tag is good stays in the instruction cache. -/
theorem State.icTags_of_good {s : State} {t : Nat} (h : (s.core t).icPerr.contains ((s.core t).pc.toNat / 64) = false) :
    s.icTags t = s := by
  simp only [State.icTags, h, Bool.false_eq_true, if_false]

/-- The core that stands at a word of a command's class and function executes it. -/
theorem State.coreExec_of_coreAt {s : State} {t cls : Nat} {w : W32} {func : Option Nat} (body : State → W32 → State)
    (h : s.coreAt t w = true) (hcls : insClass w = cls) (hfunc : ∀ f, func = some f → insFunc w = f) :
    s.coreExec t cls func body = body s w := by
  simp only [State.coreAt, Bool.and_eq_true, Bool.not_eq_true', beq_iff_eq] at h
  obtain ⟨⟨⟨⟨⟨⟨hrun, hperr⟩, hword⟩, hbp⟩, hgen⟩, hdef⟩, hres⟩ := h
  obtain ⟨bs, hbs, hpair⟩ := Option.map_eq_some_iff.1 hword
  obtain ⟨rfl, hpoison⟩ := Prod.mk.inj hpair
  have hstop : (if (s.tile t).core.skipBp then none else (s.tile t).dbg.bpAt (s.tile t).core.pc) = none := by
    rcases Bool.or_eq_true_iff.1 hbp with hskip | hnone
    · exact if_pos hskip
    · exact (ite_congr rfl (fun _ => rfl) (fun _ => Option.isNone_iff_eq_none.1 hnone)).trans (ite_self _)
  rw [State.core] at hbs
  simp only [State.coreExec, State.icTags_of_good hperr, hbs, hstop, hrun, hgen, hdef, hpoison, hres]
  cases func with
  | none => simp [hcls]
  | some f => simp [hcls, hfunc f rfl]

section
variable {t : Fin 144} {s : State} {w : W32} {ok : AccOk} (hat : s.coreAt t.val w = true) (hcls : insClass w = 3)
  (halign : (s.memAddr t.val w).toNat % memSize (insFunc w) = 0)
include hat hcls halign

/-- An aligned load that passes its check is sent, and the core waits for it. -/
theorem exec_coreLoad (hfunc : insFunc w < 4)
    (hok : s.checkAccess t.val (s.ctxOf t.val) .R (s.memAddr t.val w).toNat (memSize (insFunc w)) = .ok ok) :
    exec (.coreLoad t) s = .next (
      let p := s.issue (newReq (.core t.val) (s.ctxOf t.val) .load (s.memAddr t.val w).toNat (memSize (insFunc w)) [] 0) ok
      p.1.coreWaits t.val (.load (insRd w) (memSize (insFunc w)) p.2)) := by
  simp only [exec, execCoreLoad]
  rw [State.coreExec_of_coreAt _ hat hcls (by simp), if_neg (by omega), if_neg (not_not_intro halign), hok]

/-- An aligned store that passes its check is posted, and the core goes on. -/
theorem exec_coreStore (hfunc : 4 ≤ insFunc w)
    (hok : s.checkAccess t.val (s.ctxOf t.val) .W (s.memAddr t.val w).toNat (memSize (insFunc w)) = .ok ok) :
    exec (.coreStore t) s = .next ((s.issue (newReq (.core t.val) (s.ctxOf t.val) .store (s.memAddr t.val w).toNat (memSize (insFunc w))
      (clean (leBytes (memSize (insFunc w)) ((s.core t.val).reg (insRd w)).toNat)) 0) ok).1.coreNext t.val ((s.core t.val).pc + 4)) := by
  simp only [exec, execCoreStore]
  rw [State.coreExec_of_coreAt _ hat hcls (by simp), if_neg (by omega), if_neg (not_not_intro halign), hok]

end

/-- Only a request on its way to its home is performed as a read of registers. -/
theorem State.performReg_of_not_sent {s : State} {id : Nat} {r : Req} (hreq : s.findReq id = some r) (hst : (r.st == .sent) = false) :
    s.performReg id = s := by
  simp [State.performReg, hreq, hst]

/-- The unpoisoned data of the load that the core waits for ends the wait. -/
theorem exec_coreLoadReturn {t : Fin 144} {s : State} {rd size id : Nat} {r : Req} (hwait : (s.core t.val).wait = some (.load rd size id))
    (hreq : s.findReq id = some r) (hst : r.st = .done) (hclean : poisoned r.data = false) :
    exec (.coreLoadReturn t) s = .next (((s.dropReq id).updCore t.val (fun c =>
      c.endWait rd (BitVec.ofNat 64 (leNat ((vals r.data).take size))))).coreDone t.val) := by
  have hreg : s.performReg id = s := State.performReg_of_not_sent hreq (by rw [hst]; rfl)
  simp [exec, execCoreLoadReturn, hwait, hreg, hreq, hst, hclean]

/-- A line that the fetch at the PC has brought enters the instruction cache. -/
theorem exec_insnFetchReturn {t : Fin 144} {s s' : State} {bs : List PByte} (hrun : (s.tile t.val).coreRuns = true)
    (hmiss : cachedWord (s.core t.val).icache (s.core t.val).pc = none)
    (hgood : (s.core t.val).icPerr.contains ((s.core t.val).pc.toNat / 64) = false)
    (hbp : (s.dbg t.val).bpAt (s.core t.val).pc = none)
    (hread : s.directRead (.core t.val) (s.tile t.val).ctx .X ((s.core t.val).pc.toNat / 64 * 64) 64 0 = (s', .bytes bs)) :
    exec (.insnFetchReturn t) s = .next (s'.updCore t.val (fun c =>
      { c with icache := SMap.put c.icache ((s.core t.val).pc.toNat / 64) bs })) := by
  simp only [exec, execInsnFetchReturn, State.icTags_of_good hgood]
  simp only [State.core, State.dbg] at hmiss hbp hread ⊢
  simp [hrun, hmiss, hbp, hread]

/-- Settles O9: a word that passes its checks acts at its address; what returns ends the wait or fills the cache. -/
theorem coreMemoryAccess : Obligations.CoreMemoryAccess := by
  intro t s
  refine ⟨fun w ok hat hcls halign => ?_, fun rd size id r => exec_coreLoadReturn, fun bs s' => exec_insnFetchReturn⟩
  simp only [← State.memAddr_eq_signExtend] at halign ⊢
  exact ⟨exec_coreLoad hat hcls halign, exec_coreStore hat hcls halign⟩

end Sys2Proof.Machine
end

section
/-! Scratch, tile store windows and reductions (R36, R232, R254, R255): the request that a home performs, what the memory's accounts
leave as it was, then what each kind of access does. -/

namespace Sys2Proof

theorem SMap.find_put_ne {α : Type} (m : SMap α) {k i : Nat} (v : α) (h : i ≠ k) :
    SMap.find (SMap.put m k v) i = SMap.find m i := by
  induction m with
  | nil => simp [SMap.put, SMap.find, h]
  | cons p m ih =>
    obtain ⟨j, w⟩ := p
    simp only [SMap.put]
    split
    · by_cases hik : i < k
      · have hij : i < j := by omega
        simp [SMap.find, h, hik, hij, Nat.ne_of_lt hij]
      · simp [SMap.find, h, hik]
    · split
      · subst_vars
        simp [SMap.find, h]
      · simp [SMap.find, ih]

namespace Machine

/-! Requests by their numbers. -/

section
variable {s s' : State} {id : Nat} {r : Req}

theorem State.findReq_congr (h : s'.reqs = s.reqs) (id : Nat) : s'.findReq id = s.findReq id := by
  rw [State.findReq, h, State.findReq]

theorem State.id_of_findReq (h : s.findReq id = some r) : r.id = id := by
  simpa using List.find?_some h

theorem State.findReq_updReq (h : s.findReq id = some r) {f : Req → Req} (hf : ∀ x, (f x).id = x.id) :
    (s.updReq id f).findReq id = some (f r) := by
  have hsame : (fun x : Req => x.id == id) ∘ (fun x => if x.id == id then f x else x) = fun x => x.id == id := by
    funext x
    dsimp only [Function.comp]
    split
    · rw [hf]
    · rfl
  rw [State.findReq, State.updReq, List.find?_map, hsame, ← State.findReq, h, Option.map_some, State.id_of_findReq h, beq_self_eq_true,
    if_pos rfl]

@[simp] theorem State.findReq_dropReq (s : State) (id : Nat) : (s.dropReq id).findReq id = none := by
  simp [State.findReq, State.dropReq]

@[simp] theorem State.portPass_reqs (s : State) (n m cls units : Nat) : (s.portPass n m cls units).1.reqs = s.reqs := by
  unfold State.portPass
  dsimp only
  split
  · rfl
  · split <;> rfl

/-- At its port a request is given the marks of its admission, and nothing else. -/
theorem State.findReq_of_atPort (h : s.findReq id = some r) (hport : s.atPort id = (s', true)) :
    ∃ adm acc, s'.findReq id = some { r with adm := adm, acc := acc } := by
  simp only [State.atPort, h] at hport
  split at hport
  · obtain ⟨rfl, -⟩ := Prod.mk.inj hport
    exact ⟨r.adm, r.acc, h⟩
  split at hport
  · simp at hport
  split at hport
  · simp at hport
  next n _ =>
    have hreqs := s.portPass_reqs n r.who.mid r.cls (reqUnits r)
    rcases hpass : s.portPass n r.who.mid r.cls (reqUnits r) with ⟨s2, here⟩
    rw [hpass] at hreqs
    have hreq : s2.findReq id = some r := (State.findReq_congr hreqs id).trans h
    cases hheld : s.bundleHeld r.who.mid r.addr with
    | true => simp [hheld] at hport
    | false =>
      cases here with
      | false => simp [hheld, hpass] at hport
      | true =>
        simp only [hheld, hpass, Bool.false_eq_true, if_false, if_true, Prod.mk.injEq, and_true] at hport
        rw [← hport]
        exact ⟨_, _, State.findReq_updReq hreq (fun _ => rfl)⟩

/-- A command's request stands in the list; but for HBM it is at a local home of the region. -/
theorem State.reqAt_eq_some {g : MapRegion} {p : RKind → Bool} (h : s.reqAt id g p = some r) (hg : g ≠ .hbm) :
    s.findReq id = some r ∧ regionOf (addrOffset r.addr) = some g := by
  rw [State.reqAt] at h
  split at h
  · next x hx =>
    split at h
    · next hc =>
      obtain rfl := Option.some.inj h
      simp only [Bool.and_eq_true, Bool.or_eq_true, beq_iff_eq, hg, false_and, or_false] at hc
      obtain ⟨⟨⟨⟨⟨-, -, hregion⟩, -⟩, -⟩, -⟩, -⟩ := hc
      exact ⟨hx, hregion⟩
    · cases h
  · cases h

/-- A request that its port lets in is served. -/
theorem State.served_of_atPort (k : State → State) (hid : r.id = id) (hport : s.atPort id = (s', true)) : s.served r k = k s' := by
  simp [State.served, hid, hport]

end

namespace State.SameButRequests

variable {s s' : State} (h : s.SameButRequests s')
include h

theorem mem : s'.mem = s.mem := by rw [← h.frame]
theorem tiles : s'.tiles = s.tiles := by rw [← h.frame]
theorem od : s'.od = s.od := by rw [← h.frame]
theorem bank (n : Nat) : s'.bank n = s.bank n := by rw [State.bank, h.bed, State.bank]

end State.SameButRequests

/-! What the end of a load leaves: it touches the slices' streams and lines only (R249, R258). -/

section
variable {α : Type} (f : State → α) (hf : ∀ (s : State) (n : Nat) (k : Slice), f (s.setSlice n k) = f s)
include hf

theorem State.deadMark_keeps (s : State) (n L : Nat) (remote : Bool) (hint : Nat) : f (s.deadMark n L remote hint) = f s := by
  simp only [State.deadMark]
  split
  · rfl
  split
  · rfl
  split
  · exact hf ..
  split
  · exact hf ..
  · exact hf ..

theorem State.streamRead_keeps (s : State) (t addr : Nat) : f (s.streamRead t addr) = f s := by
  refine List.foldlRecOn (motive := fun s' : State => f s' = f s) _ _ rfl (fun s' hs' h _ => ?_)
  dsimp only
  split
  · exact hs'
  split
  · exact hs'
  have hmarked {c : Prop} [Decidable c] (k : Slice) (L hint : Nat) (remote : Bool) :
      f (if c then (s'.setSlice (sectorOf t) k).deadMark (sliceOf L) L remote hint else s'.setSlice (sectorOf t) k) = f s := by
    split
    · rw [State.deadMark_keeps f hf, hf, hs']
    · rw [hf, hs']
  split
  · exact (hf ..).trans (hmarked ..)
  · exact hmarked ..

end

/-! What the accounts of corrections and errors in Bedrock and in the tile stores leave (R294, R295, R302). -/

section
variable {α : Type} (f : State → α)

section
variable (hrec : ∀ (s : State) (r : Rec), f (s.report r) = f s) (hcount : ∀ s : State, f (s.odInc 0x2D00 3) = f s)
include hrec hcount

theorem State.ceOverflow_keeps (s : State) (layer source : Nat) : f (s.ceOverflow layer source) = f s := by
  rw [State.ceOverflow, hrec, hcount]

theorem State.eccEvent_bed_keeps (hslice : ∀ (s : State) (n : Nat) (k : Slice), f (s.setSlice n k) = f s) (s : State) (a : Nat)
    (w : W32) (e : EccEvent) : f (s.eccEvent (.bed a) w e) = f s := by
  simp only [State.eccEvent]
  split
  · rw [State.ueRec, hrec, State.updSlice, hslice]
  · simp only [State.bedCe]
    split
    · rw [State.ceOverflow_keeps f hrec hcount, hslice]
    · rw [hslice]

theorem State.eccEvent_store_keeps (hdbg : ∀ (s : State) (t : Nat) (g : Dbg → Dbg), f (s.updDbg t g) = f s)
    (hbed : ∀ (s : State) (b : Bed), f { s with bed := b } = f s) (s : State) (t a : Nat) (w : W32) (e : EccEvent) :
    f (s.eccEvent (.store t a) w e) = f s := by
  simp only [State.eccEvent]
  split
  · rw [State.ueRec, hrec, hdbg]
  · simp only [State.lfCe]
    split
    · rw [State.ceOverflow_keeps f hrec hcount, hdbg, hbed]
    · rw [hdbg, hbed]

end

theorem State.quiet_of_ne_hbm (s : State) {pl : Place} (hpl : ∀ a, pl ≠ .hbm a) : s.quiet pl = true := by
  cases pl with
  | hbm a => exact absurd rfl (hpl a)
  | _ => rfl

theorem State.wake_of_ne_hbm (s : State) {pl : Place} (hpl : ∀ a, pl ≠ .hbm a) : s.wake pl = s := by
  cases pl with
  | hbm a => exact absurd rfl (hpl a)
  | _ => rfl

section
variable {pl : Place} {w : W32} (hpl : ∀ a, pl ≠ .hbm a) (hevent : ∀ (s : State) (e : EccEvent), f (s.eccEvent pl w e) = f s)
  (hmem : ∀ (s : State) (m : EccMem), f (s.setMem pl m) = f s)

include hevent in
theorem State.eccEvents_keep (s : State) (es : List EccEvent) : f (es.foldl (fun s e => s.eccEvent pl w e) s) = f s :=
  List.foldlRecOn (motive := fun s' : State => f s' = f s) _ _ rfl (fun s' hs' e _ => (hevent s' e).trans hs')

include hpl hevent hmem

theorem State.memRead_keeps (s : State) (len : Nat) : f (s.memRead pl len w).2 = f s := by
  rw [State.memRead, State.beforeRead_quiet _ _ _ _ (s.quiet_of_ne_hbm hpl), s.wake_of_ne_hbm hpl]
  exact (State.eccEvents_keep f hevent ..).trans (hmem ..)

theorem State.memWrite_keeps (s : State) (us : List (Option PByte)) : f (s.memWrite pl us w) = f s := by
  rw [State.memWrite, State.beforeWrite_quiet _ _ _ _ (s.quiet_of_ne_hbm hpl), s.wake_of_ne_hbm hpl]
  exact (State.eccEvents_keep f hevent ..).trans (hmem ..)

end

end

section
variable {s : State} {pl : Place} (hpl : ∀ a, pl ≠ .hbm a)

theorem State.setMem_reqs (s : State) (pl : Place) (m : EccMem) : (s.setMem pl m).reqs = s.reqs := by cases pl <;> rfl

include hpl

theorem State.eccEvent_reqs (w : W32) (s : State) (e : EccEvent) : (s.eccEvent pl w e).reqs = s.reqs := by
  cases pl with
  | hbm a => exact absurd rfl (hpl a)
  | bed a => exact State.eccEvent_bed_keeps State.reqs State.report_reqs (fun _ => State.odInc_reqs ..) (fun _ _ _ => rfl) ..
  | store t a =>
    exact State.eccEvent_store_keeps State.reqs State.report_reqs (fun _ => State.odInc_reqs ..) (fun _ _ _ => rfl) (fun _ _ => rfl) ..

theorem State.memRead_reqs (len : Nat) (w : W32) : (s.memRead pl len w).2.reqs = s.reqs :=
  State.memRead_keeps State.reqs hpl (State.eccEvent_reqs hpl w) (State.setMem_reqs · pl ·) ..

theorem State.memWrite_reqs (us : List (Option PByte)) (w : W32) : (s.memWrite pl us w).reqs = s.reqs :=
  State.memWrite_keeps State.reqs hpl (State.eccEvent_reqs hpl w) (State.setMem_reqs · pl ·) ..

end

section
variable (s : State) (a : Nat)

theorem State.eccEvent_bed_tiles (w : W32) (e : EccEvent) : (s.eccEvent (.bed a) w e).tiles = s.tiles :=
  State.eccEvent_bed_keeps State.tiles State.report_tiles (fun _ => State.odInc_tiles ..) (fun _ _ _ => rfl) ..

theorem State.memRead_bed_tiles (len : Nat) (w : W32) : (s.memRead (.bed a) len w).2.tiles = s.tiles :=
  State.memRead_keeps State.tiles (by simp) (State.eccEvent_bed_tiles · a w) (fun _ _ => rfl) ..

theorem State.memWrite_bed_tiles (us : List (Option PByte)) (w : W32) : (s.memWrite (.bed a) us w).tiles = s.tiles :=
  State.memWrite_keeps State.tiles (by simp) (State.eccEvent_bed_tiles · a w) (fun _ _ => rfl) ..

end

/-! The objects of the dictionary by their keys, and the scale of FXADD (R254). -/

theorem State.odGet_odInc_ne (s : State) {i j i' j' : Nat} (h : odKey i j ≠ odKey i' j') :
    (s.odInc i' j').odGet i j = s.odGet i j := by
  simp only [State.odInc, State.odSet, State.odGet, SMap.find_put_ne _ _ h]

theorem State.odGet_report_ne (s : State) (r : Rec) {i j : Nat} (h : odKey i j ≠ odKey 0x2D00 0x10) :
    (s.report r).odGet i j = s.odGet i j := by
  simp only [State.report]
  split
  · split
    · exact State.odGet_odInc_ne s h
    · rfl
  · split
    · exact State.odGet_odInc_ne s h
    · rfl

theorem le_of_redSizes {fmt : Nat} {p : Nat × Nat} (h : redSizes fmt = some p) : fmt ≤ 11 := by
  unfold redSizes at h
  grind

theorem State.redScale_congr {s s' : State} {fmt : Nat}
    (h : s'.odGet 0x2400 (0x10 + (fmt - 8)) = s.odGet 0x2400 (0x10 + (fmt - 8))) : s'.redScale fmt = s.redScale fmt := by
  rw [State.redScale, State.odNat, h, ← State.odNat, ← State.redScale]

/-- No correction in Bedrock changes a scale: its counts stand in another object. -/
theorem State.memRead_bed_redScale (s : State) (a len : Nat) (w : W32) {fmt : Nat} (hfmt : fmt ≤ 11) :
    (s.memRead (.bed a) len w).2.redScale fmt = s.redScale fmt := by
  have hkey (j : Nat) (hj : j < 256) : odKey 0x2400 (0x10 + (fmt - 8)) ≠ odKey 0x2D00 j := by
    unfold odKey
    omega
  have hevent (s : State) (e : EccEvent) : (s.eccEvent (.bed a) w e).redScale fmt = s.redScale fmt :=
    State.eccEvent_bed_keeps (State.redScale · fmt)
      (fun s r => State.redScale_congr (s.odGet_report_ne r (hkey _ (by decide))))
      (fun s => State.redScale_congr (s.odGet_odInc_ne (hkey _ (by decide)))) (fun _ _ _ => rfl) s a w e
  exact State.memRead_keeps (State.redScale · fmt) (by simp) hevent (fun _ _ => rfl) s len

/-! The end of a request. -/

section
variable {s : State} {id : Nat} {r : Req} (hreq : s.findReq id = some r)
include hreq

/-- The data of a core's load waits for the core; the streams that its tile has joined advance. -/
theorem State.finishReq_coreLoad {t : Nat} (hkind : r.kind = .load) (hwho : r.who = .core t) (data : List PByte) :
    s.finishReq id data = (s.updReq id (fun r => { r with st := .done, data := data })).streamRead t r.addr := by
  simp [State.finishReq, hreq, hkind, hwho, Who.tile]

theorem State.finishReq_of_ne_load (hkind : r.kind ≠ .load) (data : List PByte) : s.finishReq id data = s.dropReq id := by
  simp only [State.finishReq, hreq]
  split
  · exact absurd ‹_› hkind
  · exact absurd ‹_› hkind
  · exact absurd ‹_› hkind
  · rfl

end

/-! Reductions (R254, R255, R298). -/

/-- The bytes that a reduction writes back: those of its targets. -/
def targetBytes (offs : List Nat) (tz : Nat) (bs : List PByte) : List (Option PByte) :=
  (List.range bs.length).map (fun i => if offs.any (fun o => decide (o ≤ i ∧ i < o + tz)) then bs[i]? else none)

theorem State.redRecs_keeps {α : Type} (f : State → α) (hrec : ∀ (s : State) (r : Rec), f (s.report r) = f s)
    (hcount : ∀ s : State, f (s.odInc 0x2400 0x15) = f s) (s : State) (r : Req) (offs : List Nat) (nf : List Bool) :
    f (s.redRecs r offs nf) = f s := by
  refine List.foldlRecOn (motive := fun s' : State => f s' = f s) _ _ rfl (fun s' hs' e _ => ?_)
  split
  · rw [hrec, hcount, hs']
  · exact hs'

/-- The target bytes are read, the elements applied, the targets written back. -/
theorem State.redAt_eq (s : State) (pl : Place) (r : Req) {fmt os tz : Nat} (hsizes : redSizes fmt = some (os, tz)) :
    s.redAt pl r fmt =
      let rd := s.memRead pl (r.redSpan fmt) (r.who.waiter 0)
      let res := redApply fmt (rd.2.redScale fmt) os tz (r.targets os tz) rd.1 r.data
      (rd.2.memWrite pl (targetBytes (r.targets os tz) tz res.1) (r.who.waiter 0)).redRecs r (r.targets os tz) res.2 := by
  simp only [State.redAt, hsizes, targetBytes]

theorem State.redAt_keeps {α : Type} (f : State → α) {pl : Place} {r : Req}
    (hread : ∀ (s : State) (len : Nat) (w : W32), f (s.memRead pl len w).2 = f s)
    (hwrite : ∀ (s : State) (us : List (Option PByte)) (w : W32), f (s.memWrite pl us w) = f s)
    (hrec : ∀ (s : State) (r : Rec), f (s.report r) = f s) (hcount : ∀ s : State, f (s.odInc 0x2400 0x15) = f s)
    (s : State) (fmt : Nat) : f (s.redAt pl r fmt) = f s := by
  rcases hsizes : redSizes fmt with _ | ⟨os, tz⟩
  · simp only [State.redAt, hsizes]
  · rw [State.redAt_eq s pl r hsizes]
    dsimp only
    rw [State.redRecs_keeps f hrec hcount, hwrite, hread]

theorem State.redAt_reqs {s : State} {pl : Place} (hpl : ∀ a, pl ≠ .hbm a) (r : Req) (fmt : Nat) : (s.redAt pl r fmt).reqs = s.reqs :=
  State.redAt_keeps State.reqs (fun _ => State.memRead_reqs hpl) (fun _ => State.memWrite_reqs hpl) State.report_reqs
    (fun _ => State.odInc_reqs ..) s fmt

theorem State.redAt_bed_tiles (s : State) (a : Nat) (r : Req) (fmt : Nat) : (s.redAt (.bed a) r fmt).tiles = s.tiles :=
  State.redAt_keeps State.tiles (State.memRead_bed_tiles · a) (State.memWrite_bed_tiles · a) State.report_tiles
    (fun _ => State.odInc_tiles ..) s fmt

/-- Of a reduction in Bedrock the memory keeps the corrections of the read and the targets written back. -/
theorem State.redAt_bed_mem (s : State) (a : Nat) (r : Req) {fmt os tz : Nat} (hsizes : redSizes fmt = some (os, tz)) :
    let rd := s.mem.bed.read a (r.redSpan fmt)
    (s.redAt (.bed a) r fmt).mem = { s.mem with bed := (rd.2.1.writeMasked a (targetBytes (r.targets os tz) tz
      (redApply fmt (s.redScale fmt) os tz (r.targets os tz) rd.1 r.data).1)).1 } := by
  have hread := s.memRead_mem (.bed a) (r.redSpan fmt) (r.who.waiter 0) rfl
  have hbytes := s.memRead_bytes (.bed a) (r.redSpan fmt) (r.who.waiter 0) rfl
  simp only [State.memAt, Place.addr, State.setMem] at hread hbytes
  rw [State.redAt_eq s _ r hsizes]
  dsimp only
  rw [State.redRecs_keeps State.mem State.report_mem (fun _ => State.odInc_mem ..), State.memWrite_mem _ _ _ _ rfl,
    State.memRead_bed_redScale _ _ _ _ (le_of_redSizes hsizes), hbytes]
  simp only [State.memAt, Place.addr, State.setMem, hread]

/-! A place that no cache stands before. -/

section
variable {s : State} {r r1 : Req} {pl : Place} (hplace : s.placeOf (addrOffset r.addr) = some pl) (hpl : ∀ a, pl ≠ .hbm a)
  (hreq : s.findReq r.id = some r1) (hkind : r1.kind = r.kind)
include hplace hpl hreq hkind

/-- A core's load returns the bytes read, and corrections in place are all that it writes. -/
theorem State.performPlace_coreLoad {t : Nat} (hload : r.kind = .load) (hwho : r1.who = .core t) :
    (s.performPlace r).findReq r.id = some { r1 with st := .done, data := ((s.memAt pl).read pl.addr r.len).1 } ∧
    (s.performPlace r).mem = (s.setMem pl ((s.memAt pl).read pl.addr r.len).2.1).mem ∧
    (s.performPlace r).tiles = (s.memRead pl r.len (r.who.waiter 0)).2.tiles := by
  have hread : (s.memRead pl r.len (r.who.waiter 0)).2.findReq r.id = some r1 :=
    (State.findReq_congr (State.memRead_reqs hpl ..) _).trans hreq
  have hend : s.performPlace r = ((s.memRead pl r.len (r.who.waiter 0)).2.updReq r.id (fun x =>
      { x with st := .done, data := ((s.memAt pl).read pl.addr r.len).1 })).streamRead t r1.addr := by
    rw [← State.memRead_bytes s pl r.len (r.who.waiter 0) (s.quiet_of_ne_hbm hpl),
      ← State.finishReq_coreLoad hread (hkind.trans hload) hwho]
    simp [State.performPlace, hplace, hload]
  rw [hend]
  refine ⟨?_, ?_, ?_⟩
  · rw [State.findReq_congr (State.streamRead_keeps State.reqs (fun _ _ _ => rfl) ..)]
    exact State.findReq_updReq hread (fun _ => rfl)
  · rw [State.streamRead_keeps State.mem (fun _ _ _ => rfl), State.updReq_mem, State.memRead_mem _ _ _ _ (s.quiet_of_ne_hbm hpl)]
  · rw [State.streamRead_keeps State.tiles (fun _ _ _ => rfl), State.updReq_tiles]

/-- A store writes its bytes and ends. -/
theorem State.performPlace_store (hstore : r.kind = .store) :
    s.performPlace r = (s.memWrite pl (maskBytes r.data r.mask) (r.who.waiter 0)).dropReq r.id := by
  have hwrite : (s.memWrite pl (maskBytes r.data r.mask) (r.who.waiter 0)).findReq r.id = some r1 :=
    (State.findReq_congr (State.memWrite_reqs hpl ..) _).trans hreq
  rw [← State.finishReq_of_ne_load hwrite (by simp [hkind, hstore]) []]
  simp [State.performPlace, hplace, hstore]

/-- A reduction is performed in one step and ends. -/
theorem State.performPlace_red {fmt : Nat} (hred : r.kind = .red fmt) :
    s.performPlace r = (s.redAt pl r fmt).dropReq r.id := by
  have hdone : (s.redAt pl r fmt).findReq r.id = some r1 := (State.findReq_congr (State.redAt_reqs hpl r fmt) _).trans hreq
  rw [← State.finishReq_of_ne_load hdone (by simp [hkind, hred]) []]
  simp [State.performPlace, hplace, hred]

end

/-! The commands: each finds its request at the home, passes its port and performs it. -/

section
variable {s : State} {off : Nat}

theorem State.placeOf_scratch (h : regionOf off = some .scratch) :
    s.placeOf off = some (.bed (scratchPhys s.bed.nb (off - 0x100_0000_0000))) := by
  simp only [State.placeOf, h]

theorem State.placeOf_store (h : regionOf off = some .store) :
    s.placeOf off = some (.store ((off - 0x101_0000_0000) / 0x80_0000) ((off - 0x101_0000_0000) % 0x80_0000)) := by
  simp only [State.placeOf, h]

/-- Scratch is accessed once its bank is open; the bank then serves the request no more. -/
theorem State.performScratch_of_open {r : Req} (h : s.bankOpen (s.bankOf (addrOffset r.addr)) = true) :
    s.performScratch r = (s.performPlace r).updBank (s.bankOf (addrOffset r.addr)) (fun k => { k with serve := without k.serve r.id }) := by
  simp only [State.performScratch, h, if_true]

end

section
variable {s s1 : State} (h : s.SameButRequests s1)
include h

theorem State.SameButRequests.bankOf (off : Nat) : s1.bankOf off = s.bankOf off := by rw [State.bankOf, h.bed, State.bankOf]
theorem State.SameButRequests.bankOpen (b : Nat) : s1.bankOpen b = s.bankOpen b := by rw [State.bankOpen, h.bank, State.bankOpen]
theorem State.SameButRequests.redScale (fmt : Nat) : s1.redScale fmt = s.redScale fmt := by
  refine State.redScale_congr ?_
  rw [State.odGet, h.od, State.odGet]

end

/-! The same of a request at a command's home: what its port left is all that the place sees of it. -/

section
variable {s s1 : State} {id : Nat} {g : MapRegion} {p : RKind → Bool} {r : Req} (hg : g ≠ .hbm) (hat : s.reqAt id g p = some r)
  (hport : s.atPort id = (s1, true))
include hat hport

theorem State.served_of_reqAt (hg : g ≠ .hbm) (k : State → State) : s.served r k = k s1 :=
  State.served_of_atPort k (State.id_of_findReq (State.reqAt_eq_some hat hg).1) hport

include hg

theorem State.findReq_of_reqAt : r.id = id ∧ ∃ r1, s1.findReq id = some r1 ∧ r1.kind = r.kind ∧ r1.who = r.who := by
  obtain ⟨hreq, -⟩ := State.reqAt_eq_some hat hg
  obtain ⟨adm, acc, hreq1⟩ := State.findReq_of_atPort hreq hport
  exact ⟨State.id_of_findReq hreq, _, hreq1, rfl, rfl⟩

end

section
variable {s s1 : State} {id : Nat} {p : RKind → Bool} {r : Req} (hport : s.atPort id = (s1, true))
include hport

section
variable (hat : s.reqAt id .scratch p = some r)
include hat

theorem State.placeOf_reqAt_scratch :
    s1.placeOf (addrOffset r.addr) = some (.bed (scratchPhys s.bed.nb (addrOffset r.addr - 0x100_0000_0000))) := by
  rw [State.placeOf_scratch (State.reqAt_eq_some hat (by decide)).2, ((s.atPort_sameButRequests id).of_eq hport).bed]

theorem State.served_scratch (hopen : s.bankOpen (s.bankOf (addrOffset r.addr)) = true) :
    s.served r (fun s => s.performScratch r) =
      (s1.performPlace r).updBank (s.bankOf (addrOffset r.addr)) (fun k => { k with serve := without k.serve r.id }) := by
  have hsame : s.SameButRequests s1 := (s.atPort_sameButRequests id).of_eq hport
  rw [← hsame.bankOf, ← hsame.bankOpen] at hopen
  rw [State.served_of_reqAt hat hport (by decide), State.performScratch_of_open hopen, hsame.bankOf]

end
end

theorem exec_scratchAccess {s : State} {id : Nat} {r : Req}
    (hat : s.reqAt id .scratch (fun k => !k.isRed && k != .ctrInc) = some r) :
    exec (.scratchAccess id) s = .next (s.served r (fun s => s.performScratch r)) := by
  simp only [exec, execScratchAccess, hat]

theorem exec_tileStoreWindowAccess {s : State} {id : Nat} {r : Req}
    (hat : s.reqAt id .store (fun k => !k.isRed && k != .ctrInc) = some r) :
    exec (.tileStoreWindowAccess id) s = .next (s.served r (fun s => s.performPlace r)) := by
  simp only [exec, execTileStoreWindowAccess, hat]

theorem exec_addToLine_scratch {s : State} {id : Nat} {r : Req} (hhbm : s.reqAt id .hbm RKind.isRed = none)
    (hat : s.reqAt id .scratch RKind.isRed = some r) :
    exec (.addToLine id) s = .next (s.served r (fun s => s.performScratch r)) := by
  simp only [exec, execAddToLine, hhbm, hat]

section
variable {s s1 : State} {id : Nat} {r r1 : Req} (hport : s.atPort id = (s1, true))
include hport

section
variable {a : Nat} (hplace : s1.placeOf (addrOffset r.addr) = some (.bed a))
  (hopen : s.bankOpen (s.bankOf (addrOffset r.addr)) = true)
include hplace hopen

section
variable (hat : s.reqAt id .scratch (fun k => !k.isRed && k != .ctrInc) = some r)
include hat

theorem exec_scratchAccess_load {t : Nat} (hreq1 : s1.findReq id = some r1) (hwho : r.who = .core t) (hload : r.kind = .load) :
    ∃ s', exec (.scratchAccess id) s = .next s' ∧
      s'.findReq id = some { r1 with st := .done, data := (s.mem.bed.read a r.len).1 } ∧
      s'.mem = { s.mem with bed := (s.mem.bed.read a r.len).2.1 } ∧ s'.tiles = s.tiles := by
  have hsame : s.SameButRequests s1 := (s.atPort_sameButRequests id).of_eq hport
  obtain ⟨rfl, r1', hreq1', hkind, hwho1⟩ := State.findReq_of_reqAt (by decide) hat hport
  obtain rfl := Option.some.inj (hreq1.symm.trans hreq1')
  obtain ⟨hdone, hmem, htiles⟩ := State.performPlace_coreLoad hplace (by simp) hreq1 hkind hload (hwho1.trans hwho)
  simp only [State.memAt, Place.addr, State.setMem, hsame.mem] at hdone hmem
  rw [State.memRead_bed_tiles, hsame.tiles] at htiles
  rw [exec_scratchAccess hat, State.served_scratch hport hat hopen]
  exact ⟨_, rfl, (State.findReq_congr (State.updBank_reqs ..) _).trans hdone, (State.updBank_mem ..).trans hmem,
    (State.updBank_tiles ..).trans htiles⟩

theorem exec_scratchAccess_store (hstore : r.kind = .store) :
    ∃ s', exec (.scratchAccess id) s = .next s' ∧ s'.findReq id = none ∧
      s'.mem = { s.mem with bed := (s.mem.bed.writeMasked a (maskBytes r.data r.mask)).1 } ∧ s'.tiles = s.tiles := by
  have hsame : s.SameButRequests s1 := (s.atPort_sameButRequests id).of_eq hport
  obtain ⟨rfl, r1, hreq1, hkind, -⟩ := State.findReq_of_reqAt (by decide) hat hport
  rw [exec_scratchAccess hat, State.served_scratch hport hat hopen, State.performPlace_store hplace (by simp) hreq1 hkind hstore]
  refine ⟨_, rfl, (State.findReq_congr (State.updBank_reqs ..) _).trans (State.findReq_dropReq ..), ?_, ?_⟩
  · rw [State.updBank_mem, State.dropReq_mem, State.memWrite_mem _ _ _ _ rfl]
    simp only [State.memAt, Place.addr, State.setMem, hsame.mem]
  · rw [State.updBank_tiles, State.dropReq_tiles, State.memWrite_bed_tiles, hsame.tiles]

end

theorem exec_addToLine_red {fmt os tz : Nat} (hhbm : s.reqAt id .hbm RKind.isRed = none)
    (hat : s.reqAt id .scratch RKind.isRed = some r) (hred : r.kind = .red fmt) (hsizes : redSizes fmt = some (os, tz)) :
    let rd := s.mem.bed.read a (r.redSpan fmt)
    ∃ s', exec (.addToLine id) s = .next s' ∧ s'.findReq id = none ∧
      s'.mem = { s.mem with bed := (rd.2.1.writeMasked a (targetBytes (r.targets os tz) tz
        (redApply fmt (s.redScale fmt) os tz (r.targets os tz) rd.1 r.data).1)).1 } ∧ s'.tiles = s.tiles := by
  have hsame : s.SameButRequests s1 := (s.atPort_sameButRequests id).of_eq hport
  obtain ⟨rfl, r1, hreq1, hkind, -⟩ := State.findReq_of_reqAt (by decide) hat hport
  rw [exec_addToLine_scratch hhbm hat, State.served_scratch hport hat hopen, State.performPlace_red hplace (by simp) hreq1 hkind hred]
  refine ⟨_, rfl, (State.findReq_congr (State.updBank_reqs ..) _).trans (State.findReq_dropReq ..), ?_, ?_⟩
  · rw [State.updBank_mem, State.dropReq_mem, State.redAt_bed_mem _ _ _ hsizes, hsame.mem, hsame.redScale]
  · rw [State.updBank_tiles, State.dropReq_tiles, State.redAt_bed_tiles, hsame.tiles]

end

section
variable {u o : Nat} (hplace : s1.placeOf (addrOffset r.addr) = some (.store u o))
  (hat : s.reqAt id .store (fun k => !k.isRed && k != .ctrInc) = some r)
include hplace hat

theorem exec_tileStoreWindowAccess_load {t : Nat} (hreq1 : s1.findReq id = some r1) (hwho : r.who = .core t) (hload : r.kind = .load) :
    let rd := (SMap.get EccMem.swept s.mem.stores u).read o r.len
    ∃ s', exec (.tileStoreWindowAccess id) s = .next s' ∧ s'.findReq id = some { r1 with st := .done, data := rd.1 } ∧
      s'.mem = { s.mem with stores := SMap.write EccMem.swept s.mem.stores u rd.2.1 } := by
  have hsame : s.SameButRequests s1 := (s.atPort_sameButRequests id).of_eq hport
  obtain ⟨rfl, r1', hreq1', hkind, hwho1⟩ := State.findReq_of_reqAt (by decide) hat hport
  obtain rfl := Option.some.inj (hreq1.symm.trans hreq1')
  obtain ⟨hdone, hmem, -⟩ := State.performPlace_coreLoad hplace (by simp) hreq1 hkind hload (hwho1.trans hwho)
  simp only [State.memAt, Place.addr, State.setMem, hsame.mem] at hdone hmem
  rw [exec_tileStoreWindowAccess hat, State.served_of_reqAt hat hport (by decide)]
  exact ⟨_, rfl, hdone, hmem⟩

theorem exec_tileStoreWindowAccess_store (hstore : r.kind = .store) :
    let m := SMap.get EccMem.swept s.mem.stores u
    ∃ s', exec (.tileStoreWindowAccess id) s = .next s' ∧ s'.findReq id = none ∧
      s'.mem = { s.mem with stores := SMap.write EccMem.swept s.mem.stores u (m.writeMasked o (maskBytes r.data r.mask)).1 } := by
  have hsame : s.SameButRequests s1 := (s.atPort_sameButRequests id).of_eq hport
  obtain ⟨rfl, r1, hreq1, hkind, -⟩ := State.findReq_of_reqAt (by decide) hat hport
  rw [exec_tileStoreWindowAccess hat, State.served_of_reqAt hat hport (by decide),
    State.performPlace_store hplace (by simp) hreq1 hkind hstore]
  refine ⟨_, rfl, State.findReq_dropReq .., ?_⟩
  rw [State.dropReq_mem, State.memWrite_mem _ _ _ _ rfl]
  simp only [State.memAt, Place.addr, State.setMem, hsame.mem]

end

end

/-- Settles O37: the request is at its home, its port lets it in, and the place in memory is read or written there. -/
theorem scratchStoreAndReduction : Obligations.ScratchStoreAndReduction := by
  refine ⟨?_, ?_, ?_⟩
  · intro s s1 id t r r1 hat hwho hport hreq1 hopen
    have hplace := State.placeOf_reqAt_scratch hport hat
    exact ⟨exec_scratchAccess_load hport hplace hopen hat hreq1 hwho, exec_scratchAccess_store hport hplace hopen hat⟩
  · intro s s1 id t u r r1 hat hwho hport hreq1 o hu hlen
    subst hu
    have hplace : s1.placeOf (addrOffset r.addr) = _ := State.placeOf_store (State.reqAt_eq_some hat (by decide)).2
    exact ⟨exec_tileStoreWindowAccess_load hport hplace hat hreq1 hwho, exec_tileStoreWindowAccess_store hport hplace hat⟩
  · intro s s1 id t fmt os tz r hhbm hat hwho hred hsizes hport hopen
    exact exec_addToLine_red hport (State.placeOf_reqAt_scratch hport hat) hopen hhbm hat hred hsizes

end Machine
end Sys2Proof
end

section
/-! What the operations on a tile's matrix array leave (R70–R79, R98–R111, R508). -/

namespace Sys2Proof.Machine

/-! The array of a tile after the named updates. -/

section
variable {s s' : State} {t : Nat}

theorem State.tile_congr (h : s'.tiles = s.tiles) (u : Nat) : s'.tile u = s.tile u := by rw [State.tile, h, State.tile]

theorem State.arr_congr (h : s'.tiles = s.tiles) (u : Nat) : s'.arr u = s.arr u := by rw [State.arr, State.tile_congr h, State.arr]

/-- Of the function that updates an array only its value at that array counts. -/
theorem State.updArr_congr {f g : Arr → Arr} (h : f (s.arr t) = g (s.arr t)) : s.updArr t f = s.updArr t g := by
  simp only [State.arr] at h
  simp only [State.updArr, State.updTile, h]

@[simp] theorem State.sb_updArr (s : State) (t : Nat) (f : Arr → Arr) : ((s.updArr t f).tile t).sb = (s.tile t).sb := by
  simp [State.updArr]

@[simp] theorem State.task_updArr (s : State) (t : Nat) (f : Arr → Arr) : ((s.updArr t f).tile t).task = (s.tile t).task := by
  simp [State.updArr]

@[simp] theorem State.arr_updDbg (s : State) (t u : Nat) (f : Dbg → Dbg) : (s.updDbg u f).arr t = s.arr t := by
  by_cases h : t = u
  · subst h
    simp [State.arr, State.updDbg]
  · rw [State.arr, State.tile_updDbg_ne _ _ h, State.arr]

@[simp] theorem State.release_arr (s : State) (t op : Nat) (ev : SbEvent) : (s.release t op ev).arr t = s.arr t := by
  simp [State.arr, State.release]

@[simp] theorem State.release_sb (s : State) (t op : Nat) (ev : SbEvent) :
    ((s.release t op ev).tile t).sb = releaseEv (s.tile t).sb op ev := by
  simp [State.release]

end

/-! A pass put in its place in the queue. -/

theorem Arr.eq_of_mem_setPass {a : Arr} {p q : Pass} (hq : q ∈ (a.setPass p).passes) (hop : q.op = p.op) : q = p := by
  simp only [Arr.setPass, List.mem_map] at hq
  obtain ⟨q', -, rfl⟩ := hq
  split
  · rfl
  · next hne =>
    rw [if_neg hne] at hop
    exact absurd (beq_iff_eq.2 hop) hne

/-! The ramp controller moves no pass. -/

@[simp] theorem Arr.startOff_passes (a : Arr) (riddle : Bool) : (a.startOff riddle).passes = a.passes := by
  unfold Arr.startOff
  split
  · rfl
  · split <;> rfl

@[simp] theorem Arr.riddlePoint_passes (a : Arr) (riddle : Bool) : (a.riddlePoint riddle).passes = a.passes := by
  unfold Arr.riddlePoint
  split
  · split <;> rfl
  · split
    · rw [Arr.startOff_passes]
    · rfl

@[simp] theorem State.fresh_tiles (s : State) : s.fresh.2.tiles = s.tiles := rfl

/-! Trace records touch the trace and its count (R508). -/

section
variable {α : Type} (f : State → α) (hcount : ∀ s : State, f (s.odInc 0x2E01 8) = f s)
  (hbuf : ∀ (s : State) (g : Trc → Trc), f (s.updTrc g) = f s)
include hcount hbuf

theorem State.trace_keeps (s : State) (src type layer : Nat) (ctx : Option Nat) (payload : List Byte) :
    f (s.trace src type layer ctx payload) = f s := by
  have hput (s : State) (type : Nat) (ctx : Option Nat) (payload : List Byte) :
      f (s.tracePut src type layer ctx payload) = f s := by simp only [State.tracePut, hbuf]
  simp only [State.trace]
  split
  · rfl
  split
  · rw [hbuf, hcount]
  rw [hput]
  split
  · rfl
  split
  · rw [hput, hbuf]
  · rw [hbuf]

end

@[simp] theorem State.trace_tiles (s : State) (src type layer : Nat) (ctx : Option Nat) (payload : List Byte) :
    (s.trace src type layer ctx payload).tiles = s.tiles :=
  State.trace_keeps State.tiles (fun _ => State.odInc_tiles ..) (fun _ _ => rfl) ..

@[simp] theorem State.trace_mem (s : State) (src type layer : Nat) (ctx : Option Nat) (payload : List Byte) :
    (s.trace src type layer ctx payload).mem = s.mem :=
  State.trace_keeps State.mem (fun _ => State.odInc_mem ..) (fun _ _ => rfl) ..

/-! Task aborts (R189) and array errors (R79). -/

@[simp] theorem State.abortTask_tiles (s : State) (t code : Nat) : (s.abortTask t code).tiles = s.tiles := by
  unfold State.abortTask
  split <;> rfl

@[simp] theorem State.abortTask_mem (s : State) (t code : Nat) : (s.abortTask t code).mem = s.mem := by
  unfold State.abortTask
  split <;> rfl

/-- Every record of the task on a tile that is placed after an abort of the tile's task carries a cause. -/
theorem State.abort_isSome_of_abortTask {s : State} {t p n code : Nat} {j : Task} (htask : (s.tile t).task = some (p, n))
    (hj : j ∈ (s.abortTask t code).sched.tasks) (hpart : j.part = p) (hseq : j.seq = n) (hst : j.st = .placed) :
    j.abort.isSome = true := by
  simp only [State.abortTask, htask, State.abortTaskOf, State.updTask, List.mem_map] at hj
  obtain ⟨k, -, rfl⟩ := hj
  by_cases hk : (k.part == p && k.seq == n) = true
  · rw [if_pos hk] at hst ⊢
    revert hst
    split
    · exact fun _ => rfl
    · next hne => exact fun hst => Option.isSome_iff_ne_none.2 (hne hst)
  · rw [if_neg hk] at hpart hseq
    exact absurd (by simp [hpart, hseq]) hk

section
variable (s : State) (t code sev addr abort : Nat)

@[simp] theorem State.arrError_arr :
    (s.arrError t code sev addr abort).arr t = { s.arr t with error := true, lastKeep := none } := by
  simp only [State.arrError]
  rw [State.arr_congr (State.abortTask_tiles ..), State.arr_updArr, State.arr_congr (State.report_tiles ..)]

@[simp] theorem State.arrError_mem : (s.arrError t code sev addr abort).mem = s.mem := by
  simp [State.arrError]

end

theorem State.abort_isSome_of_arrError {s : State} {t code sev addr abort p n : Nat} {j : Task}
    (htask : (s.tile t).task = some (p, n)) (hj : j ∈ (s.arrError t code sev addr abort).sched.tasks)
    (hpart : j.part = p) (hseq : j.seq = n) (hst : j.st = .placed) : j.abort.isSome = true := by
  refine State.abort_isSome_of_abortTask ?_ hj hpart hseq hst
  rw [State.task_updArr, State.tile_congr (State.report_tiles ..), htask]

end Sys2Proof.Machine
end

section
/-! The life of a pass (R70–R75): what the array reads, the entry of a row, then each event of a pass. -/

namespace Sys2Proof.Machine

/-- A read of the tile store touches no array. -/
theorem State.memRead_store_arr (s : State) (u o len : Nat) (w : W32) (t : Nat) : (s.memRead (.store u o) len w).2.arr t = s.arr t :=
  State.memRead_keeps (State.arr · t) (by simp)
    (State.eccEvent_store_keeps (State.arr · t) (fun _ _ => State.arr_congr (State.report_tiles ..) t)
      (fun _ => State.arr_congr (State.odInc_tiles ..) t) (fun s u f => State.arr_updDbg s t u f) (fun _ _ => rfl) · u o w)
    (fun _ _ => rfl) ..

/-- A read of the array leaves what an array error leaves. -/
theorem State.arrRead_arr_keeps {α : Type} (g : Arr → α) (hg : ∀ a : Arr, g { a with error := true, lastKeep := none } = g a)
    (s : State) (t off len : Nat) : g ((s.arrRead t off len).2.arr t) = g (s.arr t) := by
  simp only [State.arrRead]
  split
  · rw [State.arrError_arr, hg, State.memRead_store_arr]
  · rw [State.memRead_store_arr]

/-- The A bytes and A scales of the next row of a pass, as they are read when it enters (R75). -/
def Pass.readRow (p : Pass) (s : State) (t : Nat) : (List PByte × List PByte) × State :=
  let a := s.arrRead t (p.pd.aAddr + p.rowsIn * p.pd.aStride) p.pd.rb
  let sc := if p.pd.bscale then a.2.arrRead t (p.pd.aScaleAddr + p.rowsIn * p.pd.aScaleStride) p.pd.kBlocks else ([], a.2)
  ((a.1, sc.1), sc.2)

/-- A pass with its next row admitted. -/
def Pass.withRow (p : Pass) (row : List PByte × List PByte) : Pass :=
  { p with rows := SMap.put p.rows p.rowsIn row, rowsIn := p.rowsIn + 1,
           st := if p.rowsIn + 1 = p.pd.m then .draining else .streaming }

theorem Pass.readRow_arr_keeps {α : Type} (g : Arr → α) (hg : ∀ a : Arr, g { a with error := true, lastKeep := none } = g a)
    (p : Pass) (s : State) (t : Nat) : g ((p.readRow s t).2.arr t) = g (s.arr t) := by
  simp only [Pass.readRow]
  split
  · rw [State.arrRead_arr_keeps g hg, State.arrRead_arr_keeps g hg]
  · rw [State.arrRead_arr_keeps g hg]

/-- The next row of a pass enters: its operands are read, and the pass goes on to the row after it. -/
theorem State.admitRow_arr (s : State) (t : Nat) (p : Pass) (held : Nat) :
    (s.admitRow t p held).arr t = { ((p.readRow s t).2.arr t).setPass (p.withRow (p.readRow s t).1) with
      stallSteps := wrapAdd 64 ((p.readRow s t).2.arr t).stallSteps held } := by
  have hrelease (s' : State) (c : Prop) [Decidable c] : (if c then s'.release t p.op .lastRow else s').arr t = s'.arr t := by
    split
    · rw [State.release_arr]
    · rfl
  unfold State.admitRow
  dsimp only
  rw [hrelease, State.arr, State.tile_updTile]
  simp only [decide_eq_true_eq]
  rfl

theorem State.admitRow_passes {s : State} {t : Nat} {p q : Pass} {held : Nat}
    (hq : q ∈ ((s.admitRow t p held).arr t).passes) (hop : q.op = p.op) : q = p.withRow (p.readRow s t).1 := by
  rw [State.admitRow_arr] at hq
  exact Arr.eq_of_mem_setPass hq hop

theorem State.admitRow_stallSteps (s : State) (t : Nat) (p : Pass) (held : Nat) :
    ((s.admitRow t p held).arr t).stallSteps = wrapAdd 64 (s.arr t).stallSteps held := by
  rw [State.admitRow_arr, p.readRow_arr_keeps Arr.stallSteps (fun _ => rfl)]

section
variable {t : Fin 144} {s : State} {p : Pass}

theorem exec_shadowLoadComplete (hfind : (s.arr t.val).passes.find? (fun p => p.st == .loading) = some p)
    (hstuck : (s.arr t.val).stuck = false) :
    exec (.shadowLoadComplete t) s = .next ((s.updArr t.val (fun a =>
      { a.setPass { p with st := .loaded } with error := a.error && (s.tile t.val).aborting })).release t.val p.op .shadow) := by
  simp only [exec, execShadowLoadComplete, hfind, hstuck, Bool.false_eq_true, if_false]

/-- Row 0 of the head pass enters where the pass is loaded, or keeps the weights of an array in ON, and its tags allow it. -/
theorem exec_passStart (held : Nat) (hhead : (s.tile t.val).arr.head = some p) (hrow : p.rowsIn = 0)
    (hst : p.st = .loaded ∨
      (p.pd.keep = true ∧ p.st = .queued ∧ (s.tile t.val).arr.stat.isSome = true ∧ (s.tile t.val).arr.ramp = 2))
    (hstart : p.noStart = false) (hcut : p.cut = false) (hworks : (s.tile t.val).arr.works = true)
    (hbegin : (s.tile t.val).dbg.mayBegin = true) (habort : (s.tile t.val).aborting = false)
    (htagA : mayRead (s.tile t.val).sb p.op p.pd.tagA false = true) (htagW : mayRead (s.tile t.val).sb p.op p.pd.tagW false = true)
    (htagOut : mayWrite (s.tile t.val).sb p.op p.pd.tagOut true = true)
    (hprev : mayRead (s.tile t.val).sb p.op p.pd.tagOut true = true) (hfree : (s.tile t.val).arr.rowFree p 0 = true) :
    let ws := if p.pd.keep then (s.tile t.val).arr.stat else p.wset
    exec (.passStart t held) s = .next ((s.updArr t.val (fun a => { a with stat := ws })).admitRow t.val { p with wset := ws } held) := by
  have hloaded : (p.st == .loaded || (p.pd.keep && p.st == .queued && (s.tile t.val).arr.stat.isSome)) = true := by
    rcases hst with h | ⟨hkeep, hqueued, hstat, -⟩
    · simp [h]
    · simp [hkeep, hqueued, hstat]
  have hriddle : ((s.tile t.val).arr.ramp == 2 || p.st == .loaded || s.riddle t.val) = true := by
    rcases hst with h | ⟨-, -, -, hramp⟩
    · simp [h]
    · simp [hramp]
  simp only [exec, execPassStart, hhead, hloaded, hriddle, hrow, hstart, hcut, hworks, hbegin, habort, htagA, htagW, htagOut, hprev,
    hfree]
  simp

theorem exec_rowAdmit (held : Nat) (hhead : (s.tile t.val).arr.head = some p) (hst : p.st = .streaming) (hcut : p.cut = false)
    (hworks : (s.tile t.val).arr.works = true) (habort : (s.tile t.val).aborting = false)
    (hfree : (s.tile t.val).arr.rowFree p p.rowsIn = true) : exec (.rowAdmit t held) s = .next (s.admitRow t.val p held) := by
  simp [exec, execRowAdmit, hhead, hst, hcut, hworks, habort, hfree]

/-- The array without a pass. -/
def Arr.dropPass (a : Arr) (op : Nat) : Arr := { a with passes := a.passes.filter (fun q => q.op != op) }

/-- The oldest pass with all results written leaves the array; unless an abort cut it, its results are released (R71, R78). -/
theorem exec_passDone (hfind : (s.arr t.val).passes.find? Pass.allOut = some p) :
    let s1 := s.updArr t.val (·.dropPass p.op)
    ∃ s2 : State, exec (.passDone t) s = .next (s2.updArr t.val (fun a => a.riddlePoint (s2.riddle t.val))) ∧ s2.mem = s.mem ∧
      s2.tiles = (if p.cut then s1 else s1.release t.val p.op .results).tiles := by
  simp only [exec, execPassDone, hfind]
  refine ⟨_, rfl, ?_, ?_⟩
  · split
    · rfl
    · exact State.trace_mem ..
  · split
    · rfl
    · exact State.trace_tiles ..

end

/-- Settles O13: each event's conditions hold, so that it takes its effect on the pass and the tags. -/
theorem arrayPassProgress : Obligations.ArrayPassProgress := by
  intro t s
  refine ⟨?_, ?_, ?_, ?_, ?_, ?_⟩
  · intro before p hnext hmay hkeep hcut htag hdrain
    simp only [exec, execWeightLoadStart, hnext, hmay, hkeep, hcut, htag]
    -- A draining pass, or none, lets the load begin as a wavefront and as a stall reload.
    rcases hlast : before.getLast? with _ | q
    · exact congrArg _ (if_neg (by simp))
    · exact congrArg _ (if_neg (by simp [hdrain q hlast]))
  · intro p hfind hstuck
    refine ⟨_, exec_shadowLoadComplete hfind hstuck, ?_, fun q hq hop => ?_, fun u hu => ?_, rfl⟩
    · rw [State.release_sb, State.sb_updArr]
    · rw [State.release_arr, State.arr_updArr] at hq
      obtain rfl := Arr.eq_of_mem_setPass hq hop
      exact ⟨rfl, rfl⟩
    · rw [State.release, State.tile_updTile_ne _ _ hu, State.tile_updArr_ne _ _ hu]
  · intro p held
    exact exec_passStart held
  · intro p held hhead hst hcut hworks habort hfree
    refine ⟨_, exec_rowAdmit held hhead hst hcut hworks habort hfree, fun q hq hop => ?_, State.admitRow_stallSteps ..⟩
    obtain rfl := State.admitRow_passes hq hop
    exact ⟨rfl, rfl⟩
  · intro pass row p w r hfind hwset hrow hworks hcols hcolumn
    dsimp only
    intro hearly hfree
    have hlock : ¬ (p.pd.accumulate = true ∧ ¬ (s.tile t.val).arr.interlockFree p (p.pd.outAt row (p.colsDone row)) = true) :=
      fun h => h.2 (hfree h.1)
    simp only [exec, execOutResultWritten, hfind, hwset, hrow]
    exact congrArg _ (if_neg (by
      simp only [hworks, Nat.not_le.2 hcols, hcolumn, hearly, hlock, not_true, or_self, not_false_eq_true]))
  · intro p hfind
    obtain ⟨s2, hexec, hmem, htiles⟩ := exec_passDone hfind
    refine ⟨_, hexec, ?_⟩
    rw [State.arr_updArr, Arr.riddlePoint_passes, State.sb_updArr, State.updArr_mem, State.arr_congr htiles, State.tile_congr htiles]
    split
    · rw [State.arr_updArr, State.sb_updArr]
      exact ⟨rfl, rfl, hmem⟩
    · rw [State.release_arr, State.release_sb, State.arr_updArr, State.sb_updArr]
      exact ⟨rfl, rfl, hmem⟩

end Sys2Proof.Machine
end

section
/-! The ramp controller and the errors of the array (R79, R98–R111). -/

namespace Sys2Proof.Machine

/-- The count of the steps waited for a token leaves the rest of the array. -/
theorem State.waitEnded_arr_keeps {α : Type} (g : Arr → α) (hg : ∀ (a : Arr) (n : Nat), g { a with tokenWait := n } = g a)
    (s : State) (t : Nat) (old : Arr) : g ((s.waitEnded t old).arr t) = g (s.arr t) := by
  simp only [State.waitEnded]
  split
  · rfl
  · rw [State.arr_updArr, hg, State.arr_congr s.fresh_tiles]

@[simp] theorem State.waitEnded_mem (s : State) (t : Nat) (old : Arr) : (s.waitEnded t old).mem = s.mem := by
  simp only [State.waitEnded]
  split <;> rfl

@[simp] theorem State.waitEnded_task (s : State) (t : Nat) (old : Arr) : ((s.waitEnded t old).tile t).task = (s.tile t).task := by
  simp only [State.waitEnded]
  split
  · rfl
  · rw [State.task_updArr, State.tile_congr s.fresh_tiles]

section
variable {a : Arr}

theorem Arr.startOff_of_empty (hpasses : a.passes = []) (riddle : Bool) : a.startOff riddle = a := by
  simp [Arr.startOff, hpasses]

section
variable (hoff : a.ramp = 0) (hstuck : a.stuck = false) (hpasses : a.passes ≠ [])
include hoff hstuck hpasses

theorem Arr.startOff_false : a.startOff false = { a with want := 1 } := by
  simp [Arr.startOff, hoff, hstuck, hpasses]

theorem Arr.startOff_true :
    a.startOff true = { a with ramp := 4, blocks := 8, entries := a.entries + 1, want := 0, urgent := false } := by
  simp [Arr.startOff, hoff, hstuck, hpasses]

end

theorem Arr.riddlePoint_on (hon : a.ramp = 2) (riddle : Bool) :
    a.riddlePoint riddle = { a with want := if riddle && a.passes.isEmpty then 2 else a.want } := by
  rw [Arr.riddlePoint, if_pos hon]
  split <;> rfl

/-- The array out of RIDDLE: in OFF, its blocks disabled (R111). -/
def Arr.leftRiddle (a : Arr) : Arr := { a with ramp := 0, blocks := 0 }

theorem Arr.riddlePoint_end (hramp : a.ramp = 4) (hqueued : ∀ p ∈ a.passes, p.st = .queued) :
    a.riddlePoint false = a.leftRiddle.startOff false := by
  have hbegun : a.passes.any Pass.begun = false := by simpa [Pass.begun] using hqueued
  simp [Arr.riddlePoint, Arr.leftRiddle, hramp, hbegun]

end

section
variable {t : Fin 144} {s : State}

/-- A token is free and no lower tile of the region waits: the waiting array takes it and starts its ramp (R102). -/
theorem exec_rampTokenGrant (waited : Nat) (hfirst : ∀ u, u < t.val → u / 18 = t.val / 18 → (s.arr u).want = 0)
    (hfree : s.tokensTaken (t.val / 18) < s.odNat 0x2A00 8) (hwant : (s.arr t.val).want = 1 ∨ (s.arr t.val).want = 2) :
    exec (.rampTokenGrant t waited) s = .next (s.updArr t.val (fun a => { a with
      token := true, urgent := a.urgent || (s.region (8 + t.val / 18)).urgent, tokenWait := satAdd 32 a.tokenWait waited, want := 0,
      ramp := if a.want = 1 then 1 else 3, blocks := if a.want = 1 then 1 else 7 })) := by
  have hlower : (List.range t.val).any (fun u => sectorOf u == sectorOf t.val && (s.arr u).want != 0) = false := by
    simpa [sectorOf] using hfirst
  have hne : (s.arr t.val).want ≠ 0 := by omega
  simp only [exec, execRampTokenGrant, hlower]
  rw [if_neg (by simp [hne, sectorOf, hfree])]
  refine congrArg _ (State.updArr_congr ?_)
  rcases hwant with h | h <;> simp [h, sectorOf]

/-- The last step of a ramp-on (R100). -/
theorem exec_rampStep_on (hramp : (s.arr t.val).ramp = 1) (hblocks : (s.arr t.val).blocks = 8) :
    exec (.rampStep t) s = .next (s.updArr t.val (fun a =>
      { a with ramp := 2, token := false, ramps := wrapAdd 16 a.ramps 1 }.riddlePoint (s.riddle t.val))) :=
  congrArg _ (State.updArr_congr (by simp [hramp, hblocks]))

/-- The array at the end of its ramp-off: the token is given back and the throttle ended (R100, R102). -/
def Arr.rampedOff (a : Arr) : Arr := { a with ramp := 0, token := false, urgent := false }

/-- The last step of a ramp-off (R100). -/
theorem exec_rampStep_off (hramp : (s.arr t.val).ramp = 3) (hblocks : (s.arr t.val).blocks = 0) :
    exec (.rampStep t) s = .next (s.updArr t.val (fun a => a.rampedOff.startOff (s.riddle t.val))) :=
  congrArg _ (State.updArr_congr (by simp [hramp, hblocks, Arr.rampedOff]))

/-- The end of a Riddle request on an array in which no pass has begun (R111). -/
theorem exec_riddleRequestChange_end (source : Fin 3) (hramp : (s.arr t.val).ramp = 4) (hriddle : s.riddle t.val = false)
    (hqueued : ∀ p ∈ (s.arr t.val).passes, p.st = .queued) :
    exec (.riddleRequestChange t source) s = .next (s.updArr t.val (·.leftRiddle.startOff false)) :=
  congrArg _ (State.updArr_congr (by rw [hriddle, Arr.riddlePoint_end hramp hqueued]))

/-- A stuck array: its blocks are held disabled and its token is given back (R79, R414). -/
def Arr.heldDisabled (a : Arr) : Arr :=
  { a with stuck := true, ramp := 0, blocks := 0, token := false, want := 0, urgent := false }

/-- A stuck array is held disabled, its wait for a token ends, and the error aborts its tile's task (R79, R414). -/
theorem exec_arrStuck (hstuck : (s.arr t.val).stuck = false) (hblocks : (s.arr t.val).blocks ≠ 0) :
    exec (.arrStuck t) s = .next
      (((s.updArr t.val Arr.heldDisabled).waitEnded t.val (s.arr t.val)).arrError t.val 0x0A 2 0 0x13) := by
  simp only [exec, execArrStuck, hstuck, hblocks, Bool.false_eq_true, or_self, if_false]
  rfl

end

/-- Settles O14: each event by the case of the ramp controller, or the array error, that it names. -/
theorem arrayRampAndErrors : Obligations.ArrayRampAndErrors := by
  intro t s
  refine ⟨?_, ?_, ?_, ?_, ?_, ?_, ?_, ?_, ?_⟩
  · intro waited hfirst hfree hwant
    refine ⟨_, exec_rampTokenGrant waited hfirst hfree hwant, ?_⟩
    rw [State.arr_updArr]
    exact ⟨rfl, rfl, rfl, rfl, rfl, rfl, rfl⟩
  · intro hramp hblocks
    exact congrArg _ (State.updArr_congr (by simp [hramp, hblocks]))
  · intro hramp hblocks
    refine ⟨_, exec_rampStep_on hramp hblocks, ?_⟩
    rw [State.arr_updArr, Arr.riddlePoint_on rfl]
    exact ⟨rfl, rfl, rfl, rfl⟩
  · intro hramp hblocks
    exact congrArg _ (State.updArr_congr (by simp [hramp, hblocks]))
  · intro hramp hblocks hstuck
    refine ⟨_, exec_rampStep_off hramp hblocks, ?_⟩
    rw [State.arr_updArr]
    by_cases hpasses : (s.arr t.val).passes = []
    · rw [Arr.startOff_of_empty (a := Arr.rampedOff _) hpasses]
      exact ⟨rfl, rfl, rfl, fun _ => rfl, fun h => absurd hpasses h, fun h => absurd hpasses h⟩
    · cases hriddle : s.riddle t.val with
      | false =>
        rw [Arr.startOff_false (a := Arr.rampedOff _) rfl hstuck hpasses]
        exact ⟨rfl, rfl, rfl, fun h => absurd h hpasses, fun _ _ => ⟨rfl, rfl⟩, fun _ h => nomatch h⟩
      | true =>
        rw [Arr.startOff_true (a := Arr.rampedOff _) rfl hstuck hpasses]
        exact ⟨rfl, rfl, rfl, fun h => absurd h hpasses, fun _ h => (nomatch h), fun _ _ => rfl⟩
  · intro hramp hpasses
    exact congrArg _ (State.updArr_congr (by simp [hramp, hpasses]))
  · intro source
    refine ⟨fun hramp hpasses hriddle => ?_, fun hramp hriddle hqueued => ⟨fun hpasses => ?_, fun hpasses hstuck => ?_⟩⟩
    · exact congrArg _ (State.updArr_congr (by rw [Arr.riddlePoint_on hramp]; simp [hpasses, hriddle]))
    · rw [exec_riddleRequestChange_end source hramp hriddle hqueued]
      exact congrArg _ (State.updArr_congr (Arr.startOff_of_empty (a := Arr.leftRiddle _) hpasses _))
    · rw [exec_riddleRequestChange_end source hramp hriddle hqueued]
      exact congrArg _ (State.updArr_congr (Arr.startOff_false (a := Arr.leftRiddle _) rfl hstuck hpasses))
  · intro col row hblocks hstuck
    have hworks : ¬ ((s.arr t.val).blocks = 0 ∨ (s.arr t.val).stuck = true) := by simp [hblocks, hstuck]
    refine ⟨fun p hfind => ?_, fun hlive => ?_, fun hlive => ?_⟩
    · simp only [exec, execArrParity, if_neg hworks, hfind, if_true]
    · simp only [exec, execArrParity, if_neg hworks, hlive, if_true, Bool.false_eq_true, if_false]
    · simp only [exec, execArrParity, if_neg hworks, hlive, Bool.false_eq_true, if_false]
      rfl
  · intro hstuck hblocks
    refine ⟨_, exec_arrStuck hstuck hblocks, ?_⟩
    rw [State.arrError_arr, State.arrError_mem, State.waitEnded_mem, State.updArr_mem]
    have hkeep {α : Type} (g : Arr → α) (hg : ∀ (a : Arr) (n : Nat), g { a with tokenWait := n } = g a) :=
      (State.waitEnded_arr_keeps g hg (s.updArr t.val Arr.heldDisabled) t.val (s.arr t.val)).trans (congrArg g (State.arr_updArr ..))
    refine ⟨hkeep Arr.stuck (fun _ _ => rfl), hkeep Arr.blocks (fun _ _ => rfl), hkeep Arr.ramp (fun _ _ => rfl),
      hkeep Arr.token (fun _ _ => rfl), rfl, ?_⟩
    intro p n j htask hj hpart hseq hst
    exact State.abort_isSome_of_arrError (by rw [State.waitEnded_task, State.task_updArr, htask]) hj hpart hseq hst

end Sys2Proof.Machine
end

section
/-! The end of a control-core instruction (R117, R501, R504): what it leaves of the core, the tile and the device. -/

namespace Sys2Proof.Machine

/-! Registers of the core, and a halt. -/

section
variable {α : Type} (g : Core → α)

/-- A write of a register touches the registers only. -/
theorem Core.setReg_keeps (hg : ∀ (c : Core) (m : SMap W64), g { c with g := m } = g c) (c : Core) (i : Nat) (v : W64) :
    g (c.setReg i v) = g c := by
  unfold Core.setReg
  split
  · rfl
  · exact hg ..

/-- A halt touches the state of the core only. -/
theorem Core.halt_keeps (hg : ∀ (c : Core) (n b : Nat), g { c with st := n, back := b } = g c) (c : Core) : g c.halt = g c := by
  unfold Core.halt
  split
  · rfl
  · rfl
  · exact hg ..

end

theorem Core.reg_setReg (c : Core) (i : Nat) (v : W64) (j : Nat) : (c.setReg i v).reg j = if j = i ∧ i ≠ 0 then v else c.reg j := by
  by_cases hi : i = 0
  · simp [Core.setReg, hi]
  · by_cases hj : j = i
    · simp [Core.setReg, Core.reg, hi, hj]
    · simp [Core.setReg, Core.reg, hi, hj, SMap.get_put_ne _ _ _ hj]

/-! The end of an instruction. -/

section
variable (s : State) (t : Nat)

/-- Where the tile neither drains nor steps, the end of an instruction spends the pass over a breakpoint and nothing else. -/
theorem State.coreDone_of_running {s : State} {t : Nat} (h : (s.dbg t).state = 0) :
    s.coreDone t = s.updCore t (fun c => { c with skipBp := false }) := by
  rw [State.dbg] at h
  simp [State.coreDone, State.updCore, State.updTile, h]

/-- Of a core the end of an instruction touches the state and the pass over a breakpoint only. -/
theorem State.core_coreDone_keeps {α : Type} (g : Core → α)
    (hg : ∀ (c : Core) (n b : Nat) (k : Bool), g { c with st := n, back := b, skipBp := k } = g c) :
    g ((s.coreDone t).core t) = g (s.core t) := by
  have hhalt (c : Core) : g { c with skipBp := false }.halt = g c :=
    (Core.halt_keeps g (fun c n b => hg c n b c.skipBp) _).trans (hg c c.st c.back false)
  simp only [State.coreDone, State.core, State.tile_updTile]
  split
  · exact hhalt _
  · split
    · exact hhalt _
    · exact hg _ (s.tile t).core.st (s.tile t).core.back false

/-- Of the tile it touches the core and the debug registers only. -/
theorem State.tile_coreDone_keeps {α : Type} (g : Tile → α)
    (hg : ∀ (x : Tile) (c : Core) (d : Dbg), g { x with core := c, dbg := d } = g x) :
    g ((s.coreDone t).tile t) = g (s.tile t) := by
  simp only [State.coreDone, State.tile_updTile]
  split
  · exact hg _ _ (s.tile t).dbg
  · split
    · exact hg ..
    · exact hg _ _ (s.tile t).dbg

theorem State.tile_coreDone_ne {u : Nat} (h : u ≠ t) : (s.coreDone t).tile u = s.tile u := State.tile_updTile_ne _ _ h

theorem State.pc_coreNext (pc : W64) : ((s.coreNext t pc).core t).pc = pc := by
  rw [State.coreNext, State.core_coreDone_keeps _ _ Core.pc (fun _ _ _ _ => rfl), State.core_updCore]

theorem State.reg_coreNext (pc : W64) (i : Nat) : ((s.coreNext t pc).core t).reg i = (s.core t).reg i := by
  rw [State.coreNext, State.core_coreDone_keeps _ _ (Core.reg · i) (fun _ _ _ _ => rfl), State.core_updCore]
  rfl

theorem State.tile_coreNext_keeps {α : Type} (g : Tile → α)
    (hg : ∀ (x : Tile) (c : Core) (d : Dbg), g { x with core := c, dbg := d } = g x) (pc : W64) :
    g ((s.coreNext t pc).tile t) = g (s.tile t) := by
  rw [State.coreNext, State.tile_coreDone_keeps _ _ g hg, State.updCore, State.tile_updTile]
  exact hg _ _ (s.tile t).dbg

theorem State.tile_coreNext_ne {u : Nat} (h : u ≠ t) (pc : W64) : (s.coreNext t pc).tile u = s.tile u := by
  rw [State.coreNext, State.tile_coreDone_ne _ _ h, State.tile_updCore_ne _ _ h]

end

section
variable (s : State) (t rd : Nat) (v : W64)

theorem State.reg_coreWrite (i : Nat) : ((s.coreWrite t rd v).core t).reg i = if i = rd ∧ rd ≠ 0 then v else (s.core t).reg i := by
  rw [State.coreWrite, State.reg_coreNext, State.core_updCore, Core.reg_setReg]

theorem State.tile_coreWrite_keeps {α : Type} (g : Tile → α)
    (hg : ∀ (x : Tile) (c : Core) (d : Dbg), g { x with core := c, dbg := d } = g x) :
    g ((s.coreWrite t rd v).tile t) = g (s.tile t) := by
  rw [State.coreWrite, State.tile_coreNext_keeps _ _ g hg, State.updCore, State.tile_updTile]
  exact hg _ _ (s.tile t).dbg

end

/-- Settles O5: an instruction with a result writes its register and moves the PC; the rest of the device stays (R117). -/
theorem coreWriteFrame : Obligations.CoreWriteFrame := by
  intro s t rd v
  refine ⟨State.pc_coreNext .., State.reg_coreWrite s t rd v, rfl, fun u hu => ?_, ?_, rfl, fun hrun => ?_⟩
  · rw [State.coreWrite, State.tile_coreNext_ne _ _ hu, State.tile_updCore_ne _ _ hu]
  · exact State.tile_coreWrite_keeps s t rd v (fun x => { x with core := s.core t, dbg := s.dbg t }) (fun _ _ _ => rfl)
  · have hset := Core.setReg_keeps Core.st (fun _ _ => rfl) (s.core t) rd v
    rw [State.coreWrite, State.coreNext, State.coreDone_of_running (by simpa [State.dbg, State.updCore] using hrun)]
    simpa [State.dbg, State.updCore, State.core] using hset

end Sys2Proof.Machine
end

section
/-! Arithmetic, branches and jumps of the control core (R122–R124). -/

namespace Sys2Proof.Machine

/-! Fields of an instruction word, and the arithmetic of the ALU on words. -/

theorem fld_eq_extractLsb' {n : Nat} (x : BitVec n) (lo k : Nat) : fld x lo k = (x.extractLsb' lo k).toNat :=
  (BitVec.extractLsb'_toNat ..).symm

theorem sgn_eq_toInt {n : Nat} (x : BitVec n) (hn : 0 < n) : sgn n x.toNat = x.toInt := by
  have hpow : 2 ^ n = 2 * 2 ^ (n - 1) := by rw [← Nat.pow_succ', Nat.succ_eq_add_one, Nat.sub_add_cancel hn]
  rw [BitVec.toInt_eq_toNat_cond, sgn, Nat.mod_eq_of_lt x.isLt]
  push_cast
  split <;> split <;> omega

theorem sltNat_eq_slt (a b : W64) : sltNat 64 a.toNat b.toNat = a.slt b := by
  rw [sltNat, sgn_eq_toInt _ (by decide), sgn_eq_toInt _ (by decide), BitVec.slt]

theorem brCond_eq (c : Nat) (a b : W64) : brCond c a b =
    match c with | 0 => a == b | 1 => a != b | 2 => a.slt b | 3 => !a.slt b | 4 => a.ult b | _ => !a.ult b := by
  simp only [brCond, sltNat_eq_slt]
  match c with
  | 0 | 1 | 2 | 3 | 4 => rfl
  | n + 5 => rfl

/-- The high half of a product of two words. -/
theorem mulHigh_eq (a b : W64) :
    BitVec.ofNat 64 (a.toNat * b.toNat / 2 ^ 64) = ((a.setWidth 128 * b.setWidth 128) >>> 64).setWidth 64 := by
  have hprod : a.toNat * b.toNat < 2 ^ 128 := Nat.lt_of_lt_of_eq (Nat.mul_lt_mul'' a.isLt b.isLt) (Nat.pow_add 2 64 64).symm
  have ha : a.toNat < 2 ^ 128 := Nat.lt_trans a.isLt (by decide)
  have hb : b.toNat < 2 ^ 128 := Nat.lt_trans b.isLt (by decide)
  apply BitVec.eq_of_toNat_eq
  rw [BitVec.toNat_setWidth, BitVec.toNat_ushiftRight, BitVec.toNat_mul, BitVec.toNat_setWidth, BitVec.toNat_setWidth,
    Nat.mod_eq_of_lt ha, Nat.mod_eq_of_lt hb, Nat.mod_eq_of_lt hprod, BitVec.toNat_ofNat, Nat.shiftRight_eq_div_pow]

theorem ofNat_ushiftRight (a : W64) (n : Nat) : BitVec.ofNat 64 (a.toNat >>> n) = a >>> n := by
  apply BitVec.eq_of_toNat_eq
  rw [BitVec.toNat_ofNat, BitVec.toNat_ushiftRight, Nat.mod_eq_of_lt (Nat.lt_of_le_of_lt (Nat.shiftRight_le ..) a.isLt)]

theorem ofNat_shiftLeft (n p : Nat) : BitVec.ofNat 64 (n <<< p) = BitVec.ofNat 64 n <<< p := by
  apply BitVec.eq_of_toNat_eq
  rw [BitVec.toNat_ofNat, BitVec.toNat_shiftLeft, BitVec.toNat_ofNat, Nat.shiftLeft_eq, Nat.shiftLeft_eq, Nat.mod_mul_mod]

/-- The functions of the ALU in the terms of the words' own operations (R123). -/
theorem aluOp_eq (f : Nat) (a b : W64) : aluOp f a b =
    match f with
    | 0 => a + b | 1 => a - b | 2 => a &&& b | 3 => a ||| b | 4 => a ^^^ b
    | 5 => a <<< (b.toNat % 64) | 6 => a >>> (b.toNat % 64) | 7 => a.sshiftRight (b.toNat % 64)
    | 8 => if a.slt b then 1 else 0 | 9 => if a.ult b then 1 else 0
    | 10 => a * b | 11 => ((a.setWidth 128 * b.setWidth 128) >>> 64).setWidth 64
    | 12 => if b.slt a then b else a | 13 => if a.slt b then b else a
    | 14 => if b.ult a then b else a | _ => if a.ult b then b else a := by
  have hsh : fld b 0 6 = b.toNat % 64 := rfl
  simp only [aluOp, sltNat_eq_slt, hsh, ofNat_ushiftRight, mulHigh_eq, BitVec.ult, decide_eq_true_eq]
  rfl

/-! The checks that a word has passed where the core stands at it. -/

theorem insDefined_of_coreAt {s : State} {t : Nat} {w : W32} (h : s.coreAt t w = true) : insDefined w = true := by
  simp only [State.coreAt, Bool.and_eq_true] at h
  obtain ⟨⟨-, hdef⟩, -⟩ := h
  exact hdef

section
variable {s : State} {t cls f : Nat} {w : W32} (body : State → W32 → State) (hat : s.coreAt t w = true) (hcls : insClass w = cls)
include hat hcls

theorem State.coreExec_of_class : s.coreExec t cls none body = body s w :=
  State.coreExec_of_coreAt body hat hcls (by simp)

theorem State.coreExec_of_func (hfunc : insFunc w = f) : s.coreExec t cls (some f) body = body s w :=
  State.coreExec_of_coreAt body hat hcls (by simp [hfunc])

end

/-- Settles O6: each class computes its result with the word's own operations and writes it. -/
theorem coreArithmeticResult : Obligations.CoreArithmeticResult := by
  intro t s w hat
  refine ⟨fun hcls => ?_, fun hcls => ?_, fun hcls => ?_⟩
  · simp only [exec, execAlu, State.coreExec_of_class _ hat hcls]
    exact congrArg Host.Outcome.next (congrArg (s.coreWrite t.val (insRd w)) (aluOp_eq ..))
  · have hdef := insDefined_of_coreAt hat
    have hlt : insFunc w < 9 := by simpa [insDefined, hcls] using hdef
    simp only [exec, execAlui, State.coreExec_of_class _ hat hcls,
      insImm_eq_signExtend (show 0 < 12 by decide), aluOp_eq]
    generalize insFunc w = f at hlt ⊢
    match f, hlt with
    | 0, _ | 1, _ | 2, _ | 3, _ | 4, _ | 5, _ | 6, _ | 7, _ | 8, _ => rfl
  · simp only [exec, execImmw, State.coreExec_of_class _ hat hcls, fld_eq_extractLsb', ofNat_shiftLeft, BitVec.ofNat_toNat]
    rfl

/-- Settles O7: each instruction hands the PC on to where it goes, or stops the core. -/
theorem coreControlFlow : Obligations.CoreControlFlow := by
  intro t s w hat
  refine ⟨fun hcls => ?_, fun hcls => ?_, fun hcls halign => ?_, fun hcls hfunc => ?_, fun hcls hfunc hclaim => ?_⟩
  · simp only [exec, execBr, State.coreExec_of_class _ hat hcls,
      insImm_eq_signExtend (show 0 < 13 by decide), fld_eq_extractLsb']
    exact congrArg Host.Outcome.next (congrArg (s.coreNext t.val) 
      (ite_congr (congrArg (· = true) (brCond_eq ..)) (fun _ => rfl) (fun _ => rfl)))
  · simp only [exec, execJal, State.coreExec_of_class _ hat hcls, insImm_eq_signExtend (show 0 < 21 by decide)]
  · simp only [exec, execJalr, State.coreExec_of_class _ hat hcls, halign, ne_eq, not_true, if_false]
  · simp only [exec, execNop, State.coreExec_of_func _ hat hcls hfunc]
  · have hnone : (s.tile t.val).sb.any (fun r => r.pend == [.claim]) = false := by simpa using hclaim
    simp only [exec, execCoreEnd, State.coreExec_of_func _ hat hcls hfunc, hnone,
      Bool.false_eq_true, if_false]

end Sys2Proof.Machine
end

section
/-! The checks of an instruction word and the faults of the control core (R124, R125, R298). -/

namespace Sys2Proof.Machine

/-! A core that runs at a fetched word that no breakpoint stops meets the checks of R124 in their order. -/

section
variable {s : State} {t cls : Nat} {func : Option Nat} {bs : List PByte} {body : State → W32 → State}
  (hrun : (s.tile t).coreRuns = true) (hword : cachedWord (s.core t).icache (s.core t).pc = some bs)
  (hgood : (s.core t).icPerr.contains ((s.core t).pc.toNat / 64) = false) (hbp : (s.dbg t).bpAt (s.core t).pc = none)
include hrun hword hgood hbp

theorem State.coreExec_of_gen (hgen : insGen (insWord bs) ≠ 0) : s.coreExec t cls func body = s.coreFault t 0x05 0x01 0 := by
  simp only [State.core, State.dbg] at hword hbp
  simp [State.coreExec, State.icTags_of_good hgood, hrun, hword, hbp, hgen]

theorem State.coreExec_of_undefined (hgen : insGen (insWord bs) = 0) (hdef : insDefined (insWord bs) = false) :
    s.coreExec t cls func body = s.coreFault t 0x05 0x02 0 := by
  simp only [State.core, State.dbg] at hword hbp
  simp [State.coreExec, State.icTags_of_good hgood, hrun, hword, hbp, hgen, hdef]

/-- Poison is met before the reserved bits, and its fault gives way to theirs. -/
theorem State.coreExec_of_defined (hgen : insGen (insWord bs) = 0) (hdef : insDefined (insWord bs) = true)
    (hcls : insClass (insWord bs) = cls) : s.coreExec t cls none body =
      if poisoned bs then s.poisonedWord t (insWord bs)
      else if insWord bs &&& insReserved (insWord bs) ≠ 0 then s.coreFault t 0x05 0x03 0 else body s (insWord bs) := by
  simp only [State.core, State.dbg] at hword hbp
  simp [State.coreExec, State.icTags_of_good hgood, hrun, hword, hbp, hgen, hdef, hcls]

end

/-! A fault: the record, then the registers of the tile, then the abort of its task (R125, R189). -/

/-- A record of severity 0 or 1 joins the record queue where fewer than 960 entries are taken (R479). -/
theorem State.tookRecord_report {s : State} {r : Rec} (hsev : r.sev < 2) (hroom : s.rel.queue.length < 960) :
    s.tookRecord (s.report r) r.cls r.code r.sev :=
  ⟨r, rfl, rfl, rfl, by simp [State.report, Nat.not_le.2 hsev, Nat.not_le.2 hroom]⟩

section
variable (s : State) (t cls code : Nat) (addr : W64)

/-- The record of a fault. -/
def State.faultRec : Rec :=
  s.mkRec cls code 1 (if cls = 0x07 then 2 else 1) (BitVec.ofNat 32 t) (faultObj cls addr.toNat) ((Who.core t).waiter 0) addr
    (s.tileCtx t) (detField 38 8 (s.core t).pc.toNat ||| detField 46 4 (s.core t).word.toNat)

/-- The record of a fault and its counts, before the fault reaches the tile. -/
def State.faultReported : State :=
  let s' := s.report (s.faultRec t cls code addr)
  let s' := if cls = 0x05 ∧ 6 ≤ code ∧ code ≤ 0x0C then s'.odInc 0x2B80 3 else s'
  if cls = 0x07 then s'.odInc 0x2A00 5 else s'

theorem State.coreFault_eq :
    s.coreFault t cls code addr = ((s.faultReported t cls code addr).faultRegs t cls code).abortTask t codeTaskFault := rfl

/-- The counts of a fault touch the dictionary only. -/
theorem State.faultReported_keeps {α : Type} (f : State → α) (hcount : ∀ (s : State) (i j : Nat), f (s.odInc i j) = f s) :
    f (s.faultReported t cls code addr) = f (s.report (s.faultRec t cls code addr)) := by
  have hif (s : State) (c : Prop) [Decidable c] (i j : Nat) : f (if c then s.odInc i j else s) = f s := by
    split
    · exact hcount ..
    · rfl
  rw [State.faultReported, hif, hif]

theorem State.faultReported_tiles : (s.faultReported t cls code addr).tiles = s.tiles :=
  (State.faultReported_keeps s t cls code addr State.tiles (fun _ _ _ => State.odInc_tiles ..)).trans (State.report_tiles ..)

theorem State.faultReported_mem : (s.faultReported t cls code addr).mem = s.mem :=
  (State.faultReported_keeps s t cls code addr State.mem (fun _ _ _ => State.odInc_mem ..)).trans (State.report_mem ..)

@[simp] theorem State.faultRegs_mem : (s.faultRegs t cls code).mem = s.mem := rfl
@[simp] theorem State.faultRegs_rel : (s.faultRegs t cls code).rel = s.rel := rfl

theorem State.faultPc_faultRegs : ((s.faultRegs t cls code).core t).faultPc = (s.core t).pc := by
  rw [State.faultRegs, State.core_coreDone_keeps _ _ Core.faultPc (fun _ _ _ _ => rfl), State.core_updCore]
  rfl

theorem State.reg_faultRegs (i : Nat) : ((s.faultRegs t cls code).core t).reg i = (s.core t).reg i := by
  rw [State.faultRegs, State.core_coreDone_keeps _ _ (Core.reg · i) (fun _ _ _ _ => rfl), State.core_updCore]
  rfl

theorem State.task_faultRegs : ((s.faultRegs t cls code).tile t).task = (s.tile t).task := by
  rw [State.faultRegs, State.tile_coreDone_keeps _ _ Tile.task (fun _ _ _ => rfl), State.updCore, State.tile_updTile]
  rfl

theorem State.st_faultRegs_of_running {s : State} {t : Nat} (hrun : (s.dbg t).state = 0) (cls code : Nat) :
    ((s.faultRegs t cls code).core t).st = 5 := by
  have hdbg : (s.odInc 0x2B80 2).tile t = s.tile t := State.tile_congr (State.odInc_tiles ..) t
  rw [State.faultRegs, State.coreDone_of_running (by simpa [State.dbg, State.updCore, hdbg] using hrun), State.core_updCore,
    State.core_updCore]

@[simp] theorem State.abortTask_rel : (s.abortTask t code).rel = s.rel := by
  unfold State.abortTask
  split <;> rfl

end

section
variable {s : State} {t : Nat} (cls code : Nat) (addr : W64)

/-- What the fault registers show of a core, a fault shows. -/
theorem State.core_coreFault (s : State) (t : Nat) :
    (s.coreFault t cls code addr).core t = ((s.faultReported t cls code addr).faultRegs t cls code).core t := by
  rw [State.coreFault_eq, State.core, State.tile_congr (State.abortTask_tiles ..), State.core]

theorem State.tookRecord_coreFault (hroom : s.rel.queue.length < 960) : s.tookRecord (s.coreFault t cls code addr) cls code 1 := by
  obtain ⟨r, hcls, hcode, hsev, hqueue⟩ := State.tookRecord_report (r := s.faultRec t cls code addr) Nat.one_lt_two hroom
  refine ⟨r, hcls, hcode, hsev, ?_⟩
  rw [State.coreFault_eq, State.abortTask_rel, State.faultRegs_rel,
    State.faultReported_keeps s t cls code addr State.rel (fun _ _ _ => State.odInc_rel ..), hqueue]

theorem State.abort_isSome_of_coreFault {p n : Nat} {j : Task} (htask : (s.tile t).task = some (p, n))
    (hj : j ∈ (s.coreFault t cls code addr).sched.tasks) (hpart : j.part = p) (hseq : j.seq = n) (hst : j.st = .placed) :
    j.abort.isSome = true := by
  rw [State.coreFault_eq] at hj
  refine State.abort_isSome_of_abortTask ?_ hj hpart hseq hst
  rw [State.task_faultRegs, State.tile_congr (State.faultReported_tiles ..), htask]

end

/-- Settles O8: the checks in their order, then what a fault writes and leaves. -/
theorem coreCheckOrder : Obligations.CoreCheckOrder := by
  intro t s bs cls f body hrun hword hgood hbp
  refine ⟨State.coreExec_of_gen hrun hword hgood hbp, State.coreExec_of_undefined hrun hword hgood hbp, fun hgen hdef hcls => ?_,
    fun k code addr => ?_⟩
  · have hres : insReserved (insWord bs) = 0x7C0 := by simp [insReserved, hcls]
    have hoperand : s.operandFault t.val (insWord bs) = none := by simp [State.operandFault, hcls]
    simp only [exec, execAlu, State.coreExec_of_defined hrun hword hgood hbp hgen hdef hcls, State.poisonedWord, hres, hoperand]
    exact ⟨fun hbits => by simp only [if_pos hbits, ite_self],
      fun hbits hpoison => by simp only [if_pos hpoison, if_neg (not_not_intro hbits)]⟩
  · have htile := State.tile_congr (State.faultReported_tiles s t.val k code addr) t.val
    refine ⟨?_, ?_, fun i => ?_, State.tookRecord_coreFault k code addr, fun p n j => State.abort_isSome_of_coreFault k code addr,
      fun hdbg => ?_⟩
    · rw [State.core_coreFault, State.faultPc_faultRegs, State.core, htile, State.core]
    · rw [State.coreFault_eq, State.abortTask_mem, State.faultRegs_mem, State.faultReported_mem]
    · rw [State.core_coreFault, State.reg_faultRegs, State.core, htile, State.core]
    · rw [State.core_coreFault, State.st_faultRegs_of_running (by rwa [State.dbg, htile])]

end Sys2Proof.Machine
end

section
/-! Scoreboard and system instructions of the control core (R121, R126, R136, R137, R208, R500). -/

namespace Sys2Proof.Machine

/-- A core that stands at an instruction runs, on a tile with a task. -/
theorem State.runs_of_coreAt {s : State} {t : Nat} {w : W32} (h : s.coreAt t w = true) :
    (s.core t).st = 1 ∧ (s.tile t).task.isSome = true := by
  simp only [State.coreAt, Bool.and_eq_true, Tile.coreRuns, beq_iff_eq] at h
  obtain ⟨⟨⟨⟨⟨⟨⟨⟨hst, htask⟩, -⟩, -⟩, -⟩, -⟩, -⟩, -⟩, -⟩ := h
  exact ⟨hst, htask⟩

/-! The registrations that a scoreboard instruction looks at (R136). -/

section
variable {sb : List SbReg} {op tag : Nat}

theorem noEarlier_iff (p : SbReg → Bool) :
    sb.all (fun r => !(r.tag == tag && decide (r.op < op) && p r)) = true ↔ ∀ r ∈ sb, r.tag = tag → r.op < op → p r = false := by
  rw [List.all_eq_true]
  constructor
  · intro h r hr htag hop
    simpa [htag, hop] using h r hr
  · intro h r hr
    by_cases htag : r.tag = tag
    · by_cases hop : r.op < op
      · simp [h r hr htag hop]
      · simp [hop]
    · simp [htag]

theorem sbWaitOver_false_iff : sbWaitOver sb op tag false = true ↔ ∀ r ∈ sb, r.tag = tag → r.op < op → r.isWrite = false :=
  (noEarlier_iff _).trans (by simp)

theorem sbWaitOver_true_iff :
    sbWaitOver sb op tag true = true ↔ ∀ r ∈ sb, r.tag = tag → r.op < op → r.isWrite = false ∧ r.isRead = false :=
  (noEarlier_iff _).trans (by simp)

theorem claimOver_iff : claimOver sb op tag = true ↔ ∀ r ∈ sb, r.tag = tag → r.op < op → r.isRead = false := noEarlier_iff _

end

/-- The word of TSTATE as a sum of its flags. -/
theorem tagFlags_eq (c r w : Bool) : (placeB c 2 ||| placeB r 1 ||| placeB w 0 : W64) =
    (if c then 4 else 0) + (if r then 2 else 0) + (if w then 1 else 0) := by
  cases c <;> cases r <;> cases w <;> rfl

section
variable {s : State} {t : Nat} {w : W32} (hat : s.coreAt t w = true)
include hat

/-- TWAIT or TDRAIN on a tag without a claim goes on where its wait is over. -/
theorem State.tagWait_of_coreAt {func : Nat} (both : Bool) (hcls : insClass w = 9) (hfunc : insFunc w = func)
    (hclaim : hasClaim (s.tile t).sb (insTag w) = false) : s.tagWait t func both =
      if sbWaitOver (s.tile t).sb (s.core t).nextOp (insTag w) both then s.coreNext t ((s.core t).pc + 4)
      else s.coreWaits t (.tag (s.core t).nextOp (insTag w) both) := by
  obtain ⟨hst, -⟩ := State.runs_of_coreAt hat
  simp only [State.tagWait, hst, State.coreExec_of_func _ hat hcls hfunc, hclaim, Bool.false_eq_true, if_false]

end

/-- Settles O11: an instruction on a tag goes on, waits, or changes the claims as the registrations of earlier operations say. -/
theorem coreScoreboardInstructions : Obligations.CoreScoreboardInstructions := by
  intro t s
  refine ⟨fun w hat hcls => ?_, fun w hat hcls hfunc => ?_, fun tag r hfind hstate habort => ?_⟩
  · have htag : (w.extractLsb' 16 6).toNat = insTag w := (fld_eq_extractLsb' ..).symm
    obtain ⟨hst, -⟩ := State.runs_of_coreAt hat
    simp only [htag]
    refine ⟨fun hfunc hclaim => ?_, fun hfunc hclaim => ?_, fun hfunc hclaim hroom hreads => ?_, fun hfunc hclaim => ?_, fun hfunc => ?_⟩
    · simp only [exec, execTwait, State.tagWait_of_coreAt hat false hcls hfunc hclaim]
      exact congrArg _ (ite_congr (propext sbWaitOver_false_iff) (fun _ => rfl) (fun _ => rfl))
    · simp only [exec, execTdrain, State.tagWait_of_coreAt hat true hcls hfunc hclaim]
      exact congrArg _ (ite_congr (propext sbWaitOver_true_iff) (fun _ => rfl) (fun _ => rfl))
    · have hroom' : (s.tile t.val).sbRoom 1 = true := decide_eq_true hroom
      have hover := claimOver_iff.2 hreads
      simp only [exec, execTclaim, hst, State.coreExec_of_func _ hat hcls hfunc, hclaim, hroom', Bool.false_eq_true, if_false,
        Bool.not_true]
      exact congrArg _ (if_pos hover)
    · simp only [exec, execTrel, State.coreExec_of_func _ hat hcls hfunc, hclaim, Bool.not_true, Bool.false_eq_true, if_false]
    · simp only [exec, execTstate, State.coreExec_of_func _ hat hcls hfunc, tagFlags_eq, List.any_eq_true, Bool.and_eq_true, beq_iff_eq,
        ← fld_eq_extractLsb']
      rfl
  · obtain ⟨hst, -⟩ := State.runs_of_coreAt hat
    simp only [exec, execFence, hst, State.coreExec_of_func _ hat hcls hfunc]
  · have hgoes : ¬ ((s.tile t.val).dbg.state = 2 ∨ (s.tile t.val).aborting = true) := by simpa [habort, State.dbg] using hstate
    simp only [exec, execSbTimeout, hfind, if_neg hgoes]

/-! The halt of a tile (R500–R502). -/

section
variable {s : State} {t : Nat}

@[simp] theorem State.haltTile_mem (s : State) (t cause bp : Nat) : (s.haltTile t cause bp).mem = s.mem := by
  simp only [State.haltTile]
  split <;> rfl

/-- A tile that drains is not halted again, and the halt of another tile leaves it. -/
theorem State.tile_haltTile_of_draining (h : (s.tile t).dbg.state = 1) (u cause bp : Nat) : (s.haltTile u cause bp).tile t = s.tile t := by
  by_cases hu : t = u
  · subst hu
    simp [State.haltTile, h]
  · simp only [State.haltTile]
    split
    · rfl
    · exact State.tile_setTile_ne _ _ hu

/-- A tile that drains stays as it is while the other tiles of its task are halted, and so do the memories. -/
theorem State.foldl_haltTile_of_draining (h : (s.tile t).dbg.state = 1) (us : List Nat) (cause bp : Nat) :
    let s' := us.foldl (fun s u => s.haltTile u cause bp) s
    s'.tile t = s.tile t ∧ s'.mem = s.mem :=
  List.foldlRecOn (motive := fun s' : State => s'.tile t = s.tile t ∧ s'.mem = s.mem) us _ ⟨rfl, rfl⟩ (fun s' hs' u _ => by
    obtain ⟨htile, hmem⟩ := hs'
    rw [State.tile_haltTile_of_draining (by rw [htile, h]), State.haltTile_mem]
    exact ⟨htile, hmem⟩)

/-- A halt of a running tile with a task starts its drain and stops its core, whatever other tiles it reaches. -/
theorem State.startHalt_of_running (htask : (s.tile t).task.isSome = true) (hrun : (s.dbg t).state = 0) (cause bp : Nat) :
    (s.startHalt t cause bp).tile t = { s.tile t with
      dbg := { s.dbg t with state := 1, step := 0, cause := cause, bpHit := bp }, core := (s.core t).halt } ∧
    (s.startHalt t cause bp).mem = s.mem := by
  have hnone : (s.tile t).task.isNone = false := by simpa using htask
  simp only [State.dbg] at hrun
  have hgo : ((s.tile t).task.isNone || (s.tile t).dbg.state == 1 || (s.tile t).dbg.state == 2) = false := by simp [hnone, hrun]
  have hhalt : (s.haltTile t cause bp).tile t = { s.tile t with
      dbg := { s.dbg t with state := 1, step := 0, cause := cause, bpHit := bp }, core := (s.core t).halt } := by
    simp only [State.haltTile, hgo, Bool.false_eq_true, if_false, State.tile_setTile]
    rfl
  simp only [State.startHalt, hgo, Bool.false_eq_true, if_false]
  split
  · obtain ⟨htile, hmem⟩ := State.foldl_haltTile_of_draining (by rw [hhalt]) ((s.haltTile t cause bp).taskTiles t) 4 0
    exact ⟨htile.trans hhalt, hmem.trans (State.haltTile_mem ..)⟩
  · exact ⟨hhalt, State.haltTile_mem ..⟩

end

/-- Settles O12: MFC reads, MTC writes what its register takes, and BRK starts a drain. -/
theorem coreSystemInstructions : Obligations.CoreSystemInstructions := by
  intro t s w hat hcls
  have hnum : (w.extractLsb' 0 12).toNat = fld w 0 12 := (fld_eq_extractLsb' ..).symm
  have hreg : (w.extractLsb' 17 5).toNat = sysReg w := (fld_eq_extractLsb' ..).symm
  simp only [hnum, hreg]
  refine ⟨fun hfunc hlt => ?_, fun hfunc => ⟨fun hn hlo hhi => ?_, fun hn hclear => ?_, fun hlt => ?_⟩, fun hfunc hrun => ?_⟩
  · simp only [exec, execMfc, State.coreExec_of_func _ hat hcls hfunc, if_neg (Nat.not_le.2 hlt)]
  · have hus : fld ((s.core t.val).reg (sysReg w)) 0 32 = ((s.core t.val).reg (sysReg w)).toNat :=
      Nat.mod_eq_of_lt (by rw [Nat.shiftRight_zero]; omega)
    have hrange : ¬ (((s.core t.val).reg (sysReg w)).toNat = 0 ∨ 60000000 < ((s.core t.val).reg (sysReg w)).toNat) := by omega
    simp only [exec, execMtc, State.coreExec_of_func _ hat hcls hfunc, hn, hus, if_neg hrange]
    rfl
  · simp only [exec, execMtc, State.coreExec_of_func _ hat hcls hfunc, hn, State.tileRegWrite, bitOf, hclear, if_true]
    rfl
  · have hlow : ¬ 0x200 ≤ fld w 0 12 ∧ ¬ 8 * fld w 0 12 = 0x110 ∧ 8 * fld w 0 12 < 0x100 := by omega
    obtain ⟨hin, htimeout, hro⟩ := hlow
    simp only [exec, execMtc, State.coreExec_of_func _ hat hcls hfunc, if_neg hin, if_neg htimeout, State.tileRegWrite_readOnly _ _ _ hro]
  · obtain ⟨hst, htask⟩ := State.runs_of_coreAt hat
    obtain ⟨htile, hmem⟩ := State.startHalt_of_running htask hrun 2 0
    refine ⟨_, by simp only [exec, execBrk, State.coreExec_of_func _ hat hcls hfunc], ?_, ?_, ?_, ?_, hmem⟩
    · rw [State.dbg, htile]
    · rw [State.dbg, htile]
    · rw [State.core, htile]
      simp only [Core.halt, hst]
    · rw [State.core, htile]
      exact Core.halt_keeps Core.pc (fun _ _ _ => rfl) (s.core t.val)

end Sys2Proof.Machine
end

section
/-! Issue of passes, transfers and kernels, and their acceptance (R123, R124, R127, R129, R132). -/

namespace Sys2Proof.Machine

/-- An operation has at most one registration per naming. -/
theorem mergeNamings_length_le (op : Nat) (unit : Who) (isPass : Bool) (ns : List Naming) :
    (mergeNamings op unit isPass ns).length ≤ ns.length := by
  induction ns with
  | nil => exact Nat.le_refl _
  | cons n ns ih => exact Nat.succ_le_succ (Nat.le_trans (List.length_filter_le ..) ih)

theorem Dd.namings_length_le (d : Dd) : d.namings.length ≤ 2 := by
  unfold Dd.namings
  split <;> split <;> simp

theorem Pd.namings_length_le (d : Pd) : d.namings.length ≤ 3 := by
  unfold Pd.namings
  split <;> simp

theorem Tile.sbRoom_of_le {x : Tile} {n k : Nat} (h : n ≤ k) (hroom : x.sb.length + k ≤ 256) : x.sbRoom n = true :=
  decide_eq_true (by omega)

/-! A stalled ISSUE whose descriptor has been read. -/

section
variable {s : State} {t : Nat}

/-- The state in which the core offers a descriptor. -/
def State.offering (s : State) (t : Nat) (i : Issue) (ws : List W64) : State :=
  s.updCore t (fun c => { c with issue := some { i with words := some ws } })

/-- The core of tile t stalls on an ISSUE whose descriptor it has read, its earlier stores performed. -/
structure State.Offers (s : State) (t : Nat) (i : Issue) (ws : List W64) : Prop where
  st : (s.core t).st = 2
  issue : (s.core t).issue = some i
  words : i.words = some ws
  stores : s.storesDone (fun w => w == .core t) = true

variable {i : Issue} {ws : List W64} (h : s.Offers t i ws)
include h

theorem State.Offers.tile_offering (u : Nat) : (s.offering t i ws).tile u = s.tile u := by
  by_cases hu : u = t
  · subst hu
    have hi : { i with words := some ws } = i := by rw [← h.words]
    have hissue := h.issue
    simp only [State.core] at hissue
    simp only [State.offering, State.updCore, State.tile_updTile, hi, ← hissue]
  · exact State.tile_updCore_ne _ _ hu

theorem State.Offers.tryAccept : s.tryAccept t =
    let a := s.globalOf (storeBase t + i.addr)
    if i.func = 0 then (s.offering t i ws).offerPass t ws a
    else if i.func = 1 then (s.offering t i ws).offerPass t ws 0
    else if i.func = 2 then (s.offering t i ws).offerDma t ws i.mover a
    else (s.offering t i ws).offerKernel t ws a := by
  have hgo : ¬ ((s.core t).st ≠ 2 ∨ ¬ s.storesDone (fun w => w == .core t) = true) := by simp [h.st, h.stores]
  simp only [State.tryAccept, h.issue, if_neg hgo, h.words]
  rfl

end

/-! Acceptance: the operation takes its number, its registrations and its place, and the core goes on. -/

section
variable {s : State} {t : Nat} {regs : Nat → List SbReg} {f : Nat → Tile → Tile}

theorem State.tile_acceptOp (hrun : (f (s.core t).nextOp (s.tile t)).dbg.state = 0) : (s.acceptOp t regs f).tile t =
    let x := f (s.core t).nextOp (s.tile t)
    { x with sb := x.sb ++ regs (s.core t).nextOp,
             core := { x.core with nextOp := (s.core t).nextOp + 1, issue := none, st := 1, pc := x.core.pc + 4, skipBp := false } } := by
  rw [State.acceptOp, State.coreDone_of_running (by rwa [State.dbg, State.tile_updTile]), State.updCore, State.tile_updTile,
    State.tile_updTile]

theorem State.tile_acceptOp_ne {u : Nat} (hu : u ≠ t) : (s.acceptOp t regs f).tile u = s.tile u := by
  rw [State.acceptOp, State.tile_coreDone_ne _ _ hu, State.tile_updTile_ne _ _ hu]

end

/-! A transfer and a kernel go to the queue of their unit. -/

/-- The tile with a descriptor in the queue of a mover. -/
def Tile.withDma (x : Tile) (m : Nat) (d : Dd) (op : Nat) : Tile :=
  { x with movers := SMap.put x.movers m (x.mover m ++
    [{ dd := d, op := op, started := false, issued := false, row := 0, off := 0, rops := 0 }]) }

/-- The tile with a kernel in the queue of its engine. -/
def Tile.withKernel (x : Tile) (k : Kl) (op : Nat) : Tile := { x with tge := { x.tge with kq := x.tge.kq ++ [(k, op)] } }

section
variable {s : State} {t : Nat} {ws : List W64} (addr : W64)

theorem State.offerDma_of_room {named : Option Nat} {m : Nat} (hcheck : (Dd.ofWords ws).check = none)
    (hm : (s.tile t).moverFor named = some m) (hroom : (s.tile t).sb.length + 2 ≤ 256) :
    s.offerDma t ws named addr = s.acceptOp t (fun op => mergeNamings op (.mover t m) false (Dd.ofWords ws).namings)
      (fun op x => x.withDma m (Dd.ofWords ws) op) := by
  have hfits := Tile.sbRoom_of_le (Nat.le_trans (mergeNamings_length_le 0 (.mover t m) false _) (Dd.ofWords ws).namings_length_le) hroom
  simp only [State.offerDma, hcheck, hm, hfits, if_true, Tile.withDma]

theorem State.offerKernel_of_room (hcheck : (Kl.ofWords ws).check = none) (hqueue : (s.tile t).tge.kq.length + 1 < 4)
    (hroom : (s.tile t).sb.length + (mergeNamings 0 (.l1 t) false (Kl.ofWords ws).namings).length ≤ 256) :
    s.offerKernel t ws addr = s.acceptOp t (fun op => mergeNamings op (.l1 t) false (Kl.ofWords ws).namings)
      (fun op x => x.withKernel (Kl.ofWords ws) op) := by
  have hfits := Tile.sbRoom_of_le (Nat.le_refl _) hroom
  have hplace : ¬ 4 ≤ (s.tile t).tge.kq.length + (if (s.tile t).tge.kern.isSome = true then 1 else 0) := by
    split <;> omega
  simp only [State.offerKernel, hcheck, hfits, hplace, not_true, or_self, if_false, Tile.withKernel]

end

/-! A pass joins its queue; its stream, the wait for a ramp token, its trace record and an armed dump come after (R76, R102, R509). -/

section
variable (s : State) (t : Nat)

theorem State.hoistRoom_keeps {α : Type} (f : State → α) (hslice : ∀ (s : State) (n : Nat) (k : Slice), f (s.setSlice n k) = f s)
    (hcount : ∀ (s : State) (i j : Nat), f (s.odInc i j) = f s) (n : Nat) : f (s.hoistRoom n) = f s := by
  simp only [State.hoistRoom]
  split
  · rfl
  split
  · rw [hcount, State.updSlice, hslice]
  · rfl

/-- A stream declaration touches the slices and the count of replaced streams only (R258). -/
theorem State.declareStream_keeps {α : Type} (f : State → α) (hslice : ∀ (s : State) (n : Nat) (k : Slice), f (s.setSlice n k) = f s)
    (hcount : ∀ (s : State) (i j : Nat), f (s.odInc i j) = f s) (d : Pd) : f (s.declareStream t d) = f s := by
  simp only [State.declareStream]
  split
  · rfl
  split
  · rw [State.updSlice, hslice]
  · rw [State.updSlice, hslice, State.hoistRoom_keeps s f hslice hcount]

theorem State.declareStream_tiles (d : Pd) : (s.declareStream t d).tiles = s.tiles :=
  State.declareStream_keeps s t State.tiles (fun _ _ _ => rfl) (fun _ _ _ => State.odInc_tiles ..) d

theorem State.declareStream_mem (d : Pd) : (s.declareStream t d).mem = s.mem :=
  State.declareStream_keeps s t State.mem (fun _ _ _ => rfl) (fun _ _ _ => State.odInc_mem ..) d

theorem State.tile_waitEnded_keeps {α : Type} (g : Tile → α)
    (hg : ∀ (x : Tile) (n : Nat), g { x with arr := { x.arr with tokenWait := n } } = g x) (old : Arr) :
    g ((s.waitEnded t old).tile t) = g (s.tile t) := by
  simp only [State.waitEnded]
  split
  · rfl
  · rw [State.updArr, State.tile_updTile, hg, State.tile_congr s.fresh_tiles]

theorem State.tile_dumpFire_keeps {α : Type} (g : Tile → α)
    (hg : ∀ (x : Tile) (sb : List SbReg) (n : Nat), g { x with sb := sb, core := { x.core with nextOp := n } } = g x) (d : Pd) (no : Nat) :
    g ((s.dumpFire t d no).tile t) = g (s.tile t) := by
  simp only [State.dumpFire]
  split
  · rfl
  split
  · rfl
  split
  · rfl
  · exact (congrArg g (State.tile_setTile ..)).trans (hg ..)

theorem State.dumpFire_mem (d : Pd) (no : Nat) : (s.dumpFire t d no).mem = s.mem := by
  simp only [State.dumpFire]
  split
  · rfl
  split
  · rfl
  split <;> rfl

/-- What follows the acceptance of a pass as number `no` of its task. -/
def State.afterPass (ws : List W64) (old : Arr) (no : Nat) : State :=
  (((s.declareStream t (Pd.ofWords ws)).waitEnded t old).traceTile t 0x02 (leBytes 8 (ws.getD 0 0).toNat ++ leBytes 4 no)).dumpFire t
    (Pd.ofWords ws) no

theorem State.tile_afterPass_keeps {α : Type} (g : Tile → α)
    (hwait : ∀ (x : Tile) (n : Nat), g { x with arr := { x.arr with tokenWait := n } } = g x)
    (hdump : ∀ (x : Tile) (sb : List SbReg) (n : Nat), g { x with sb := sb, core := { x.core with nextOp := n } } = g x)
    (ws : List W64) (old : Arr) (no : Nat) : g ((s.afterPass t ws old no).tile t) = g (s.tile t) := by
  rw [State.afterPass, State.tile_dumpFire_keeps _ _ g hdump, State.traceTile, State.tile_congr (State.trace_tiles ..),
    State.tile_waitEnded_keeps _ _ g hwait, State.tile_congr (State.declareStream_tiles ..)]

theorem State.afterPass_mem (ws : List W64) (old : Arr) (no : Nat) : (s.afterPass t ws old no).mem = s.mem := by
  rw [State.afterPass, State.dumpFire_mem, State.traceTile, State.trace_mem, State.waitEnded_mem, State.declareStream_mem]

end

/-- The tile with a pass in the queue of its array (R104). -/
def Tile.withPass (x : Tile) (d : Pd) (op : Nat) (riddle : Bool) : Tile :=
  { x with passNo := x.passNo + 1,
           arr := { x.arr with passes := x.arr.passes ++ [Pass.new d op x.passNo], lastKeep := some d }.accepted riddle }

theorem Tile.withPass_passes (x : Tile) (d : Pd) (op : Nat) (riddle : Bool) :
    (x.withPass d op riddle).arr.passes = x.arr.passes ++ [Pass.new d op x.passNo] := by
  simp only [Tile.withPass, Arr.accepted, Arr.startOff_passes]
  split <;> rfl

theorem State.offerPass_of_room {s : State} {t : Nat} {ws : List W64} (addr : W64)
    (hcheck : (Pd.ofWords ws).check (s.tile t).arr.lastKeep = none) (hqueue : (s.tile t).arr.queued.length < 4)
    (hroom : (s.tile t).sb.length + 3 ≤ 256) :
    s.offerPass t ws addr = (s.acceptOp t (fun op => mergeNamings op (.array t) true (Pd.ofWords ws).namings)
      (fun op x => x.withPass (Pd.ofWords ws) op (s.riddle t))).afterPass t ws (s.tile t).arr (s.tile t).passNo := by
  have hfits := Tile.sbRoom_of_le (Nat.le_trans (mergeNamings_length_le 0 (.array t) true _) (Pd.ofWords ws).namings_length_le) hroom
  have hplace : ¬ (4 ≤ (s.tile t).arr.queued.length ∨
      ¬ (s.tile t).sbRoom (mergeNamings 0 (.array t) true (Pd.ofWords ws).namings).length = true) := by
    simp [hfits, hqueue]
  simp only [State.offerPass, hcheck, if_neg hplace]
  rfl

/-! The commands. -/

theorem State.issueAt_of_aligned {s : State} {t : Nat} {w : W32} {func al : Nat} (mover : Option Nat)
    (hin : ((s.core t).reg (insRa w)).toNat ≤ 0x5F_FFFF) (hal : ((s.core t).reg (insRa w)).toNat % al = 0) :
    s.issueAt t w func al mover =
      s.startIssue t { func := func, mover := mover, addr := ((s.core t).reg (insRa w)).toNat, words := none } := by
  simp only [State.issueAt, if_neg (Nat.not_lt.2 hin), if_neg (not_not_intro hal)]

section
variable {s : State} {t : Fin 144} {i : Issue} {ws : List W64} (h : s.Offers t.val i ws)
include h

theorem State.Offers.core_offering : (s.offering t.val i ws).core t.val = s.core t.val := by
  rw [State.core, h.tile_offering, State.core]

/-- The tile once the operation it offers has been accepted. -/
theorem State.Offers.tile_acceptOp {regs : Nat → List SbReg} {f : Nat → Tile → Tile} (hrun : (s.dbg t.val).state = 0)
    (hf : ∀ op x, (f op x).dbg = x.dbg) : ((s.offering t.val i ws).acceptOp t.val regs f).tile t.val =
      let op := (s.core t.val).nextOp
      let x := f op (s.tile t.val)
      { x with sb := x.sb ++ regs op,
               core := { x.core with nextOp := op + 1, issue := none, st := 1, pc := x.core.pc + 4, skipBp := false } } := by
  rw [State.tile_acceptOp (by rw [hf, h.tile_offering]; exact hrun), h.core_offering, h.tile_offering]

theorem State.Offers.tile_acceptOp_ne {regs : Nat → List SbReg} {f : Nat → Tile → Tile} {u : Nat} (hu : u ≠ t.val) :
    ((s.offering t.val i ws).acceptOp t.val regs f).tile u = s.tile u :=
  (State.tile_acceptOp_ne hu).trans (h.tile_offering u)

theorem exec_issueAccept_dma {m : Nat} (hfunc : i.func = 2) (hcheck : (Dd.ofWords ws).check = none)
    (hm : (s.tile t.val).moverFor i.mover = some m) (hroom : (s.tile t.val).sb.length + 2 ≤ 256) :
    exec (.issueAccept t) s = .next ((s.offering t.val i ws).acceptOp t.val
      (fun op => mergeNamings op (.mover t.val m) false (Dd.ofWords ws).namings) (fun op x => x.withDma m (Dd.ofWords ws) op)) := by
  rw [← h.tile_offering] at hm hroom
  simp only [exec, execIssueAccept, h.tryAccept, hfunc]
  exact congrArg _ (State.offerDma_of_room _ hcheck hm hroom)

theorem exec_issueAccept_pass (hfunc : i.func ≤ 1) (hcheck : (Pd.ofWords ws).check (s.arr t.val).lastKeep = none)
    (hqueue : (s.arr t.val).queued.length < 4) (hroom : (s.tile t.val).sb.length + 3 ≤ 256) :
    exec (.issueAccept t) s = .next (((s.offering t.val i ws).acceptOp t.val
      (fun op => mergeNamings op (.array t.val) true (Pd.ofWords ws).namings)
      (fun op x => x.withPass (Pd.ofWords ws) op ((s.offering t.val i ws).riddle t.val))).afterPass t.val ws (s.arr t.val)
        (s.tile t.val).passNo) := by
  simp only [State.arr] at hcheck hqueue ⊢
  rw [← h.tile_offering] at hcheck hqueue hroom ⊢
  have hoffer (addr : W64) := State.offerPass_of_room addr hcheck hqueue hroom
  have hkind : i.func = 0 ∨ i.func = 1 := by omega
  simp only [exec, execIssueAccept, h.tryAccept]
  rcases hkind with hkind | hkind <;> simp only [hkind] <;> exact congrArg _ (hoffer _)

theorem exec_issueAccept_kernel (hfunc : i.func = 3) (hcheck : (Kl.ofWords ws).check = none)
    (hqueue : (s.tge t.val).kq.length + 1 < 4)
    (hroom : (s.tile t.val).sb.length + (mergeNamings 0 (.l1 t.val) false (Kl.ofWords ws).namings).length ≤ 256) :
    exec (.issueAccept t) s = .next ((s.offering t.val i ws).acceptOp t.val
      (fun op => mergeNamings op (.l1 t.val) false (Kl.ofWords ws).namings) (fun op x => x.withKernel (Kl.ofWords ws) op)) := by
  rw [State.tge, ← h.tile_offering] at hqueue
  rw [← h.tile_offering] at hroom
  simp only [exec, execIssueAccept, h.tryAccept, hfunc]
  exact congrArg _ (State.offerKernel_of_room _ hcheck hqueue hroom)

end

/-- Settles O10: an ISSUE word offers its descriptor at once; a descriptor that passes its checks and finds room joins its queue,
and the core goes on. -/
theorem coreIssueAndAccept : Obligations.CoreIssueAndAccept := by
  intro t s
  refine ⟨fun w hat hcls => ⟨fun hfunc hin hal => ?_, fun hfunc hra => ?_, fun hfunc hin hal => ?_, fun hfunc hin hal => ?_⟩,
    fun i ws hst hissue hwords hstores hrun => ?_⟩
  · simp only [exec, execPass, State.coreExec_of_func _ hat hcls hfunc, State.issueAt_of_aligned _ hin hal]
  · simp only [exec, execPassr, State.coreExec_of_func _ hat hcls hfunc, if_pos hra]
  · simp only [exec, execDma, State.coreExec_of_func _ hat hcls hfunc, State.issueAt_of_aligned _ hin hal, fld_eq_extractLsb', bitOf]
  · simp only [exec, execKlaunch, State.coreExec_of_func _ hat hcls hfunc, State.issueAt_of_aligned _ hin hal]
  have h : s.Offers t.val i ws := ⟨hst, hissue, hwords, hstores⟩
  refine ⟨fun m hfunc hcheck hm hroom => ⟨_, exec_issueAccept_dma h hfunc hcheck hm hroom, ?_⟩,
    fun hfunc hcheck hqueue hroom => ⟨_, exec_issueAccept_pass h hfunc hcheck hqueue hroom, ?_⟩,
    fun hfunc hcheck hqueue hroom => ⟨_, exec_issueAccept_kernel h hfunc hcheck hqueue hroom, ?_⟩⟩
  · rw [State.core, h.tile_acceptOp (f := fun op x => x.withDma m (Dd.ofWords ws) op) hrun (fun _ _ => rfl)]
    exact ⟨rfl, rfl, rfl, SMap.get_put_same .., rfl, fun u hu => h.tile_acceptOp_ne hu, rfl⟩
  · have htile := h.tile_acceptOp hrun (regs := fun op => mergeNamings op (.array t.val) true (Pd.ofWords ws).namings)
      (f := fun op x => x.withPass (Pd.ofWords ws) op ((s.offering t.val i ws).riddle t.val)) (fun _ _ => rfl)
    have hkeeps {α : Type} (g : Tile → α) (hwait : ∀ (x : Tile) (n : Nat), g { x with arr := { x.arr with tokenWait := n } } = g x)
        (hdump : ∀ (x : Tile) (sb : List SbReg) (n : Nat), g { x with sb := sb, core := { x.core with nextOp := n } } = g x) :=
      (State.tile_afterPass_keeps _ t.val g hwait hdump ws (s.arr t.val) (s.tile t.val).passNo).trans (congrArg g htile)
    exact ⟨hkeeps (·.core.st) (fun _ _ => rfl) (fun _ _ _ => rfl), hkeeps (·.core.issue) (fun _ _ => rfl) (fun _ _ _ => rfl),
      hkeeps (·.core.pc) (fun _ _ => rfl) (fun _ _ _ => rfl),
      (hkeeps (·.arr.passes) (fun _ _ => rfl) (fun _ _ _ => rfl)).trans (Tile.withPass_passes ..),
      hkeeps (·.passNo) (fun _ _ => rfl) (fun _ _ _ => rfl), State.afterPass_mem ..⟩
  · rw [State.core, State.tge, h.tile_acceptOp (f := fun op x => x.withKernel (Kl.ofWords ws) op) hrun (fun _ _ => rfl)]
    exact ⟨rfl, rfl, rfl, fun u hu => h.tile_acceptOp_ne hu, rfl⟩

end Sys2Proof.Machine
end

section
/-! The start of a group with a number beyond the 32 bits of a u register's word (R147). -/

namespace Sys2Proof.Machine

/-- A kernel whose next group has the number 2^32. -/
def farKernel : KRun :=
  { kl := { words := [], gen := 0, maskedZero := false, seqMask := 1, groups := 2 ^ 32 + 1, entry := 0, arg := 0,
            wtags := [], rtags := [] },
    op := 0, next := 2 ^ 32, strict := false, flush := false }

/-- The device after reset, with that kernel on tile 0. -/
def farKernelState : State := State.reset.updTge 0 (fun g => { g with kern := some farKernel })

/-- GROUP_START puts the next group of the kernel, with its registers at their start, into slot 0. -/
theorem exec_groupStart_farKernelState : ∃ s' order logical,
    exec (.groupStart 0) farKernelState = .next s' ∧ s'.grp 0 0 = some (Grp.start (2 ^ 32) order 0 0 logical) :=
  ⟨_, _, _, rfl, rfl⟩

/-- A starting group holds the low 32 bits of its number in u1. -/
theorem Grp.start_ureg_one (num order : Nat) (entry arg : W64) (logical : Nat) :
    (Grp.start num order entry arg logical).ureg 1 = BitVec.ofNat 64 (num % 2 ^ 32) := by
  simp [Grp.ureg, Grp.uword, Grp.start, SMap.get, RWord.of]

/-- Refutes O20: the statement bounds no group number, and GROUP_START writes the low 32 bits of the number alone into u1, so that
group 2^32 starts with u1 zero. (A launch descriptor has 16 bits of groups, R130; the state of the statement need not come of one.) -/
theorem not_groupKernelLife : ¬ Obligations.GroupKernelLife := by
  intro h
  obtain ⟨-, hstart, -⟩ := h 0 farKernelState
  obtain ⟨s', g, hexec, hg, -, -, -, -, -, -, hnum, -⟩ := hstart farKernel 0 rfl (by decide) rfl rfl (by decide) (by decide) rfl (by simp)
  obtain ⟨s1, order, logical, hexec1, hg1⟩ := exec_groupStart_farKernelState
  obtain rfl : s1 = s' := Host.Outcome.next.inj (hexec1.symm.trans hexec)
  obtain rfl : Grp.start (2 ^ 32) order 0 0 logical = g := Option.some.inj (hg1.symm.trans hg)
  rw [Grp.start_ureg_one] at hnum
  exact absurd hnum (by decide)

end Sys2Proof.Machine
end

section
/-! Placement and completion of tasks (R118, R122, R182–R187). -/

namespace Sys2Proof.Machine

/-! Placement. -/

/-- The first eligible task is placed where the choice of R183 gives its tiles and their regions are on. -/
theorem exec_taskPlace {p : Fin 8} {s : State} {k : Task} {ts : List Nat} (hstate : (s.part p.val).state = 0)
    (hsched : s.sched.running = true) (hstandby : s.pwr.standby = false) (hchanging : s.pwr.changing = false)
    (hfind : s.sched.tasks.find? (fun k => k.part == p.val && decide (k.st = .window) && s.eligible k) = some k)
    (hctx : (s.part p.val).ctx = k.ctx ∨ s.partBusy p.val = false) (hchoose : s.choose128 p.val k.words = some ts)
    (hon : ∀ t ∈ ts, (s.region (sectorOf t)).state = 3 ∧ (s.region (8 + sectorOf t)).state = 3) :
    let order := s.byLogical ts
    let s1 := (order.foldl (fun s t => s.startTile k order t) (s.switchCtx p.val k.ctx)).trace srcSched 0x08 0 (some k.ctx)
      (leBytes 8 k.seq)
    exec (.taskPlace p) s = .next ((s1.updTask p.val k.seq (fun k => { k with st := .placed, tiles := order })).syncSettle) := by
  have hgo : ¬ ((s.part p.val).state ≠ 0 ∨ ¬ s.sched.running = true ∨ s.pwr.standby = true ∨ s.pwr.changing = true) := by
    simp [hstate, hsched, hstandby, hchanging]
  have hswitch : ¬ ((s.part p.val).ctx ≠ k.ctx ∧ s.partBusy p.val = true) := by
    rcases hctx with h | h <;> simp [h]
  have hregions : (ts.flatMap (fun t => faceRegions (sectorOf t))).any (fun r => (s.region r).state != 3) = false := by
    simpa [faceRegions, or_imp, forall_and] using hon
  simp only [exec, execTaskPlace, if_neg hgo, hfind, if_neg hswitch, hchoose, hregions, Bool.false_eq_true, if_false]

/-! The start of a tile (R118, R184). -/

theorem findIdx?_eq_some_of_first {l : List Nat} {t i : Nat} (hi : l[i]? = some t) (hfirst : ∀ j < i, l[j]? ≠ some t) :
    l.findIdx? (fun u => u == t) = some i := by
  obtain ⟨hlt, hget⟩ := List.getElem?_eq_some_iff.1 hi
  refine List.findIdx?_eq_some_iff_getElem.2 ⟨hlt, beq_iff_eq.2 hget, fun j hj hju => hfirst j hj ?_⟩
  rw [List.getElem?_eq_getElem (Nat.lt_trans hj hlt)]
  exact congrArg some (beq_iff_eq.1 hju)

/-- The registers of a core that starts as the tile of an index (R118). -/
def Task.startRegs (k : Task) (i : Nat) : SMap W64 :=
  [(1, wd k.words 2), (2, wd k.words 3), (3, BitVec.ofNat 64 i), (4, BitVec.ofNat 64 (tdTiles k.words)), (5, BitVec.ofNat 64 k.seq),
    (6, BitVec.ofNat 64 k.part)]

theorem Task.get_startRegs_of_le (k : Task) (i : Nat) {r : Nat} (hr : 7 ≤ r) : SMap.get 0 (k.startRegs i) r = 0 := by
  have hne {j : Nat} (hj : j < 7) : r ≠ j := by omega
  simp [Task.startRegs, SMap.get, hne]

section
variable (s : State) (k : Task) (order : List Nat) (t : Nat)

theorem State.tile_startTile : (s.startTile k order t).tile t = { s.tile t with
    task := some (k.part, k.seq), ctx := k.ctx, index := (order.findIdx? (fun u => u == t)).getD 0, passNo := 0, aborting := false,
    core := { Core.init with
      g := k.startRegs ((order.findIdx? (fun u => u == t)).getD 0), pc := wd k.words 1, st := 1, fault := (s.core t).fault,
      faultPc := (s.core t).faultPc, timeout := s.odNat 0x2C00 1 },
    sb := [], movers := [], arr := { s.arr t with stat := none, lastKeep := none },
    dbg := { s.dbg t with state := 0, step := 0 } } :=
  State.tile_setTile ..

theorem State.tile_startTile_ne {u : Nat} (hu : u ≠ t) : (s.startTile k order t).tile u = s.tile u := State.tile_setTile_ne _ _ hu

end

/-! Completion (R122, R186, R187). -/

section
variable {s : State} {t : Fin 144} {p n : Nat} {k : Task}

theorem exec_tileComplete (htask : (s.tile t.val).task = some (p, n)) (hk : s.taskOf p n = some k) (hended : (s.core t.val).ended = true)
    (hqueues : (s.tile t.val).queuesEmpty = true) (hsb : (s.tile t.val).sb = []) (hreqs : s.tileReqs t.val = false)
    (habort : k.abort = none) (hst : k.st = .placed) (hnew : t.val ∉ k.complete) :
    let k' : Task := { k with complete := k.complete ++ [t.val] }
    let s1 := s.updTask p n (fun _ => k')
    exec (.tileComplete t) s = .next (
      if k'.complete.length < k.tiles.length then s1
      else
        let s2 := k.tiles.foldl (fun s u => s.taskLeaves u true) (s1.updTask p n (fun k => { k with st := .done }))
        (((s2.writeStatus k' 5 0).odInc (0x2B00 + p) 8).settlePart p).syncSettle) := by
  have hgo : ¬ (¬ (s.tile t.val).core.ended = true ∨ ¬ (s.tile t.val).queuesEmpty = true ∨ ¬ (s.tile t.val).sb.isEmpty = true ∨
      s.tileReqs t.val = true ∨ k.abort.isSome = true ∨ k.st ≠ .placed ∨ t.val ∈ k.complete) := by
    simp only [State.core] at hended
    simp [hended, hqueues, hsb, hreqs, habort, hst, hnew]
  simp only [exec, execTileComplete, htask, hk, if_neg hgo]

theorem exec_tdIncApply {p : Fin 8} {seq : Nat} (hk : s.taskOf p.val seq = some k) (hst : k.st = .done)
    (hwritten : ∀ r ∈ s.reqs, r.who = .devSched → r.op ≠ taskOp p.val seq) :
    exec (.tdIncApply p seq) s = .next
      (([11, 12, 13].foldl (fun s i => s.applyInc k (wd k.words i)) s).finalise p.val seq).syncSettle := by
  have hgo : ¬ (k.st ≠ .done ∨ s.reqs.any (fun r => r.who == .devSched && r.op == taskOp p.val seq) = true) := by
    simpa [hst] using hwritten
  simp only [exec, execTdIncApply, hk, if_neg hgo]

end

/-! Increments of a counter that is neither paired nor bound to a role, by the device itself (R211, R215). -/

section
variable {α : Type} (f : State → α) (hcount : ∀ s : State, f (s.odInc 0x2E01 8) = f s)
  (hbuf : ∀ (s : State) (g : Trc → Trc), f (s.updTrc g) = f s) (htile : ∀ (s : State) (t : Nat) (g : Tile → Tile), f (s.updTile t g) = f s)
  (hreqs : ∀ (s : State) (rs : List Req), f { s with reqs := rs } = f s)

include htile in
theorem State.coreSync_keeps (s : State) (t : Nat) (v : W64) : f (s.coreSync t v) = f s := by
  simp only [State.coreSync]
  split
  · split
    · rw [State.updCore, htile]
    · rw [State.coreDone, htile, State.updCore, htile]
  · rfl

include htile hreqs in
theorem State.groupSync_keeps (s : State) (t slot : Nat) (lane : Option Nat) (v : Nat) : f (s.groupSync t slot lane v) = f s := by
  have hset (s : State) (g : Grp) : f (s.setGrp t slot g) = f s := by rw [State.setGrp, State.updTge, htile]
  have hacquire (s : State) : f (s.acquireFence t slot) = f s :=
    (hreqs ..).trans ((htile ..).trans (htile ..))
  have hend (s : State) (g : Tge → Tge) : f ((s.updTge t g).groupDone t slot) = f s := by
    rw [State.groupDone, State.updDbg, htile, State.updTge, htile]
  have hif {c : Prop} [Decidable c] {a b : State} (ha : f a = f s) (hb : f b = f s) : f (if c then a else b) = f s := by
    split
    · exact ha
    · exact hb
  unfold State.groupSync
  split
  · rfl
  split
  · rfl
  · exact hif (hset ..) (hif ((hend ..).trans ((hacquire _).trans (hset ..))) ((hacquire _).trans (hset ..)))

include hcount hbuf htile hreqs

/-- The answer of an operation touches its tile, the requests of its tile, and the trace. -/
theorem State.deliver_keeps (s : State) (w : SWait) (status : Nat) : f (s.deliver w status) = f s := by
  have htrace := State.trace_keeps f hcount hbuf
  simp only [State.deliver]
  split
  · rw [State.coreSync_keeps f htile, htrace]
  · rw [State.groupSync_keeps f htile hreqs, htrace]
  · exact htrace ..

theorem State.endWaits_keeps
    (hwaits : ∀ (s : State) (g : List SWait → List SWait), f (s.updSync (fun y => { y with waits := g y.waits })) = f s)
    (s : State) (p : SWait → Bool) (status : Nat) : f (s.endWaits p status) = f s :=
  List.foldlRecOn (motive := fun s' : State => f s' = f s) _ _ (hwaits s (·.filter (fun w => !p w)))
    (fun s' hs' w _ => (State.deliver_keeps f hcount hbuf htile hreqs s' w status).trans hs')

end

section
variable {s : State} {n a : Nat}

/-- Raising a counter leaves every other counter, every SYN_ATTR and the memories, whatever waits it ends. -/
theorem State.raise_frame (s : State) (n a : Nat) :
    (s.raise n a).sync.ctr = SMap.put s.sync.ctr n (BitVec.ofNat 64 (s.ctr n + a)) ∧
    (s.raise n a).sync.ctrAttr = s.sync.ctrAttr ∧ (s.raise n a).mem = s.mem := by
  have hkeeps (p : SWait → Bool) := State.endWaits_keeps (fun s => (s.sync.ctr, s.sync.ctrAttr, s.mem)) (fun _ => rfl) (fun _ _ => rfl)
    (fun _ _ _ => rfl) (fun _ _ => rfl) (fun _ _ => rfl) (s.setCtr n (s.ctr n + a)) p SYN_OK
  simp only [Prod.mk.injEq] at hkeeps
  exact hkeeps _

/-- An increment that fits is applied to a counter whose SYN_ATTR is zero. -/
theorem State.incOwn_of_plain (hattr : s.attr .ctr n = 0) (hfit : s.ctr n + a < 2 ^ 64) : s.incOwn n a = s.raise n a := by
  have hcheck : s.incCheck n a none false = .ok := by
    simpa [State.incCheck, hattr, atRole, atPair, atConsumer, bitOf] using hfit
  have hkept : (s.raise n a).attr .ctr n = 0 := by
    obtain ⟨-, hctrAttr, -⟩ := State.raise_frame s n a
    rw [State.attr, hctrAttr]
    exact hattr
  simp [State.incOwn, State.incNow, hcheck, State.freeHeld, hkept, atConsumer, atPair, bitOf]

end

/-- Settles O31: the first eligible task is placed on its tiles, each of which starts as R118 says; the last tile's share ends the task,
and its increments raise their counters. -/
theorem taskPlacementAndCompletion : Obligations.TaskPlacementAndCompletion := by
  refine ⟨fun p s k ts hstate hsched hstandby hchanging hfind hctx hchoose hon =>
      exec_taskPlace hstate hsched hstandby hchanging hfind hctx hchoose hon, fun s k order t i hi hfirst => ?_,
    fun t s p n k htask hk hended hqueues hsb hreqs habort hst hnew => ?_, fun p s seq k hk hst hwritten => exec_tdIncApply hk hst hwritten,
    fun s k w n hvalid hlocal hn hattr hfit => ?_⟩
  · have hidx := findIdx?_eq_some_of_first hi hfirst
    have htiles : BitVec.ofNat 64 (tdTiles k.words) = ((k.words.getD 0 0).extractLsb' 40 8).setWidth 64 := by
      rw [tdTiles, fld_eq_extractLsb', BitVec.ofNat_toNat, wd]
    dsimp only
    rw [State.core, State.tile_startTile, hidx, ← htiles]
    refine ⟨rfl, rfl, rfl, rfl, rfl, rfl, rfl, rfl, fun r hr => ?_, rfl, rfl, rfl, rfl,
      fun u hu => State.tile_startTile_ne s k order t hu, rfl, rfl⟩
    rw [Core.reg, if_neg (by omega)]
    exact k.get_startRegs_of_le i hr
  · simp only [exec_tileComplete htask hk hended hqueues hsb hreqs habort hst hnew, List.length_append, List.length_singleton]
    exact ⟨fun hmore => by rw [if_pos hmore], fun hlast => by rw [if_neg (Nat.not_lt.2 hlast)]⟩
  · have hraise : s.applyInc k w = s.raise n (fld w 0 32) := by
      rw [State.applyInc, if_neg (by simp [bitOf, hvalid]), if_pos hlocal, ← hn, State.incOwn_of_plain hattr hfit]
    obtain ⟨hctr, -, hmem⟩ := State.raise_frame s n (fld w 0 32)
    rw [hraise]
    refine ⟨?_, fun m hm => ?_, hmem⟩
    · rw [State.ctr, hctr, SMap.get_put_same, BitVec.toNat_ofNat, Nat.mod_eq_of_lt hfit]
    · rw [State.ctr, hctr, SMap.get_put_ne _ _ _ hm, State.ctr]

end Sys2Proof.Machine
end
